-- ==== Sys2Proof/Word.lean ====
section
/-! DEFINITION. The word types of the messages: a byte and the fields of two and four bytes (R203, R205). -/

namespace Sys2Proof

/-- One byte of a frame (R203). -/
abbrev Byte := BitVec 8
/-- A field of two bytes (R205). -/
abbrev Half := BitVec 16
/-- A field of four bytes (R205). -/
abbrev Long := BitVec 32

end Sys2Proof
end

