-- ==== Sys2Proof/Syntax.lean ====
section
/-! DEFINITION. The commands of the DF330: one constructor of `Instr` for each row of the table of operations and
events, with the operands each row carries. A request of a link carries the link, the request tag the master chose
(R179) and the raw fields of its body (R206): a value outside its range is a value the owning block refuses. -/

namespace Sys2Proof

/-- The three poles (Conventions of the manual). -/
inductive Pole
  | A | B | C
  deriving DecidableEq, Repr

/-- A pole set, one flag for each pole (Conventions of the manual). -/
structure PoleSet where
  a : Bool
  b : Bool
  c : Bool
  deriving DecidableEq, Repr

/-- The three links (R178). -/
inductive Link
  | PROTECTION | RADIO | CREW
  deriving DecidableEq, Repr

/-- The thirteen retained items (10.1, R194). -/
inductive Item
  | GROUP1 | GROUP2 | GROUP3 | GROUP4 | UNIT | SELECTED | TAGS | ROSTER | WEAR | LOCKOUT | HEALTH | SOC | HOURS
  deriving DecidableEq, Repr

/-- The two auxiliary contacts of a pole: closed or open (R2). -/
structure Contacts where
  aClosed : Bool
  bClosed : Bool
  deriving DecidableEq, Repr

/-- The plain input lines as they stand when the part is powered: the contact pairs, the coil-check inputs (a pole is
in `coilOpen` while its input shows the coil open) and the supply sense input. -/
structure Lines where
  a : Contacts
  b : Contacts
  c : Contacts
  coilOpen : PoleSet
  supply : Bool
  deriving DecidableEq, Repr

/-- The commands: the rows of the table of operations and events, in the table's order. -/
inductive Instr
  /-- POWER_UP (R200): the input lines as the part finds them, and the images that disagree with their check value. -/
  | powerUp (lines : Lines) (bad : List Item)
  /-- RESTART_SEQUENCE_BEGIN (R199): the images that disagree with their check value (R197; assumption 6); none where left out. -/
  | restartSequenceBegin (bad : List Item := [])
  /-- FRAME_RECEIVE (R181): a complete frame on a link, with the check it carries. -/
  | frameReceive (l : Link) (kind tag : Byte) (body : List Byte) (check : Half)
  /-- GAP_TIMER_EXPIRY (R180). -/
  | gapTimerExpiry (l : Link)
  /-- MESSAGE_LEFT (R186): the first message of the link's outbound list has been sent. -/
  | messageLeft (l : Link)
  /-- MEASUREMENT (R42): the body of a measurement message on the protection link. -/
  | measurement (body : List Byte)
  /-- CONTACT_CHANGE (R2): the pole's inputs as they now stand (assumption 5 for the coil-check input). -/
  | contactChange (x : Pole) (aClosed bClosed coilOpen : Bool)
  /-- SUPPLY_SENSE_CHANGE (R141). -/
  | supplySenseChange (present : Bool)
  /-- TRIP (R4). -/
  | trip (l : Link) (tag poles flags : Byte) (crew : Option Half)
  /-- CLOSE (R5). -/
  | close (l : Link) (tag poles : Byte) (crew : Half)
  /-- CLOSE CANCEL (R15). -/
  | closeCancel (l : Link) (tag : Byte)
  /-- CLEAR MECH FAULT (R19). -/
  | clearMechFault (l : Link) (tag : Byte) (crew : Half) (poles : Byte)
  /-- RESET WEAR (R21). -/
  | resetWear (l : Link) (tag : Byte) (crew : Half) (poles : Byte)
  /-- HISTORY READ (R22). -/
  | historyRead (l : Link) (tag position : Byte)
  /-- TAG APPLY (R100). -/
  | tagApply (l : Link) (tag kind poles : Byte) (crew : Half) (note : List Byte)
  /-- TAG REMOVE (R102, R103). -/
  | tagRemove (l : Link) (tag number : Byte) (crew : Half)
  /-- ROSTER PUT (R95): `presence` is the presence byte of the valid-until (R205). -/
  | rosterPut (l : Link) (tag : Byte) (crew : Half) (rights presence : Byte) (validUntil : Long)
  /-- ROSTER DROP (R96). -/
  | rosterDrop (l : Link) (tag : Byte) (crew : Half)
  /-- EDIT BEGIN (R84). -/
  | editBegin (l : Link) (tag target : Byte)
  /-- EDIT PUT (R85, R208): the body is the run of items. -/
  | editPut (l : Link) (tag : Byte) (body : List Byte)
  /-- EDIT COMMIT (R86). -/
  | editCommit (l : Link) (tag : Byte)
  /-- EDIT DROP (R88). -/
  | editDrop (l : Link) (tag : Byte)
  /-- READ PENDING (R93). -/
  | readPending (l : Link) (tag : Byte)
  /-- SELECT GROUP (R90). -/
  | selectGroup (l : Link) (tag group : Byte)
  /-- TEMPORARY GROUP (R82). -/
  | temporaryGroup (l : Link) (tag group : Byte) (seconds : Long)
  /-- TEMPORARY CANCEL (R82). -/
  | temporaryCancel (l : Link) (tag : Byte)
  /-- BATTERY TEST (R146). -/
  | batteryTest (l : Link) (tag : Byte)
  /-- PERMIT GRANT (R168). -/
  | permitGrant (l : Link) (tag n : Byte)
  /-- QUEUE POLL (R171). -/
  | queuePoll (l : Link) (tag : Byte)
  /-- SET TIME (R202). -/
  | setTime (l : Link) (tag : Byte) (seconds : Long) (millis : Half)
  /-- RESTART (R198). -/
  | restart (l : Link) (tag : Byte) (crew : Half)
  /-- READ POLES (R43). -/
  | readPoles (l : Link) (tag : Byte)
  /-- READ SEQUENCE (R73). -/
  | readSequence (l : Link) (tag part : Byte)
  /-- READ TAGS (R115). -/
  | readTags (l : Link) (tag start : Byte)
  /-- READ ROSTER (R115). -/
  | readRoster (l : Link) (tag start : Byte)
  /-- READ GROUP (R93). -/
  | readGroup (l : Link) (tag group : Byte)
  /-- READ UNIT (R93). -/
  | readUnit (l : Link) (tag : Byte)
  /-- READ OVERRIDES (R93). -/
  | readOverrides (l : Link) (tag : Byte)
  /-- READ RESERVATIONS (R133). -/
  | readReservations (l : Link) (tag : Byte)
  /-- READ BATTERY (R157). -/
  | readBattery (l : Link) (tag : Byte)
  /-- READ TEST (R157). -/
  | readTest (l : Link) (tag : Byte)
  /-- READ QUEUE (R172). -/
  | readQueue (l : Link) (tag start : Byte)
  /-- READ TIME (R202). -/
  | readTime (l : Link) (tag : Byte)
  /-- TRIP_FIRE (R9). -/
  | tripFire
  /-- CLOSE_START (R8). -/
  | closeStart
  /-- TRIP_WINDOW_EXPIRY (R10). -/
  | tripWindowExpiry
  /-- RETRY_FIRE (R10). -/
  | retryFire
  /-- RETRY_WINDOW_EXPIRY (R10). -/
  | retryWindowExpiry
  /-- CLOSE_WINDOW_EXPIRY (R11). -/
  | closeWindowExpiry
  /-- CLOSE_DELAY_EXPIRY (R15). -/
  | closeDelayExpiry
  /-- LOSS_TIMER_EXPIRY (R28). -/
  | lossTimerExpiry
  /-- DEAD_TIMER_EXPIRY (R53) of a pole, or of the gang it belongs to. -/
  | deadTimerExpiry (x : Pole)
  /-- RECLAIM_TIMER_EXPIRY (R56) of a pole, or of the gang it belongs to. -/
  | reclaimTimerExpiry (x : Pole)
  /-- ENERGY_WAIT_LIMIT (R54) of a pole, or of the gang it belongs to. -/
  | energyWaitLimit (x : Pole)
  /-- OPEN_COUNT_TICK (R62): one more whole second the pole has shown OPEN. -/
  | openCountTick (x : Pole)
  /-- CLAIM_TIMER_EXPIRY (R89). -/
  | claimTimerExpiry
  /-- COLD_LOAD_EXPIRY (R81). -/
  | coldLoadExpiry
  /-- TEMPORARY_EXPIRY (R82). -/
  | temporaryExpiry
  /-- ROSTER_EXPIRY (R97) of a crew's entry. -/
  | rosterExpiry (crew : Half)
  /-- TAPER_RESYNC (R137). -/
  | taperResync
  /-- SOC_PERIODIC_WRITE (R138). -/
  | socPeriodicWrite
  /-- ABSORB_TAPER_EXPIRY (R143). -/
  | absorbTaperExpiry
  /-- ABSORB_TIME_EXPIRY (R143). -/
  | absorbTimeExpiry
  /-- FLOAT_LOW_EXPIRY (R143). -/
  | floatLowExpiry
  /-- TEST_STEP_COMPLETE (R147). -/
  | testStepComplete
  /-- TEST_SUSPEND_LIMIT (R148). -/
  | testSuspendLimit
  /-- TEST_RESUME (R148). -/
  | testResume
  /-- TEST_INTERVAL_HOUR (R151). -/
  | testIntervalHour
  /-- PERIODIC_TEST_BEGIN (R151). -/
  | periodicTestBegin
  /-- EXHAUSTION_WAIT_EXPIRY (R153). -/
  | exhaustionWaitExpiry
  /-- DORMANT_ENTRY (R154). -/
  | dormantEntry
  /-- PERMIT_CALL_REPEAT_EXPIRY (R170). -/
  | permitCallRepeatExpiry
  /-- STATUS_INTERVAL_EXPIRY (R173). -/
  | statusIntervalExpiry
  /-- REPORT_SEND (R166). -/
  | reportSend
  /-- RETAINED_WRITE_END (R194): the write of an item ends, with success or failure. -/
  | retainedWriteEnd (item : Item) (ok : Bool)
  /-- HELD_SETTINGS_APPLY (R91). -/
  | heldSettingsApply
  /-- BYTE_RECEIVE (R180). -/
  | byteReceive (l : Link) (b : Byte)
  /-- POWER_LOSS (R197). -/
  | powerLoss
  deriving DecidableEq, Repr

end Sys2Proof
end

