-- ==== Sys2Proof/Decode.lean ====
section
/-! DEFINITION. The command that a word spells by the bits of the table of operations: no row of it gives bits
(assumption 29). The bodies of the requests are read in Machine/Operands.lean. -/

namespace Sys2Proof

/-- The command a word spells: none, since no row of the table gives bits (assumption 29). -/
def decodeTableWord (_nbits _w : Nat) : Option Instr := none

end Sys2Proof
end

