-- ==== Sys2Proof/Config.lean ====
section
/-! DEFINITION. What is fixed for the part: the constants of the manual, each under a name, and the values the
manual does not state, as constants with no body (assumptions 7, 30). -/

namespace Sys2Proof.Config

/-- First and second trip window, ms (R9, R10). -/
def tripWindow : Nat := 50
/-- Gap between the first window and the second fire, ms (R10). -/
def retryGap : Nat := 20
/-- Close window, ms (R11). -/
def closeWindow : Nat := 100
/-- Loss timer, ms (R27). -/
def lossTime : Nat := 60
/-- Gap timer of a link, ms (R180). -/
def gapTime : Nat := 5
/-- Energy wait limit, ms (R54). -/
def energyWaitLimit : Nat := 30000
/-- Edit claim timer, ms (R89). -/
def claimTime : Nat := 300000
/-- Repeat timer of the permit call, ms (R170). -/
def callRepeat : Nat := 30000
/-- Exhaustion wait, ms (R152). -/
def exhaustionWait : Nat := 30000
/-- Period of the SoC write, ms (R138). -/
def socPeriod : Nat := 600000
/-- Length of the taper run that sets the SoC to capacity, ms (R137). -/
def taperRun : Nat := 600000
/-- Absorb taper run, ms (R143). -/
def absorbTaper : Nat := 1800000
/-- Absorb time, ms (R143). -/
def absorbTime : Nat := 14400000
/-- Float low run, ms (R143). -/
def floatLow : Nat := 60000
/-- One step of the battery test, ms (R147). -/
def testStep : Nat := 1000
/-- Suspension after which a test's progress is discarded, ms (R148). -/
def suspendLimit : Nat := 600000
/-- One hour of the test interval counter, ms (R151). -/
def hour : Nat := 3600000
/-- Accumulator limit (R31). -/
def accLimit : Nat := 10000
/-- Cost of a trip and of a close, BU for each pole (R118). -/
def tripCost : Nat := 8
/-- Cost of a close, BU for each pole (R118). -/
def closeCost : Nat := 14
/-- mA·ms in one mAh (R136). -/
def perMah : Nat := 3600000
/-- Records the report queue holds (R160). -/
def queueMax : Nat := 32
/-- Permits the part holds (R168). -/
def permitMax : Nat := 16
/-- Tags the tag table holds (R99). -/
def tagMax : Nat := 8
/-- Entries the roster holds (R94). -/
def rosterMax : Nat := 16
/-- Entries the history ring holds (R22). -/
def historyMax : Nat := 16
/-- Requests a waiting list holds (R178). -/
def waitingMax : Nat := 3

/-- The dead time of a pole whose shot is none of 1, 2, 3: R52 states a dead time for shots 1, 2 and 3 only, so this is
a FREE VALUE, a function of the three dead times of the profile and of the shot, of which nothing is known (assumption
7; DESIGN CHOICE, safe). `deadTimeOpen` keeps it within the bounds of R44. -/
opaque freeDeadTime : Nat → Nat → Nat → Nat → Nat

/-- The free dead time within the range of R44 and R74: 100 to 180000 ms in steps of 100 ms. -/
def deadTimeOpen (d1 d2 d3 shot : Nat) : Nat := 100 * (1 + freeDeadTime d1 d2 d3 shot % 1800)

/-- The temperature byte of a CHARGER_MODE report queued before any good message has come since start-up: the layout of
R210 gives no coding for an absent temperature, so this is a FREE VALUE of the time of the report (assumption 30; DESIGN
CHOICE, safe). -/
opaque freeTemperature : Nat → Nat → Byte

end Sys2Proof.Config
end

