-- ==== Sys2Proof/Machine/Records.lean ====
section
/-! DEFINITION. The records of the eleven blocks, as the chapters of the manual table them. Names in capitals are the
manual's. Counts and durations are natural numbers; durations are in milliseconds unless the field says otherwise; a
timer is `none` while it is stopped. -/

namespace Sys2Proof.Machine

/-- One thing for each pole. -/
structure PerPole (α : Type) where
  a : α
  b : α
  c : α
  deriving DecidableEq, Repr

/-! ### Time Base (R201) -/

/-- The time base, and also a stamp: seconds, milliseconds, and whether the time is SET (R201). -/
structure Stamp where
  secs : Nat
  ms : Nat
  isSet : Bool
  deriving DecidableEq, Repr

/-! ### Drive Controller (chapter 1) -/

/-- Position of a pole (R1, R2). -/
inductive Position | OPEN | CLOSED | UNKNOWN
  deriving DecidableEq, Repr

/-- Motion of a pole (R1). -/
inductive Motion | NONE | TRIPPING | CLOSING
  deriving DecidableEq, Repr

/-- Cause of a MECH_FAIL (R1). -/
inductive MechCause | NO_MOTION | COIL_OPEN
  deriving DecidableEq, Repr

/-- A pole record (R1). The position is computed from the contact pair (`PoleRec.position`, R2). `closedSince` is the model's own:
the pole has shown CLOSED since it last showed OPEN (R17; assumption 36). -/
structure PoleRec where
  aClosed : Bool
  bClosed : Bool
  motion : Motion
  mechFail : Option MechCause
  handle : Bool
  wear : Nat
  count : Nat
  lastCurrent : Option Nat
  closedSince : Bool
  deriving DecidableEq, Repr

/-- Kind of an operation (R3). -/
inductive OpKind | TRIP | CLOSE
  deriving DecidableEq, Repr

/-- Cause of an operation (R3). -/
inductive OpCause
  | PROTECTIVE | RECLOSE | COMMAND | HOT_LINE_FAILSAFE | BLIND_FAILSAFE | GANG_LOCKOUT | EXHAUSTION | MANUAL_CLOSE
  deriving DecidableEq, Repr

/-- State of an operation (R3). -/
inductive OpState | PENDING | DELAYED | WAIT_ENERGY | IN_FLIGHT | RETRYING | ENDED
  deriving DecidableEq, Repr

/-- Result of an operation (R3, R23). -/
inductive OpResult | COMPLETE | PARTIAL | FAILED | SUPERSEDED | CANCELLED | NO_ENERGY | TAGGED | BLIND
  deriving DecidableEq, Repr

/-- A party that asks for an operation (R3). -/
inductive Requester | SEQUENCER | PROTECTION_LINK | RADIO_LINK | CREW_LINK | BATTERY
  deriving DecidableEq, Repr

/-- A requester entry (R3): the request tag is present for the three links. -/
structure ReqEntry where
  who : Requester
  cause : OpCause
  poles : PoleSet
  tag : Option Byte
  deriving DecidableEq, Repr

/-- An operation record (R3). -/
structure OpRec where
  number : Nat
  kind : OpKind
  poles : PoleSet
  cause : OpCause
  requesters : List ReqEntry
  state : OpState
  result : Option OpResult
  deriving DecidableEq, Repr

/-- The trip pending set: the record of a TRIP in state PENDING (R4), with the closing poles it took from a superseded
close (R13). -/
structure PendingTrip where
  op : OpRec
  closing : PoleSet
  deriving DecidableEq, Repr

/-- The crew entry or the radio entry of the close request list (R5), with the crew entry's delay timer (R15). -/
structure LinkClose where
  op : OpRec
  delay : Option Nat
  deriving DecidableEq, Repr

/-- State of a sequencer close entry in the list (R6). -/
inductive SeqEntry | PENDING | WAIT_ENERGY
  deriving DecidableEq, Repr

/-- Where the operation in flight stands (R9 to R11). -/
inductive FlightPhase | TRIP_WINDOW | RETRY_GAP | RETRY_WINDOW | CLOSE_WINDOW
  deriving DecidableEq, Repr

/-- The operation in flight (R9 to R13): its record, its window, the fire set, the fired poles that showed CLOSED at
the fire, those that have moved, and for a superseding trip the closing poles that showed OPEN at the fire (`mustLeave`)
and those of them that have left OPEN since (`hasLeft`). -/
structure Flight where
  op : OpRec
  phase : FlightPhase
  window : Nat
  fire : PoleSet
  closedAtFire : PoleSet
  moved : PoleSet
  mustLeave : PoleSet
  hasLeft : PoleSet
  start : Stamp
  deriving DecidableEq, Repr

/-- An entry of the history ring (R22). -/
structure HistEntry where
  op : OpRec
  start : Stamp
  currents : PerPole (Option Nat)
  deriving DecidableEq, Repr

/-- The Drive Controller's records. `seq` holds the sequencer entry of each pole; `tripPulse` and `closePulse` are the
fire lines pulsed in the present millisecond (assumption 11); `coilOpen` the coil-check inputs (assumption 5); `ending` holds while
the steps of R14 are taken for an operation (assumption 70). The history ring is newest first. -/
structure Drive where
  poles : PerPole PoleRec
  nextOp : Nat
  trip : Option PendingTrip
  crew : Option LinkClose
  radio : Option LinkClose
  seq : PerPole (Option SeqEntry)
  flight : Option Flight
  history : List HistEntry
  coilOpen : PoleSet
  tripPulse : PoleSet
  closePulse : PoleSet
  ending : Bool
  deriving DecidableEq, Repr

/-! ### Element Unit (chapter 2) -/

/-- The values of a measurement message (R24). -/
structure Values where
  interval : Nat
  phase : PerPole Nat
  ground : Nat
  bank : Nat
  voltage : Nat
  current : Int
  temp : Int
  deriving DecidableEq, Repr

/-- The latest-values record, once a good message has come (R25). -/
structure Latest where
  vals : Values
  arrival : Stamp
  deriving DecidableEq, Repr

/-- Measurement state (R27). -/
inductive MeasState | WAITING | OK | LOST
  deriving DecidableEq, Repr

/-- State of an element (R31). -/
inductive ElemState | IDLE | PICKED_UP | HELD
  deriving DecidableEq, Repr

/-- Curve in use (R31). -/
inductive Curve | FAST | DELAYED
  deriving DecidableEq, Repr

/-- An element record (R31). -/
structure Element where
  state : ElemState
  acc : Nat
  curve : Curve
  armed : Bool
  deriving DecidableEq, Repr

/-- The Element Unit's records: `pickup` is the pickup set formed at the last message evaluated (R38). -/
structure ElementUnit where
  latest : Option Latest
  state : MeasState
  lossTimer : Option Nat
  run : Nat
  phase : PerPole Element
  ground : Element
  pickup : PoleSet
  deriving DecidableEq, Repr

/-! ### Sequencer (chapter 3) -/

/-- State of a pole's sequence (R44). -/
inductive SeqState | CLOSED_IDLE | TIMING | TRIP_WAIT | DEAD | CLOSE_WAIT | RECLAIM | LOCKOUT | OPEN
  deriving DecidableEq, Repr

/-- End note (R44). -/
inductive EndNote | EXHAUSTION | BLIND | HOT_LINE | GANG | COMMAND | SHOTS
  deriving DecidableEq, Repr

/-- Lockout cause (R44). -/
inductive LockCause
  | SHOTS | HOT_LINE | RECLOSE_BLOCK | WEAR | MECH_FAIL | BLIND | NO_ENERGY | COMMAND | HANDLE | GANG | EXHAUSTION | START
  deriving DecidableEq, Repr

/-- The reclaim timer: stopped, or running or held with the time that remains (R44, R56). -/
inductive Reclaim
  | stopped
  | running (ms : Nat)
  | held (ms : Nat)
  deriving DecidableEq, Repr

/-- Pole mode (R71). -/
inductive PoleMode | SINGLE | GANGED
  deriving DecidableEq, Repr

/-- A pole sequence record (R44). `openMs` is the part of a second the pole has shown OPEN beyond its open count
(assumption 9). -/
structure SeqRec where
  state : SeqState
  shot : Nat
  deadTimer : Option Nat
  deadLength : Nat
  newValue : Bool
  reclaim : Reclaim
  energyWait : Nat
  openCount : Nat
  openMs : Nat
  departure : Nat
  ganged : Bool
  superseded : Bool
  endNote : Option EndNote
  lastTrip : Option OpCause
  lockout : Option LockCause
  deriving DecidableEq, Repr

/-- The Sequencer's records (R44): `pickup` is its copy of the pickup set, `meas` the measurement state last told. `told` is the
model's own: the poles that a LOCKOUT report made in mid-event names, empty between events (assumption 19). -/
structure Sequencer where
  recs : PerPole SeqRec
  mode : PoleMode
  pendingMode : Option PoleMode
  pickup : PoleSet
  meas : MeasState
  quiescent : Bool
  told : PoleSet
  deriving DecidableEq, Repr

/-! ### Profile Unit (chapter 4) -/

/-- A point of a curve: multiple of pickup in tenths, operate time in ms (R74). -/
structure Point where
  multiple : Nat
  time : Nat
  deriving DecidableEq, Repr

/-- A group record (R74). -/
structure Group where
  phasePickup : Nat
  groundPickup : Nat
  groundEnabled : Bool
  fast : List Point
  delayed : List Point
  highSet : Option Nat
  opsToLockout : Nat
  fastOps : Nat
  dead1 : Nat
  dead2 : Nat
  dead3 : Nat
  reclaimS : Nat
  mode : PoleMode
  coldMult : Nat
  coldS : Nat
  deriving DecidableEq, Repr

/-- The UNIT record (R75). -/
structure UnitRec where
  closeDelayS : Nat
  capacity : Nat
  conserve : Nat
  reserve : Nat
  cutoff : Nat
  taper : Nat
  weakDrop : Nat
  failedDrop : Nat
  testHours : Nat
  statusMin : Nat
  callThreshold : Nat
  coldOpenS : Nat
  openOnExhaustion : Bool
  deriving DecidableEq, Repr

/-- The four stored groups (R74). -/
structure Groups where
  g1 : Group
  g2 : Group
  g3 : Group
  g4 : Group
  deriving DecidableEq, Repr

/-- A TEMPORARY frame: its group and its remaining time (R78, R82). -/
structure TempFrame where
  group : Nat
  timer : Nat
  deriving DecidableEq, Repr

/-- What an edit works on: a group's number and copy, or a copy of the UNIT record (R83). -/
inductive Pending
  | group (n : Nat) (g : Group)
  | unit (u : UnitRec)
  deriving DecidableEq, Repr

/-- Claim state (R83): in EDITING with the claim timer's remaining time, in COMMIT_WAIT with the held commit's tag. -/
inductive ClaimState
  | EDITING (timer : Nat)
  | COMMIT_WAIT (tag : Byte)
  deriving DecidableEq, Repr

/-- The edit claim while a link holds it (R83). -/
structure Claim where
  holder : Link
  pending : Pending
  state : ClaimState
  deriving DecidableEq, Repr

/-- A held selection (R90). -/
structure HeldSelection where
  group : Nat
  link : Link
  tag : Byte
  deriving DecidableEq, Repr

/-- The Profile Unit's records. The override list is the three frames of R78: present or not, with their timers. -/
structure ProfileUnit where
  groups : Groups
  unit : UnitRec
  selected : Nat
  hotLine : Bool
  temporary : Option TempFrame
  coldLoad : Option Nat
  claim : Option Claim
  held : Option HeldSelection
  deriving DecidableEq, Repr

/-- Source of the effective profile (R79). -/
inductive Source
  | GROUP (n : Nat)
  | HOT_LINE
  | TEMPORARY (n : Nat)
  | COLD_LOAD
  deriving DecidableEq, Repr

/-- The effective profile: its source and its settings (R78, R79). -/
structure Profile where
  source : Source
  set : Group
  deriving DecidableEq, Repr

/-! ### Tag Unit (chapter 5) -/

/-- The rights of a crew (R94). -/
structure Rights where
  tag : Bool
  localOperate : Bool
  supervise : Bool
  deriving DecidableEq, Repr

/-- A roster entry (R94): `valid` is false once the entry is EXPIRED. -/
structure RosterEntry where
  crew : Nat
  rights : Rights
  validUntil : Option Nat
  valid : Bool
  deriving DecidableEq, Repr

/-- Kind of a tag (R99). -/
inductive TagKind | HOT_LINE | CLEARANCE | RECLOSE_BLOCK | LOCAL_CONTROL
  deriving DecidableEq, Repr

/-- A tag record (R99): the origin is the crew link (`byCrew`) or the radio link; an absent note is the empty list. -/
structure Tag where
  number : Nat
  kind : TagKind
  poles : PoleSet
  crew : Nat
  byCrew : Bool
  applied : Stamp
  note : List Byte
  deriving DecidableEq, Repr

/-- The Tag Unit's tables (R94, R99). -/
structure TagUnit where
  roster : List RosterEntry
  tags : List Tag
  nextTag : Nat
  deriving DecidableEq, Repr

/-! ### Energy Unit (chapter 6) -/

/-- The close entry a reservation names (R119). -/
inductive EntryName
  | CREW
  | RADIO
  | SEQ (x : Pole)
  deriving DecidableEq, Repr

/-- A close reservation (R119). -/
structure Reservation where
  entry : EntryName
  value : Nat
  deriving DecidableEq, Repr

/-- The Energy Unit's records: the bank level record (R116; `deficit` is true while the flag is SET), the reservation
list (R119), the waiting order as units of poles (R125) and the bank charger line (R129). `split`, the model's own: the poles of
units that a combined close split back into and that no waiting check grants before the level rises or another claim is
released (R124; assumption 42). -/
structure EnergyUnit where
  level : Option Nat
  fresh : Bool
  deficit : Bool
  tripReserve : Nat
  closes : List Reservation
  waiting : List PoleSet
  split : PoleSet
  charger : Bool
  deriving DecidableEq, Repr

/-! ### Battery Controller (chapter 7) -/

/-- Health of the battery (R134). -/
inductive Health | UNTESTED | GOOD | WEAK | FAILED
  deriving DecidableEq, Repr

/-- Energy level (R134). -/
inductive EnergyLevel | NORMAL | CONSERVE | RESERVE | EXHAUSTED
  deriving DecidableEq, Repr

/-- Charger mode (R134). -/
inductive ChargerMode | OFF | BULK | ABSORB | FLOAT | INHIBIT_COLD | INHIBIT_HOT
  deriving DecidableEq, Repr

/-- Part state (R134). -/
inductive PartState | RUN | DORMANT
  deriving DecidableEq, Repr

/-- An exhaustion wait: remaining time and whether the EXHAUSTION record has been sent (R134, R152). -/
structure ExhWait where
  remaining : Nat
  sent : Bool
  deriving DecidableEq, Repr

/-- The battery values of the last good message (R135). -/
structure BatValues where
  voltage : Nat
  current : Int
  temp : Int
  interval : Nat
  deriving DecidableEq, Repr

/-- Origin of a battery test (R146). -/
inductive TestOrigin | PERIODIC | CREW_LINK | RADIO_LINK
  deriving DecidableEq, Repr

/-- Result of a battery test (R146). -/
inductive TestResult | GOOD | WEAK | FAILED | ABANDONED
  deriving DecidableEq, Repr

/-- State of the battery test record (R146). -/
inductive TestState
  | IDLE
  | RUNNING
  | SUSPENDED
  | DONE (r : TestResult)
  deriving DecidableEq, Repr

/-- The battery test record (R146): `step` is what remains of the step in progress, `suspendedMs` the time suspended. -/
structure TestRec where
  origin : Option TestOrigin
  tag : Option Byte
  state : TestState
  steps : Nat
  before : Option Nat
  minimum : Option Nat
  suspendedMs : Nat
  restore : Option ChargerMode
  drop : Option Nat
  step : Option Nat
  deriving DecidableEq, Repr

/-- The Battery Controller's records (R134) and lines. The three timers of R143 and the taper run of R137 hold the time
elapsed; `okTemp` is the temperature of the last message taken while OK (R145); `intervalMs` is the seconds part of the
test interval counter in milliseconds (assumption 9); `load` is the test load line; `procPower` the power lines of the
radio and protection processors, which the Battery Controller always drives together (R154, R155). -/
structure Battery where
  soc : Nat
  rem : Nat
  capacity : Nat
  health : Health
  level : EnergyLevel
  supply : Bool
  mode : ChargerMode
  heater : Bool
  partState : PartState
  wait : Option ExhWait
  vals : Option BatValues
  okTemp : Option Int
  absorbTaper : Option Nat
  absorbTime : Option Nat
  floatLow : Option Nat
  taperRun : Option Nat
  socTimer : Nat
  test : TestRec
  hours : Nat
  intervalMs : Nat
  posted : Bool
  load : Bool
  procPower : Bool
  deriving DecidableEq, Repr

/-! ### Report Unit (chapter 8) -/

/-- Class of a report (R158). -/
inductive ReportClass | ALARM | OPERATION | TAG | ENERGY | STATUS
  deriving DecidableEq, Repr

/-- Kind of a report (R159), in the order of its table. -/
inductive ReportKind
  | MECH_FAIL | MEAS_LOST | ENERGY_DEFICIT | BATTERY_FAILED | WEAR_LIMIT | EXHAUSTION | STORE_FAULT
  | TRIP_DONE | CLOSE_DONE | LOCKOUT | SEQ_RESET | HANDLE_OPEN
  | TAG_APPLIED | TAG_REMOVED | ROSTER_EXPIRED
  | LEVEL_CHANGE | CHARGER_MODE | BATTERY_TEST_RESULT | SUPPLY_LOST | SUPPLY_BACK
  | SNAPSHOT | PROFILE_CHANGE | MEAS_OK | WEAR_WARN | RESTART
  deriving DecidableEq, Repr

/-- A report record (R158): the class is that of its kind. -/
structure Report where
  number : Nat
  kind : ReportKind
  poles : Option PoleSet
  first : Stamp
  last : Stamp
  count : Nat
  gap : Bool
  body : List Byte
  deriving DecidableEq, Repr

/-- The Report Unit's records (chapter 8): `called` is true in CALLED, `sending` in TRANSMITTING; `statusTimer` is none
while the status interval counter is stopped. -/
structure ReportUnit where
  queue : List Report
  nextNumber : Nat
  gapPending : Bool
  permits : Nat
  used : Nat
  called : Bool
  callTimer : Option Nat
  depthMark : Bool
  sending : Bool
  statusTimer : Option Nat
  level : EnergyLevel
  partState : PartState
  deriving DecidableEq, Repr

/-! ### Link Interface (chapter 9) -/

/-- A request of a link with the raw fields of its body (R206). -/
inductive Request
  | trip (poles flags : Byte) (crew : Option Half)
  | close (poles : Byte) (crew : Half)
  | closeCancel
  | clearMechFault (crew : Half) (poles : Byte)
  | resetWear (crew : Half) (poles : Byte)
  | historyRead (position : Byte)
  | tagApply (kind poles : Byte) (crew : Half) (note : List Byte)
  | tagRemove (number : Byte) (crew : Half)
  | rosterPut (crew : Half) (rights presence : Byte) (validUntil : Long)
  | rosterDrop (crew : Half)
  | editBegin (target : Byte)
  | editPut (body : List Byte)
  | editCommit
  | editDrop
  | readPending
  | selectGroup (group : Byte)
  | temporaryGroup (group : Byte) (seconds : Long)
  | temporaryCancel
  | batteryTest
  | permitGrant (n : Byte)
  | queuePoll
  | setTime (seconds : Long) (millis : Half)
  | restart (crew : Half)
  | read (item number : Byte)
  deriving DecidableEq, Repr

/-- Answer codes (R185), in the order of their table. -/
inductive AnswerCode
  | DONE | STARTED | DONE_NOT_RETAINED | BUSY | NOT_PERMITTED | NO_RIGHT | UNKNOWN_CREW | TAGGED | NO_ENERGY | BLIND
  | LOCKED | RANGE | FULL | DUPLICATE | NOT_FOUND | HOLDS_TAGS | BAD_STATE | MALFORMED | DORMANT
  deriving DecidableEq, Repr

/-- Settings results of an END message (R188). -/
inductive SettingsResult | COMPLETE | NOT_RETAINED | CANCELLED | SUPERSEDED
  deriving DecidableEq, Repr

/-- What an END message reports (R188). -/
inductive EndBody
  | operation (result : OpResult) (number : Nat)
  | settings (result : SettingsResult)
  | test (result : TestResult) (before minimum drop : Option Nat)
  deriving DecidableEq, Repr

/-- An outbound message (R185, R188, R166, R170): an answer carries the kind of its frame, a code and the content as
R209 and R212 lay it out. -/
inductive Message
  | answer (kind tag : Byte) (code : AnswerCode) (content : List Byte)
  | endMsg (tag : Byte) (body : EndBody)
  | report (r : Report)
  | permitCall (counts : List Nat) (permits : Nat) (level : EnergyLevel)
  deriving DecidableEq, Repr

/-- A request in a waiting list (R178). -/
structure WaitReq where
  tag : Byte
  req : Request
  deriving DecidableEq, Repr

/-- The request under answer: its kind and tag (R178). -/
structure UnderAnswer where
  kind : Byte
  tag : Byte
  deriving DecidableEq, Repr

/-- Receive phase (R178). -/
inductive RecvPhase | HUNTING | IN_FRAME
  deriving DecidableEq, Repr

/-- A link record (R178): `frame` holds the bytes of the frame in collection after its start byte; `wakes`, the model's own,
counts the wakes of the link, each of which drops the request under answer (R192; assumption 27). -/
structure LinkRec where
  phase : RecvPhase
  frame : List Byte
  gap : Option Nat
  under : Option UnderAnswer
  waiting : List WaitReq
  outbound : List Message
  powered : Bool
  wakes : Nat
  deriving DecidableEq, Repr

/-- The link records (R178). -/
structure LinkInterface where
  protection : LinkRec
  radio : LinkRec
  crew : LinkRec
  deriving DecidableEq, Repr

/-! ### Retained Store (chapter 10) -/

/-- The content of an image (10.1). -/
inductive Image
  | group (g : Group)
  | unit (u : UnitRec)
  | selected (n : Nat)
  | tags (ts : List Tag) (next : Nat)
  | roster (es : List RosterEntry)
  | wear (wearAndCount : PerPole (Nat × Nat))
  | lockout (causes : PerPole (Option LockCause))
  | health (h : Health)
  | soc (mah permille : Nat)
  | hours (n : Nat)
  deriving DecidableEq, Repr

/-- An image in nonvolatile storage (R197): never written, disagreeing with its check value, or whole. -/
inductive Stored
  | ABSENT
  | BAD
  | good (i : Image)
  deriving DecidableEq, Repr

/-- What waits for a write (R195): an answer with its content, of a request its link took after so many wakes, or the END
message of a held commit or selection. -/
inductive Held
  | answer (l : Link) (wakes : Nat) (kind tag : Byte) (content : List Byte)
  | settings (l : Link) (tag : Byte)
  deriving DecidableEq, Repr

/-- A waiting answer, marked for the write in progress or for the further write (R194, R195). -/
structure Waiting where
  further : Bool
  what : Held
  deriving DecidableEq, Repr

/-- A write record (R194) with the item's image in storage (R197): `writing` holds the image being written. -/
structure WriteRec where
  writing : Option Image
  dirty : Bool
  waiting : List Waiting
  fault : Bool
  stored : Stored
  deriving DecidableEq, Repr

/-- The thirteen write records (R194). -/
structure Store where
  group1 : WriteRec
  group2 : WriteRec
  group3 : WriteRec
  group4 : WriteRec
  unit : WriteRec
  selected : WriteRec
  tags : WriteRec
  roster : WriteRec
  wear : WriteRec
  lockout : WriteRec
  health : WriteRec
  soc : WriteRec
  hours : WriteRec
  deriving DecidableEq, Repr

/-! ### The part -/

/-- The eleven blocks of the part. `on` is false after a loss of power (R197); `restart` is the link whose RESTART has
been taken and whose sequence has not begun (R198). -/
structure Part where
  on : Bool
  dc : Drive
  eu : ElementUnit
  sq : Sequencer
  pu : ProfileUnit
  tu : TagUnit
  nu : EnergyUnit
  bc : Battery
  ru : ReportUnit
  rs : Store
  li : LinkInterface
  tb : Stamp
  restart : Option Link
  deriving DecidableEq, Repr

end Sys2Proof.Machine
end

