-- ==== Sys2Proof/Machine/Ops.lean ====
section
/-! DEFINITION. The named operations every block uses: pole sets, one thing for each pole, stamps, the questions put to
the Tag Unit, the effective profile, what the drive shows, and the bytes of a field (R205). -/

namespace Sys2Proof

/-- The poles in the order A, B, C. -/
def Pole.all : List Pole := [.A, .B, .C]

/-- The empty pole set. -/
def PoleSet.empty : PoleSet := ⟨false, false, false⟩

/-- The pole set ABC. -/
def PoleSet.full : PoleSet := ⟨true, true, true⟩

/-- Whether a pole is in a set. -/
def PoleSet.has (s : PoleSet) : Pole → Bool
  | .A => s.a
  | .B => s.b
  | .C => s.c

/-- The poles a test holds of. -/
def PoleSet.ofFun (f : Pole → Bool) : PoleSet := ⟨f .A, f .B, f .C⟩

/-- The set of one pole. -/
def PoleSet.single (x : Pole) : PoleSet := .ofFun fun y => y == x

/-- Union of two pole sets. -/
def PoleSet.union (s t : PoleSet) : PoleSet := .ofFun fun x => s.has x || t.has x

/-- Intersection of two pole sets. -/
def PoleSet.inter (s t : PoleSet) : PoleSet := .ofFun fun x => s.has x && t.has x

/-- The poles of the first set that are not in the second. -/
def PoleSet.diff (s t : PoleSet) : PoleSet := .ofFun fun x => s.has x && !t.has x

/-- Whether a pole set is empty. -/
def PoleSet.isEmpty (s : PoleSet) : Bool := !(s.a || s.b || s.c)

/-- Whether two pole sets have a pole in common. -/
def PoleSet.overlaps (s t : PoleSet) : Bool := !(s.inter t).isEmpty

/-- Whether every pole of the first set is in the second. -/
def PoleSet.subset (s t : PoleSet) : Bool := (s.diff t).isEmpty

/-- The poles of a set in the order A, B, C. -/
def PoleSet.members (s : PoleSet) : List Pole := Pole.all.filter s.has

/-- The number of poles of a set. -/
def PoleSet.count (s : PoleSet) : Nat := s.a.toNat + s.b.toNat + s.c.toNat

/-- Whether a test holds of every pole of a set. -/
def PoleSet.all (s : PoleSet) (f : Pole → Bool) : Bool := s.members.all f

/-- Whether a test holds of some pole of a set. -/
def PoleSet.any (s : PoleSet) (f : Pole → Bool) : Bool := s.members.any f

/-- A pole set byte (R205): none where a bit from 3 to 7 is set. -/
def PoleSet.ofByte (b : Byte) : Option PoleSet :=
  if b.toNat < 8 then some ⟨b.getLsbD 0, b.getLsbD 1, b.getLsbD 2⟩ else none

/-- A pole set byte that must name a pole (R205). -/
def PoleSet.ofByteNonempty (b : Byte) : Option PoleSet :=
  (PoleSet.ofByte b).bind fun s => if s.isEmpty then none else some s

/-- A pole set as a number: A is bit 0, B bit 1, C bit 2 (R205). -/
def PoleSet.toNat (s : PoleSet) : Nat := s.a.toNat + 2 * s.b.toNat + 4 * s.c.toNat

end Sys2Proof

namespace Sys2Proof.Machine

/-! ### One thing for each pole -/

/-- The thing of a pole. -/
def PerPole.get {α : Type} (f : PerPole α) : Pole → α
  | .A => f.a
  | .B => f.b
  | .C => f.c

/-- One thing for each pole, by a function. -/
def PerPole.ofFun {α : Type} (g : Pole → α) : PerPole α := ⟨g .A, g .B, g .C⟩

/-- The same thing with one pole's replaced. -/
def PerPole.set {α : Type} (f : PerPole α) (x : Pole) (v : α) : PerPole α :=
  .ofFun fun y => if y = x then v else f.get y

/-- The same thing for each pole. -/
def PerPole.const {α : Type} (v : α) : PerPole α := ⟨v, v, v⟩

/-- A change of the things of the poles of a set. -/
def PerPole.mapOn {α : Type} (f : PerPole α) (s : PoleSet) (g : Pole → α → α) : PerPole α :=
  .ofFun fun x => if s.has x then g x (f.get x) else f.get x

/-! ### Bytes of fields (R205) -/

/-- One byte of a number. -/
def byte (n : Nat) : Byte := BitVec.ofNat 8 n

/-- A field of two bytes, little-endian. -/
def two (n : Nat) : List Byte := [byte n, byte (n / 256)]

/-- A field of four bytes, little-endian. -/
def four (n : Nat) : List Byte := [byte n, byte (n / 256), byte (n / 65536), byte (n / 16777216)]

/-- A signed number in two's complement of the given number of values. -/
def twosComplement (modulus : Nat) (i : Int) : Nat := (i % (modulus : Int)).toNat

/-- A flag: 1 for yes or set, 0 otherwise (R212). -/
def flag (b : Bool) : Byte := if b then 1 else 0

/-- An optional field of two bytes whose largest value is unused (R205). -/
def optTwo (o : Option Nat) : List Byte := two (o.getD 65535)

/-- A number read from bytes, little-endian. -/
def leNat : List Byte → Nat
  | [] => 0
  | b :: bs => b.toNat + 256 * leNat bs

/-- A signed number read from bytes, little-endian, in two's complement. -/
def leInt (bs : List Byte) : Int :=
  let n := leNat bs
  let m := 256 ^ bs.length
  if 2 * n < m then n else (n : Int) - m

/-- A two-byte field as its value. -/
def half (b0 b1 : Byte) : Half := b1 ++ b0

/-- A four-byte field as its value. -/
def long (b0 b1 b2 b3 : Byte) : Long := (b3 ++ b2) ++ (b1 ++ b0)

/-- A stamp: seconds in four bytes, then the milliseconds, plus 32768 when the stamp carries the UNSET mark (R205). -/
def stampBytes (t : Stamp) : List Byte := four t.secs ++ two (t.ms + if t.isSet then 0 else 32768)

/-! ### Time (R201) -/

/-- The count one millisecond later (R201). -/
def Stamp.tick (t : Stamp) : Stamp :=
  if t.ms < 999 then { t with ms := t.ms + 1 }
  else { t with ms := 0, secs := if t.secs < 4294967295 then t.secs + 1 else 0 }

/-- Whole seconds of a remaining time in milliseconds, a part of a second counting as one (assumption 10). -/
def secondsUp (ms : Nat) : Nat := (ms + 999) / 1000

/-! ### Positions and what waits for the drive (chapter 1) -/

/-- The position of a contact pair (R2). -/
def positionOf (aClosed bClosed : Bool) : Position :=
  match aClosed, bClosed with
  | true, false => .CLOSED
  | false, true => .OPEN
  | _, _ => .UNKNOWN

/-- The position of a pole (R1, R2). -/
def PoleRec.position (r : PoleRec) : Position := positionOf r.aClosed r.bClosed

/-- The position a pole shows. -/
def Part.position (p : Part) (x : Pole) : Position := (p.dc.poles.get x).position

/-- Whether a pole shows OPEN. -/
def Part.showsOpen (p : Part) (x : Pole) : Bool := p.position x == .OPEN

/-- The poles that show CLOSED or UNKNOWN. -/
def Part.notOpen (p : Part) : PoleSet := .ofFun fun x => !p.showsOpen x

/-- The poles that show CLOSED. -/
def Part.showsClosed (p : Part) : PoleSet := .ofFun fun x => p.position x == .CLOSED

/-- The poles of the CLOSE in flight (R11, R13). -/
def Drive.closing (d : Drive) : PoleSet :=
  match d.flight with
  | some f => if f.op.kind = .CLOSE then f.fire else .empty
  | none => .empty

/-- The fire set of the TRIP in flight (R4, R37). -/
def Drive.tripping (d : Drive) : PoleSet :=
  match d.flight with
  | some f => if f.op.kind = .TRIP then f.fire else .empty
  | none => .empty

/-- The poles of the TRIP in flight, fired or not (R9, R14). -/
def Drive.tripPoles (d : Drive) : PoleSet :=
  match d.flight with
  | some f => if f.op.kind = .TRIP then f.op.poles else .empty
  | none => .empty

/-- The fire set of the operation in flight. -/
def Drive.firing (d : Drive) : PoleSet :=
  match d.flight with
  | some f => f.fire
  | none => .empty

/-- The trip pending set: the poles asked for and not yet fired (R4). -/
def Drive.pendingPoles (d : Drive) : PoleSet :=
  match d.trip with
  | some t => t.op.poles
  | none => .empty

/-- The poles of the crew or radio entry of the close request list. -/
def LinkClose.poles (e : Option LinkClose) : PoleSet :=
  match e with
  | some c => c.op.poles
  | none => .empty

/-- Poles with a sequencer entry in the close request list. -/
def Drive.seqPoles (d : Drive) : PoleSet := .ofFun fun x => (d.seq.get x).isSome

/-- The poles in the close request list (R5, R120). -/
def Drive.listed (d : Drive) : PoleSet :=
  ((LinkClose.poles d.crew).union (LinkClose.poles d.radio)).union d.seqPoles

/-- Whether the drive holds anything pending, delayed, waiting or in flight (R72, R148); an operation whose end is being handled
among it, since the drive is free only after the last step of that (R14; assumption 70). -/
def Drive.holdsWork (d : Drive) : Bool :=
  d.trip.isSome || d.crew.isSome || d.radio.isSome || !d.seqPoles.isEmpty || d.flight.isSome || d.ending

/-- The next-operation number, advanced (R3). -/
def wrapNext (n : Nat) : Nat := if n < 65535 then n + 1 else 0

/-! ### What tags forbid (R105) -/

/-- Whether any tag of a kind is in force. -/
def TagUnit.anyKind (t : TagUnit) (k : TagKind) : Bool := t.tags.any fun g => g.kind == k

/-- Whether any HOT_LINE tag is in force (R105). -/
def TagUnit.hotLine (t : TagUnit) : Bool := t.anyKind .HOT_LINE

/-- Whether any LOCAL_CONTROL tag is in force (R105). -/
def TagUnit.localControl (t : TagUnit) : Bool := t.anyKind .LOCAL_CONTROL

/-- Whether a tag of a kind covers a pole. -/
def TagUnit.covers (t : TagUnit) (k : TagKind) (x : Pole) : Bool := t.tags.any fun g => g.kind == k && g.poles.has x

/-- Whether a close of a pole is forbidden (R105). -/
def TagUnit.closeForbidden (t : TagUnit) (x : Pole) : Bool := t.hotLine || t.covers .CLEARANCE x

/-- Whether a RECLOSE_BLOCK or CLEARANCE tag covers a pole. -/
def TagUnit.blocked (t : TagUnit) (x : Pole) : Bool := t.covers .RECLOSE_BLOCK x || t.covers .CLEARANCE x

/-- Whether a reclose of a pole is forbidden by tag (R105). -/
def TagUnit.recloseForbidden (t : TagUnit) (x : Pole) : Bool := t.hotLine || t.blocked x

/-! ### The crew check (R98) -/

/-- The roster entry of a crew number. -/
def TagUnit.entry (t : TagUnit) (crew : Nat) : Option RosterEntry := t.roster.find? fun e => e.crew == crew

/-- A right a request requires (R98). -/
inductive Right | TAG | LOCAL_OPERATE | SUPERVISE
  deriving DecidableEq, Repr

/-- Whether a rights set holds a right. -/
def Rights.holds (r : Rights) : Right → Bool
  | .TAG => r.tag
  | .LOCAL_OPERATE => r.localOperate
  | .SUPERVISE => r.supervise

/-- The crew check: none where it passes, and otherwise the refusal (R98). -/
def TagUnit.crewRefusal (t : TagUnit) (crew : Nat) (right : Right) : Option AnswerCode :=
  match t.entry crew with
  | none => some .UNKNOWN_CREW
  | some e => if e.valid && e.rights.holds right then none else some .NO_RIGHT

/-! ### The effective profile (R78, R79) -/

/-- A stored group by its number. -/
def Groups.get (g : Groups) (n : Nat) : Group :=
  match n with
  | 2 => g.g2
  | 3 => g.g3
  | 4 => g.g4
  | _ => g.g1

/-- The stored groups with one replaced. -/
def Groups.set (g : Groups) (n : Nat) (v : Group) : Groups :=
  match n with
  | 2 => { g with g2 := v }
  | 3 => { g with g3 := v }
  | 4 => { g with g4 := v }
  | _ => { g with g1 := v }

/-- The settings of the HOT_LINE frame over a group (R78). -/
def hotLineSettings (g : Group) : Group :=
  { g with fast := [⟨10, 0⟩], delayed := [⟨10, 0⟩], opsToLockout := 1, fastOps := 1 }

/-- The settings of the COLD_LOAD frame over a group (R78). -/
def coldLoadSettings (g : Group) : Group :=
  { g with phasePickup := g.phasePickup * g.coldMult / 10, groundPickup := g.groundPickup * g.coldMult / 10 }

/-- The selected group's applied values. -/
def ProfileUnit.selectedGroup (u : ProfileUnit) : Group := u.groups.get u.selected

/-- The effective profile: the highest-ranked frame, or the selected group (R78, R79). -/
def ProfileUnit.effective (u : ProfileUnit) : Profile :=
  if u.hotLine then ⟨.HOT_LINE, hotLineSettings u.selectedGroup⟩
  else
    match u.temporary with
    | some t => ⟨.TEMPORARY t.group, u.groups.get t.group⟩
    | none =>
      if u.coldLoad.isSome then ⟨.COLD_LOAD, coldLoadSettings u.selectedGroup⟩
      else ⟨.GROUP u.selected, u.selectedGroup⟩

/-- The settings of the effective profile. -/
def Part.profile (p : Part) : Group := p.pu.effective.set

/-! ### Links (R178, R186) -/

/-- The record of a link. -/
def LinkInterface.get (i : LinkInterface) : Link → LinkRec
  | .PROTECTION => i.protection
  | .RADIO => i.radio
  | .CREW => i.crew

/-- The link records with one replaced. -/
def LinkInterface.set (i : LinkInterface) (l : Link) (r : LinkRec) : LinkInterface :=
  match l with
  | .PROTECTION => { i with protection := r }
  | .RADIO => { i with radio := r }
  | .CREW => { i with crew := r }

/-- A message handed to the outbound list of a link; discarded where the link is not powered (R186). -/
def send (l : Link) (m : Message) (p : Part) : Part :=
  let r := p.li.get l
  if r.powered then { p with li := p.li.set l { r with outbound := r.outbound ++ [m] } } else p

/-- A change of a pole's drive record. -/
def Part.setPole (p : Part) (x : Pole) (r : PoleRec) : Part := { p with dc := { p.dc with poles := p.dc.poles.set x r } }

/-- A change of a pole's sequence record. -/
def Part.setSeq (p : Part) (x : Pole) (r : SeqRec) : Part := { p with sq := { p.sq with recs := p.sq.recs.set x r } }

/-- A change of the sequence records of the poles of a set. -/
def mapSeq (s : PoleSet) (f : Pole → SeqRec → SeqRec) (p : Part) : Part :=
  { p with sq := { p.sq with recs := p.sq.recs.mapOn s f } }

/-- A change of the drive records of the poles of a set. -/
def mapPoles (s : PoleSet) (f : Pole → PoleRec → PoleRec) (p : Part) : Part :=
  { p with dc := { p.dc with poles := p.dc.poles.mapOn s f } }

/-- A pole's sequence record. -/
def Part.seq (p : Part) (x : Pole) : SeqRec := p.sq.recs.get x

/-- Whether measurement is OK (R27). -/
def Part.measOk (p : Part) : Bool := p.eu.state == .OK

/-- Whether the part state is RUN (R134). -/
def Part.isRun (p : Part) : Bool := p.bc.partState == .RUN

/-- Each of a list of steps in turn. -/
def applyAll {α : Type} (f : α → Part → Part) : List α → Part → Part
  | [], p => p
  | a :: as, p => applyAll f as (f a p)

end Sys2Proof.Machine
end

