-- ==== Sys2Proof/Machine/Codes.lean ====
section
/-! DEFINITION. The codes of enumerated fields: the position of the value, from 1, in the list or table where the field
is defined (R205); and the layouts of records and outbound messages (R207, R209 to R211). Assumption 20 names the lists
a code is counted in where the manual leaves a choice. -/

namespace Sys2Proof.Machine

/-! ### Codes -/

/-- Position of a pole: the list of R1. -/
def Position.code : Position → Nat
  | .OPEN => 1 | .CLOSED => 2 | .UNKNOWN => 3

/-- Motion: the list of R1. -/
def Motion.code : Motion → Nat
  | .NONE => 1 | .TRIPPING => 2 | .CLOSING => 3

/-- Cause of a MECH_FAIL: the list of R1. -/
def MechCause.code : MechCause → Nat
  | .NO_MOTION => 1 | .COIL_OPEN => 2

/-- Kind of an operation: the list of R3. -/
def OpKind.code : OpKind → Nat
  | .TRIP => 1 | .CLOSE => 2

/-- Cause of an operation: the list of R3. -/
def OpCause.code : OpCause → Nat
  | .PROTECTIVE => 1 | .RECLOSE => 2 | .COMMAND => 3 | .HOT_LINE_FAILSAFE => 4 | .BLIND_FAILSAFE => 5
  | .GANG_LOCKOUT => 6 | .EXHAUSTION => 7 | .MANUAL_CLOSE => 8

/-- State of an operation: the list of R3. -/
def OpState.code : OpState → Nat
  | .PENDING => 1 | .DELAYED => 2 | .WAIT_ENERGY => 3 | .IN_FLIGHT => 4 | .RETRYING => 5 | .ENDED => 6

/-- Result of an operation: the lists of R3 and R188. -/
def OpResult.code : OpResult → Nat
  | .COMPLETE => 1 | .PARTIAL => 2 | .FAILED => 3 | .SUPERSEDED => 4 | .CANCELLED => 5 | .NO_ENERGY => 6
  | .TAGGED => 7 | .BLIND => 8

/-- Bit of a requester in a set of requesters (R212). -/
def Requester.bit : Requester → Nat
  | .SEQUENCER => 1 | .PROTECTION_LINK => 2 | .RADIO_LINK => 4 | .CREW_LINK => 8 | .BATTERY => 16

/-- Measurement state: the list of R27. -/
def MeasState.code : MeasState → Nat
  | .WAITING => 1 | .OK => 2 | .LOST => 3

/-- State of an element: the list of R31. -/
def ElemState.code : ElemState → Nat
  | .IDLE => 1 | .PICKED_UP => 2 | .HELD => 3

/-- Curve in use: the list of R31. -/
def Curve.code : Curve → Nat
  | .FAST => 1 | .DELAYED => 2

/-- Sequence state: the table of R44. -/
def SeqState.code : SeqState → Nat
  | .CLOSED_IDLE => 1 | .TIMING => 2 | .TRIP_WAIT => 3 | .DEAD => 4 | .CLOSE_WAIT => 5 | .RECLAIM => 6
  | .LOCKOUT => 7 | .OPEN => 8

/-- End note: the list of R44. -/
def EndNote.code : EndNote → Nat
  | .EXHAUSTION => 1 | .BLIND => 2 | .HOT_LINE => 3 | .GANG => 4 | .COMMAND => 5 | .SHOTS => 6

/-- Lockout cause: the list of R44. -/
def LockCause.code : LockCause → Nat
  | .SHOTS => 1 | .HOT_LINE => 2 | .RECLOSE_BLOCK => 3 | .WEAR => 4 | .MECH_FAIL => 5 | .BLIND => 6 | .NO_ENERGY => 7
  | .COMMAND => 8 | .HANDLE => 9 | .GANG => 10 | .EXHAUSTION => 11 | .START => 12

/-- Pole mode: the list of R71 and R74. -/
def PoleMode.code : PoleMode → Nat
  | .SINGLE => 1 | .GANGED => 2

/-- Source of the effective profile: the list of R79. -/
def Source.code : Source → Nat
  | .GROUP _ => 1 | .HOT_LINE => 2 | .TEMPORARY _ => 3 | .COLD_LOAD => 4

/-- Kind of a tag: the list of R99. -/
def TagKind.code : TagKind → Nat
  | .HOT_LINE => 1 | .CLEARANCE => 2 | .RECLOSE_BLOCK => 3 | .LOCAL_CONTROL => 4

/-- Kind of a tag from its code. -/
def TagKind.ofCode (n : Nat) : Option TagKind :=
  match n with
  | 1 => some .HOT_LINE
  | 2 => some .CLEARANCE
  | 3 => some .RECLOSE_BLOCK
  | 4 => some .LOCAL_CONTROL
  | _ => none

/-- Origin of a tag: the list of R99, CREW_LINK then RADIO_LINK. -/
def originCode (byCrew : Bool) : Nat := if byCrew then 1 else 2

/-- Health: the list of R134. -/
def Health.code : Health → Nat
  | .UNTESTED => 1 | .GOOD => 2 | .WEAK => 3 | .FAILED => 4

/-- Energy level: the list of R134. -/
def EnergyLevel.code : EnergyLevel → Nat
  | .NORMAL => 1 | .CONSERVE => 2 | .RESERVE => 3 | .EXHAUSTED => 4

/-- Charger mode: the list of R134. -/
def ChargerMode.code : ChargerMode → Nat
  | .OFF => 1 | .BULK => 2 | .ABSORB => 3 | .FLOAT => 4 | .INHIBIT_COLD => 5 | .INHIBIT_HOT => 6

/-- Part state: the list of R134. -/
def PartState.code : PartState → Nat
  | .RUN => 1 | .DORMANT => 2

/-- Origin of a test: the list of R146. -/
def TestOrigin.code : TestOrigin → Nat
  | .PERIODIC => 1 | .CREW_LINK => 2 | .RADIO_LINK => 3

/-- Result of a test: the lists of R146 and R188. -/
def TestResult.code : TestResult → Nat
  | .GOOD => 1 | .WEAK => 2 | .FAILED => 3 | .ABANDONED => 4

/-- State of a test: the list of R146. -/
def TestState.code : TestState → Nat
  | .IDLE => 1 | .RUNNING => 2 | .SUSPENDED => 3 | .DONE _ => 4

/-- Class of a report, ALARM 1 to STATUS 5 (R210). -/
def ReportClass.code : ReportClass → Nat
  | .ALARM => 1 | .OPERATION => 2 | .TAG => 3 | .ENERGY => 4 | .STATUS => 5

/-- Class of a kind (R159). -/
def ReportKind.cls : ReportKind → ReportClass
  | .MECH_FAIL | .MEAS_LOST | .ENERGY_DEFICIT | .BATTERY_FAILED | .WEAR_LIMIT | .EXHAUSTION | .STORE_FAULT => .ALARM
  | .TRIP_DONE | .CLOSE_DONE | .LOCKOUT | .SEQ_RESET | .HANDLE_OPEN => .OPERATION
  | .TAG_APPLIED | .TAG_REMOVED | .ROSTER_EXPIRED => .TAG
  | .LEVEL_CHANGE | .CHARGER_MODE | .BATTERY_TEST_RESULT | .SUPPLY_LOST | .SUPPLY_BACK => .ENERGY
  | .SNAPSHOT | .PROFILE_CHANGE | .MEAS_OK | .WEAR_WARN | .RESTART => .STATUS

/-- Position of a kind within its class (R159). -/
def ReportKind.code : ReportKind → Nat
  | .MECH_FAIL | .TRIP_DONE | .TAG_APPLIED | .LEVEL_CHANGE | .SNAPSHOT => 1
  | .MEAS_LOST | .CLOSE_DONE | .TAG_REMOVED | .CHARGER_MODE | .PROFILE_CHANGE => 2
  | .ENERGY_DEFICIT | .LOCKOUT | .ROSTER_EXPIRED | .BATTERY_TEST_RESULT | .MEAS_OK => 3
  | .BATTERY_FAILED | .SEQ_RESET | .SUPPLY_LOST | .WEAR_WARN => 4
  | .WEAR_LIMIT | .HANDLE_OPEN | .SUPPLY_BACK | .RESTART => 5
  | .EXHAUSTION => 6
  | .STORE_FAULT => 7

/-- Answer code: the table of R185. -/
def AnswerCode.code : AnswerCode → Nat
  | .DONE => 1 | .STARTED => 2 | .DONE_NOT_RETAINED => 3 | .BUSY => 4 | .NOT_PERMITTED => 5 | .NO_RIGHT => 6
  | .UNKNOWN_CREW => 7 | .TAGGED => 8 | .NO_ENERGY => 9 | .BLIND => 10 | .LOCKED => 11 | .RANGE => 12 | .FULL => 13
  | .DUPLICATE => 14 | .NOT_FOUND => 15 | .HOLDS_TAGS => 16 | .BAD_STATE => 17 | .MALFORMED => 18 | .DORMANT => 19

/-- Settings result: the list of R188. -/
def SettingsResult.code : SettingsResult → Nat
  | .COMPLETE => 1 | .NOT_RETAINED => 2 | .CANCELLED => 3 | .SUPERSEDED => 4

/-- Row of a retained item in the table of 10.1. -/
def itemRow : Item → Nat
  | .GROUP1 | .GROUP2 | .GROUP3 | .GROUP4 => 1
  | .UNIT => 2 | .SELECTED => 3 | .TAGS => 4 | .ROSTER => 5 | .WEAR => 6 | .LOCKOUT => 7 | .HEALTH => 8 | .SOC => 9
  | .HOURS => 10

/-- Group number of a retained item, 0 where it is no group (R210). -/
def itemGroup : Item → Nat
  | .GROUP1 => 1 | .GROUP2 => 2 | .GROUP3 => 3 | .GROUP4 => 4
  | _ => 0

/-- Reasons of a store fault (R196, R197), in the order in which chapter 10 gives them (assumption 20). -/
inductive FaultReason | WRITE_FAILED | IMAGE_BAD | IMAGE_ABSENT
  deriving DecidableEq, Repr

/-- Code of a store fault reason (assumption 20). -/
def FaultReason.code : FaultReason → Nat
  | .WRITE_FAILED => 1 | .IMAGE_BAD => 2 | .IMAGE_ABSENT => 3

/-- An item entry of a STORE_FAULT or RESTART body (R210). -/
def itemEntry (i : Item) (r : FaultReason) : List Byte := [byte (itemRow i), byte (itemGroup i), byte r.code]

/-- The code of an optional enumerated field, 0 where it is absent (R205). -/
def optCode {α : Type} (code : α → Nat) (o : Option α) : Byte :=
  match o with
  | some v => byte (code v)
  | none => 0

/-- A link field: 1 for the protection link, 2 for the radio link, 0 when absent (R212). -/
def linkCode : Option Link → Byte
  | some .PROTECTION => 1
  | some .RADIO => 2
  | _ => 0

/-- Temperature, signed in one byte (R206). -/
def temperatureByte (t : Int) : Byte := byte (twosComplement 256 t)

/-- Heater: ON then OFF, the list of R134. -/
def heaterByte (on : Bool) : Byte := if on then 1 else 2

/-- Supply: PRESENT then ABSENT, the list of R134. -/
def supplyByte (present : Bool) : Byte := if present then 1 else 2

/-! ### Text and tags (R205, R211) -/

/-- Text: a length byte and the characters (R205). -/
def textBytes (note : List Byte) : List Byte := byte note.length :: note

/-- A tag record (R211). -/
def tagBytes (t : Tag) : List Byte :=
  [byte t.number, byte t.kind.code, byte t.poles.toNat] ++ two t.crew ++ [byte (originCode t.byCrew)] ++
    stampBytes t.applied ++ textBytes t.note

/-- A rights set as one byte (R205). -/
def rightsByte (r : Rights) : Byte := byte (r.tag.toNat + 2 * r.localOperate.toNat + 4 * r.supervise.toNat)

/-! ### Group and UNIT records (R207) -/

/-- A curve: each point's multiple and operate time (R207). -/
def curveBytes (c : List Point) : List Byte := c.flatMap fun q => two q.multiple ++ two q.time

/-- A whole group record, 90 bytes (R207). -/
def groupBytes (g : Group) : List Byte :=
  two g.phasePickup ++ two g.groundPickup ++ [if g.groundEnabled then 1 else 2] ++ curveBytes g.fast ++
    curveBytes g.delayed ++ two (g.highSet.getD 0) ++ [byte g.opsToLockout, byte g.fastOps] ++ four g.dead1 ++
    four g.dead2 ++ four g.dead3 ++ [byte g.reclaimS, byte g.mode.code, byte g.coldMult] ++ two g.coldS

/-- A whole UNIT record, 23 bytes (R207). -/
def unitBytes (u : UnitRec) : List Byte :=
  [byte u.closeDelayS] ++ two u.capacity ++ two u.conserve ++ two u.reserve ++ two u.cutoff ++ two u.taper ++
    two u.weakDrop ++ two u.failedDrop ++ two u.testHours ++ two u.statusMin ++ [byte u.callThreshold] ++
    two u.coldOpenS ++ [flag u.openOnExhaustion]

/-! ### Report records and outbound messages (R203, R204, R209, R210) -/

/-- A pole set, 0 when absent (R210). -/
def optPoles (o : Option PoleSet) : Byte := byte ((o.getD .empty).toNat)

/-- A report record from offset 0 to 18 (R210). -/
def reportHead (r : Report) : List Byte :=
  two r.number ++ [byte r.kind.cls.code, byte r.kind.code, optPoles r.poles] ++ stampBytes r.first ++
    stampBytes r.last ++ [byte r.count, flag r.gap]

/-- A report record (R210). -/
def reportBytes (r : Report) : List Byte := reportHead r ++ byte r.body.length :: r.body

/-- The body of an END message (R209). -/
def endBytes : EndBody → List Byte
  | .operation res n => [1, byte res.code] ++ two n
  | .settings res => [2, byte res.code]
  | .test res before minimum drop =>
    [3, byte res.code] ++
      match res with
      | .ABANDONED => []
      | _ => optTwo before ++ optTwo minimum ++ optTwo drop

/-- Kind byte of an outbound message (R203). -/
def Message.kindByte : Message → Byte
  | .answer kind _ _ _ => kind
  | .endMsg _ _ => 0x70
  | .report _ => 0x71
  | .permitCall _ _ _ => 0x72

/-- Tag byte of an outbound message (R204). -/
def Message.tagByte : Message → Byte
  | .answer _ tag _ _ => tag
  | .endMsg tag _ => tag
  | .report _ => 0
  | .permitCall _ _ _ => 0

/-- Body of an outbound message (R209). -/
def Message.body : Message → List Byte
  | .answer _ _ code content => byte code.code :: content
  | .endMsg _ b => endBytes b
  | .report r => reportBytes r
  | .permitCall counts permits level => counts.map byte ++ [byte permits, byte level.code]

/-- One shift of the check register (R204). -/
def crcShift (r : Half) : Half := if r.getLsbD 15 then (r <<< 1) ^^^ 0x1021#16 else r <<< 1

/-- The check register after one byte (R204). -/
def crcByte (r : Half) (b : Byte) : Half :=
  crcShift (crcShift (crcShift (crcShift (crcShift (crcShift (crcShift (crcShift (r ^^^ (b ++ 0#8)))))))))

/-- The check over the kind, tag, length and body bytes (R204). -/
def crc (bs : List Byte) : Half := bs.foldl crcByte 0xFFFF#16

/-- The check of a frame of a kind, tag and body (R204). -/
def frameCheck (kind tag : Byte) (body : List Byte) : Half := crc (kind :: tag :: byte body.length :: body)

/-- A frame's bytes, start byte to check (R203). -/
def frameBytes (kind tag : Byte) (body : List Byte) (check : Half) : List Byte :=
  [0xC3, kind, tag, byte body.length] ++ body ++ [check.extractLsb' 0 8, check.extractLsb' 8 8]

/-- The frame of an outbound message as it goes out (R203, R204). -/
def Message.frame (m : Message) : List Byte :=
  frameBytes m.kindByte m.tagByte m.body (frameCheck m.kindByte m.tagByte m.body)

/-- Kind byte of a request (R203). -/
def Request.kindByte : Request → Byte
  | .trip .. => 0x10
  | .close .. => 0x11
  | .closeCancel => 0x12
  | .clearMechFault .. => 0x13
  | .resetWear .. => 0x14
  | .historyRead _ => 0x15
  | .tagApply .. => 0x20
  | .tagRemove .. => 0x21
  | .rosterPut .. => 0x22
  | .rosterDrop _ => 0x23
  | .editBegin _ => 0x30
  | .editPut _ => 0x31
  | .editCommit => 0x32
  | .editDrop => 0x33
  | .readPending => 0x34
  | .selectGroup _ => 0x35
  | .temporaryGroup .. => 0x36
  | .temporaryCancel => 0x37
  | .batteryTest => 0x40
  | .permitGrant _ => 0x41
  | .queuePoll => 0x42
  | .setTime .. => 0x43
  | .restart _ => 0x44
  | .read .. => 0x45

/-- Kind byte of the answer to a kind (R203). -/
def answerKind (kind : Byte) : Byte := kind + 0x80

end Sys2Proof.Machine
end

