-- ==== Sys2Proof/Machine/Reports.lean ====
section
/-! DEFINITION. The Report Unit (chapter 8): entering a report, merging, overflow, sending, and the permit call. -/

namespace Sys2Proof.Machine

/-- Whether a class is sent at an energy level (R164). -/
def classSent : EnergyLevel → ReportClass → Bool
  | .NORMAL, _ => true
  | .CONSERVE, c => c != .STATUS
  | .RESERVE, c => c != .STATUS && c != .ENERGY
  | .EXHAUSTED, c => c != .STATUS && c != .ENERGY

/-- Whether a record is sendable (R164). -/
def ReportUnit.sendable (u : ReportUnit) (r : Report) : Bool := classSent u.level r.kind.cls

/-- Whether the queue holds a sendable record. -/
def ReportUnit.anySendable (u : ReportUnit) : Bool := u.queue.any u.sendable

/-- Whether a record is an EXHAUSTION record (R163). -/
def Report.isExhaustion (r : Report) : Bool := r.kind == .EXHAUSTION

/-- The number of records of a class (R170). -/
def classCount (q : List Report) (c : ReportClass) : Nat := (q.filter fun r => r.kind.cls == c).length

/-- The classes from highest to lowest (R158). -/
def allClasses : List ReportClass := [.ALARM, .OPERATION, .TAG, .ENERGY, .STATUS]

/-- The count of each class, ALARM first (R170). -/
def classCounts (q : List Report) : List Nat := allClasses.map (classCount q)

/-- Whether a record is to be sent (R166). -/
def ReportUnit.sendDue (u : ReportUnit) : Bool :=
  u.partState == .RUN && !u.sending && decide (1 ≤ u.permits) && (u.anySendable || u.queue.any Report.isExhaustion)

/-- Whether a permit call is to be sent, against the call threshold in force (R169). -/
def ReportUnit.callDue (u : ReportUnit) (threshold : Nat) : Bool :=
  u.partState == .RUN && !u.called && u.anySendable &&
    (decide (threshold ≤ u.used) || u.depthMark || decide (u.permits = 0))

/-- The permit-call triggers are judged, and a call goes out where one holds (R169, R170). -/
def judgeCall (p : Part) : Part :=
  if p.ru.callDue p.pu.unit.callThreshold then
    send .RADIO (.permitCall (classCounts p.ru.queue) p.ru.permits p.ru.level)
      { p with ru := { p.ru with called := true, callTimer := some Config.callRepeat, depthMark := false } }
  else p

/-- Sending is judged first: where a record is to be sent, the send judges the triggers (R160, R166, assumption 1). -/
def judgeSending (p : Part) : Part := if p.ru.sendDue then p else judgeCall p

/-- The end of a permit-call block (R170). -/
def ReportUnit.endBlock (u : ReportUnit) : ReportUnit := { u with called := false, callTimer := none }

/-- Whether a new report merges into a queued record (R161). -/
def mergesInto (kind : ReportKind) (poles : Option PoleSet) (r : Report) : Bool :=
  (kind.cls == .ENERGY || kind.cls == .STATUS) && r.kind == kind && r.poles == poles

/-- A queued record after a merge (R161). -/
def Report.merge (r : Report) (now : Stamp) (body : List Byte) : Report :=
  { r with count := min 255 (r.count + 1), last := now, body := body }

/-- The queue after a merge into the first record that takes it. -/
def mergeInto (kind : ReportKind) (poles : Option PoleSet) (now : Stamp) (body : List Byte) :
    List Report → List Report
  | [] => []
  | r :: rs =>
    if mergesInto kind poles r then r.merge now body :: rs else r :: mergeInto kind poles now body rs

/-- The queue without the first record that passes a test. -/
def dropFirst (f : Report → Bool) : List Report → List Report
  | [] => []
  | r :: rs => if f r then rs else r :: dropFirst f rs

/-- The lowest class present in a queue (R162). -/
def lowestClass (q : List Report) : ReportClass :=
  (allClasses.reverse.find? fun c => q.any fun r => r.kind.cls == c).getD .ALARM

/-- The room a full queue makes for a record of a kind: the queue after a discard, or none where the new record is
discarded (R162, R163). -/
def makeRoom (q : List Report) (kind : ReportKind) : Option (List Report) :=
  let low := lowestClass q
  if kind.cls.code < low.code then some (dropFirst (fun r => r.kind.cls == low) q)
  else if kind = .EXHAUSTION ∧ q.any (fun r => !r.isExhaustion) then some (dropFirst (fun r => !r.isExhaustion) q)
  else none

/-- A record joins the end of a queue that has room (R160, R163): it takes the next number, the depth mark is set where
the depth passes from 15 to 16, and an EXHAUSTION record ends the call block. -/
def ReportUnit.join (u : ReportUnit) (q : List Report) (kind : ReportKind) (poles : Option PoleSet) (now : Stamp)
    (body : List Byte) : ReportUnit :=
  let v := if kind = .EXHAUSTION then u.endBlock else u
  { v with
    queue := q ++ [⟨u.nextNumber, kind, poles, now, now, 1, false, body⟩]
    nextNumber := wrapNext u.nextNumber
    depthMark := u.depthMark || decide (u.queue.length = 15 ∧ q.length = 15) }

/-- A report is handed to the Report Unit (R160): it merges, joins the queue, or is discarded. -/
def enterReport (kind : ReportKind) (poles : Option PoleSet) (body : List Byte) (p : Part) : Part :=
  let u := p.ru
  if u.queue.any (mergesInto kind poles) then
    { p with ru := { u with queue := mergeInto kind poles p.tb body u.queue } }
  else if u.queue.length < Config.queueMax then
    judgeSending { p with ru := u.join u.queue kind poles p.tb body }
  else
    match makeRoom u.queue kind with
    | some q => judgeSending { p with ru := { u.join q kind poles p.tb body with gapPending := true } }
    | none => { p with ru := { u with gapPending := true } }

/-- The record the Report Unit would choose to send (R165). -/
def ReportUnit.choose (u : ReportUnit) : Option Report :=
  match u.queue.find? Report.isExhaustion with
  | some r => some r
  | none =>
    allClasses.foldr
      (fun c rest => (u.queue.find? fun r => r.kind.cls == c && u.sendable r).orElse fun _ => rest) none

/-- One record is sent, where the conditions of R166 hold. -/
def reportSend (p : Part) : Part :=
  if p.ru.sendDue then
    match p.ru.choose with
    | some r =>
      let q := p.ru.queue.erase r
      judgeCall (send .RADIO (.report { r with gap := p.ru.gapPending })
        { p with ru := { p.ru with
            queue := q, gapPending := false, permits := p.ru.permits - 1, used := p.ru.used + 1, sending := true,
            depthMark := p.ru.depthMark && decide (16 ≤ q.length) } })
    | none => p
  else p

/-- The energy level reaches the Report Unit, which judges sending and the triggers (R164). -/
def reportLevel (l : EnergyLevel) (p : Part) : Part := judgeSending { p with ru := { p.ru with level := l } }

/-- The records in the order in which they would be sent (R172): EXHAUSTION records, the other sendable records by
class, then the records that are not sendable by class. -/
def ReportUnit.sendOrder (u : ReportUnit) : List Report :=
  let rest := u.queue.filter fun r => !r.isExhaustion
  let byClass := fun (f : Report → Bool) => allClasses.flatMap fun c => rest.filter fun r => r.kind.cls == c && f r
  u.queue.filter Report.isExhaustion ++ byClass u.sendable ++ byClass fun r => !u.sendable r

end Sys2Proof.Machine
end

