-- ==== Sys2Proof/Machine/StoreOps.lean ====
section
/-! DEFINITION. The Retained Store's writes (R194 to R196): handing an item, the end of a write, and the answers that
wait for one. -/

namespace Sys2Proof.Machine

/-- The thirteen retained items in the order of the table of 10.1. -/
def allItems : List Item :=
  [.GROUP1, .GROUP2, .GROUP3, .GROUP4, .UNIT, .SELECTED, .TAGS, .ROSTER, .WEAR, .LOCKOUT, .HEALTH, .SOC, .HOURS]

/-- The write record of an item. -/
def Store.get (s : Store) : Item → WriteRec
  | .GROUP1 => s.group1
  | .GROUP2 => s.group2
  | .GROUP3 => s.group3
  | .GROUP4 => s.group4
  | .UNIT => s.unit
  | .SELECTED => s.selected
  | .TAGS => s.tags
  | .ROSTER => s.roster
  | .WEAR => s.wear
  | .LOCKOUT => s.lockout
  | .HEALTH => s.health
  | .SOC => s.soc
  | .HOURS => s.hours

/-- The write records with one replaced. -/
def Store.set (s : Store) (i : Item) (w : WriteRec) : Store :=
  match i with
  | .GROUP1 => { s with group1 := w }
  | .GROUP2 => { s with group2 := w }
  | .GROUP3 => { s with group3 := w }
  | .GROUP4 => { s with group4 := w }
  | .UNIT => { s with unit := w }
  | .SELECTED => { s with selected := w }
  | .TAGS => { s with tags := w }
  | .ROSTER => { s with roster := w }
  | .WEAR => { s with wear := w }
  | .LOCKOUT => { s with lockout := w }
  | .HEALTH => { s with health := w }
  | .SOC => { s with soc := w }
  | .HOURS => { s with hours := w }

/-- The write records, each by a function of its item and the record before. -/
def Store.mapItems (s : Store) (f : Item → WriteRec → WriteRec) : Store :=
  ⟨f .GROUP1 s.group1, f .GROUP2 s.group2, f .GROUP3 s.group3, f .GROUP4 s.group4, f .UNIT s.unit,
    f .SELECTED s.selected, f .TAGS s.tags, f .ROSTER s.roster, f .WEAR s.wear, f .LOCKOUT s.lockout,
    f .HEALTH s.health, f .SOC s.soc, f .HOURS s.hours⟩

/-- Per-mille SoC (R134). -/
def permilleOf (soc capacity : Nat) : Nat := soc * 1000 / capacity

/-- The battery's per-mille SoC. -/
def Battery.permille (b : Battery) : Nat := permilleOf b.soc b.capacity

/-- An item's image as its owner holds it (10.1). -/
def imageOf (p : Part) : Item → Image
  | .GROUP1 => .group p.pu.groups.g1
  | .GROUP2 => .group p.pu.groups.g2
  | .GROUP3 => .group p.pu.groups.g3
  | .GROUP4 => .group p.pu.groups.g4
  | .UNIT => .unit p.pu.unit
  | .SELECTED => .selected p.pu.selected
  | .TAGS => .tags p.tu.tags p.tu.nextTag
  | .ROSTER => .roster p.tu.roster
  | .WEAR => .wear (.ofFun fun x => ((p.dc.poles.get x).wear, (p.dc.poles.get x).count))
  | .LOCKOUT => .lockout (.ofFun fun x => (p.seq x).lockout)
  | .HEALTH => .health p.bc.health
  | .SOC => .soc p.bc.soc p.bc.permille
  | .HOURS => .hours p.bc.hours

/-- The item of a group number. -/
def groupItem (n : Nat) : Item :=
  match n with
  | 2 => .GROUP2
  | 3 => .GROUP3
  | 4 => .GROUP4
  | _ => .GROUP1

/-- A hand-off of an item: a write begins, or the item becomes dirty (R194). -/
def WriteRec.hand (w : WriteRec) (image : Image) : WriteRec :=
  match w.writing with
  | none => { w with writing := some image }
  | some _ => { w with dirty := true }

/-- An owner hands an item to the Retained Store (R194). -/
def retain (i : Item) (p : Part) : Part := { p with rs := p.rs.set i ((p.rs.get i).hand (imageOf p i)) }

/-- An owner hands an item on which an answer waits, marked for its covering write (R194, R195). -/
def retainFor (i : Item) (what : Held) (p : Part) : Part :=
  let w := p.rs.get i
  retain i { p with rs := p.rs.set i { w with waiting := w.waiting ++ [⟨w.writing.isSome, what⟩] } }

/-- Whether an item is WRITING or has dirty set (R198). -/
def WriteRec.busy (w : WriteRec) : Bool := w.writing.isSome || w.dirty

/-- Whether any retained item is WRITING or has dirty set (R198). -/
def Store.busy (s : Store) : Bool := allItems.any fun i => (s.get i).busy

/-- The request under answer becomes none (R183, R191). -/
def clearUnder (l : Link) (p : Part) : Part := { p with li := p.li.set l { p.li.get l with under := none } }

/-- The answer of the request a link has under answer, to wait for a write (R195). -/
def heldAnswer (l : Link) (kind tag : Byte) (content : List Byte) (p : Part) : Held :=
  .answer l (p.li.get l).wakes kind tag content

/-- A waiting answer is given its write's outcome (R195); the answer of a request that a wake has dropped since is discarded
(R192). -/
def release (ok : Bool) (w : Waiting) (p : Part) : Part :=
  match w.what with
  | .answer l wakes kind tag content =>
    if (p.li.get l).wakes = wakes then
      clearUnder l (send l (.answer kind tag (if ok then .DONE else .DONE_NOT_RETAINED) content) p)
    else p
  | .settings l tag => send l (.endMsg tag (.settings (if ok then .COMPLETE else .NOT_RETAINED))) p

/-- The write record after a write in progress has ended: the image in storage is replaced where the write succeeded,
the further write begins where dirty is set, and the answers marked for the further write wait for it (R194, R195). -/
def WriteRec.ended (w : WriteRec) (image further : Image) (ok : Bool) : WriteRec :=
  { writing := if w.dirty then some further else none
    dirty := false
    waiting := (w.waiting.filter fun a => a.further).map fun a => { a with further := false }
    fault := !ok
    stored := if ok then .good image else w.stored }

/-- A retained write ends (R194 to R196); without a write in progress nothing happens. -/
def writeEnd (i : Item) (ok : Bool) (p : Part) : Part :=
  let w := p.rs.get i
  match w.writing with
  | none => p
  | some image =>
    let q := { p with rs := p.rs.set i (w.ended image (imageOf p i) ok) }
    let r := applyAll (release ok) (w.waiting.filter fun a => !a.further) q
    if !ok && !w.fault then enterReport .STORE_FAULT none (1 :: itemEntry i .WRITE_FAILED) r else r

end Sys2Proof.Machine
end

