-- ==== Sys2Proof/Machine/SequenceOps.lean ====
section
/-! DEFINITION. The Sequencer's own operations (chapter 3) that ask nothing of the drive: lockouts, dead and reclaim
timers, end notes, gangs, quiescence, the pole mode, and taking a sequencer entry out of the drive's list with its reservation. -/

namespace Sys2Proof.Machine

/-! ### Sequencer entries -/

/-- A pole taken out of the units of the waiting order; a unit with no pole left goes (R127). -/
def dropWaiting (x : Pole) (units : List PoleSet) : List PoleSet :=
  (units.map fun u => u.diff (.single x)).filter fun u => !u.isEmpty

/-- A reservation leaves the list (R128): where it held one, a claim is released, and units that had split back may be granted
again (R124). -/
def EnergyUnit.release (e : EntryName) (u : EnergyUnit) : EnergyUnit :=
  { u with
    closes := u.closes.filter fun r => r.entry != e
    split := if u.closes.any fun r => r.entry == e then .empty else u.split }

/-- The sequencer entry of a pole leaves the close request list: its reservation is released and its place in the
waiting order given up (R127, R128). -/
def dropSeq (x : Pole) (p : Part) : Part :=
  let u := p.nu.release (.SEQ x)
  { p with
    dc := { p.dc with seq := p.dc.seq.set x none }
    nu := { u with waiting := dropWaiting x u.waiting, split := u.split.diff (.single x) } }

/-- Whether a pole is in CLOSE_WAIT with its entry not fired (R48). -/
def Part.unfired (p : Part) (x : Pole) : Bool := (p.seq x).state == .CLOSE_WAIT && (p.dc.seq.get x).isSome

/-- Whether a pole is in CLOSE_WAIT with its reclose in flight (R48). -/
def Part.recloseFired (p : Part) (x : Pole) : Bool := (p.seq x).state == .CLOSE_WAIT && (p.dc.seq.get x).isNone

/-- The poles in DEAD or in CLOSE_WAIT with the entry not fired (R63, R64, R67). -/
def Part.waitingPoles (p : Part) : PoleSet := .ofFun fun x => (p.seq x).state == .DEAD || p.unfired x

/-! ### Quiescence (R71, R72) -/

/-- Whether a sequence state leaves the Sequencer quiescent (R72). -/
def SeqState.rests : SeqState → Bool
  | .CLOSED_IDLE | .LOCKOUT | .OPEN => true
  | _ => false

/-- Whether the Sequencer is quiescent (R72). -/
def Part.isQuiescent (p : Part) : Bool := (PoleSet.full.all fun x => (p.seq x).state.rests) && !p.dc.holdsWork

/-- The pending pole mode takes force at quiescence (R71). -/
def takeMode (q : Sequencer) : Sequencer :=
  match q.pendingMode with
  | some m => if q.quiescent then { q with mode := m, pendingMode := none } else q
  | none => q

/-- Quiescence is judged again, by the poles' states and the drive as they stand, and a pending pole mode takes force where it is
reached (R71, R72). The operations of the Sequencer and of the drive end with it wherever they may bring a pole to rest or leave the
drive with nothing, in the middle of an event too; it is judged at the end of every event as well (assumption 70). -/
def judgeQuiescence (p : Part) : Part :=
  { p with sq := takeMode { p.sq with quiescent := p.isQuiescent } }

/-! ### Lockout (R46) -/

/-- A record entering LOCKOUT (R46): both timers stop, the energy wait used is 0, the ganged field, the superseded mark
and the end note are cleared, the shot is kept. -/
def SeqRec.locked (r : SeqRec) (cause : LockCause) : SeqRec :=
  { r with
    state := .LOCKOUT, lockout := some cause, deadTimer := none, newValue := false, reclaim := .stopped
    energyWait := 0, ganged := false, superseded := false, endNote := none }

/-- Poles with the cause for which each is to be locked out at one event. -/
abbrev LockSet := PerPole (Option LockCause)

/-- No pole to lock out. -/
def LockSet.empty : LockSet := .const none

/-- The poles of a set, all with one cause. -/
def LockSet.of (s : PoleSet) (cause : LockCause) : LockSet := .ofFun fun x => if s.has x then some cause else none

/-- Two lock sets of one event; the first names the cause. -/
def LockSet.orElse (f g : LockSet) : LockSet := .ofFun fun x => ((f.get x).orElse fun _ => g.get x)

/-- The poles of a lock set. -/
def LockSet.poles (f : LockSet) : PoleSet := .ofFun fun x => (f.get x).isSome

/-- The lock set without the poles already in LOCKOUT, which keep their first cause (R46). -/
def Part.newLocks (p : Part) (f : LockSet) : LockSet :=
  .ofFun fun x => if (p.seq x).state = .LOCKOUT then none else f.get x

/-- The sequence records after the poles of a lock set have entered LOCKOUT (R46). -/
def lockRecs (f : LockSet) (recs : PerPole SeqRec) : PerPole SeqRec :=
  .ofFun fun x =>
    match f.get x with
    | some c => (recs.get x).locked c
    | none => recs.get x

/-- Poles enter LOCKOUT (R46): unfired entries are withdrawn, and quiescence is judged again (R72). The report and the image follow
(`tellLockouts`, `reportLockouts`). -/
def enterLockout (causes : LockSet) (p : Part) : Part :=
  let f := p.newLocks causes
  let q := applyAll dropSeq (f.poles.members.filter p.unfired) p
  judgeQuiescence { q with sq := { q.sq with recs := lockRecs f q.sq.recs } }

/-- The poles in LOCKOUT. -/
def Part.locked (p : Part) : PoleSet := .ofFun fun x => (p.seq x).state == .LOCKOUT

/-- The body of a LOCKOUT report over the poles that entered (R210): each pole's cause and shot. -/
def lockoutBody (s : PoleSet) (p : Part) : List Byte :=
  s.members.flatMap fun x => [optCode LockCause.code (p.seq x).lockout, byte (p.seq x).shot]

/-- The poles that have entered LOCKOUT between two moments of an event and are in no report yet (R46). -/
def newlyLocked (before after : Part) : PoleSet := (after.locked.diff before.locked).diff after.sq.told

/-- One OPERATION LOCKOUT report over those poles (R46): in mid-event where a rule has the Report Unit take another report after
what the Sequencer does (R28, R101, R152), and otherwise at its end (assumption 19). -/
def tellLockouts (before after : Part) : Part :=
  let s := newlyLocked before after
  if s.isEmpty then after
  else
    enterReport .LOCKOUT (some s) (lockoutBody s after)
      { after with sq := { after.sq with told := after.sq.told.union s } }

/-- What one event did to the poles in LOCKOUT (R46; assumption 19): the lockout image is handed on where a pole entered or
left, and the OPERATION LOCKOUT report names all that entered. -/
def reportLockouts (before after : Part) : Part :=
  if after.locked = before.locked then after
  else
    let q := tellLockouts before (retain .LOCKOUT after)
    { q with sq := { q.sq with told := .empty } }

/-! ### End notes (R44, R48) -/

/-- Whether a note outranks the one present (R48). -/
def noteOutranks (n : EndNote) (present : Option EndNote) : Bool :=
  match present with
  | none => true
  | some m => decide (n.code < m.code)

/-- A record with an end note, kept only where it outranks the one present (R48). -/
def SeqRec.note (r : SeqRec) (n : EndNote) : SeqRec := if noteOutranks n r.endNote then { r with endNote := some n } else r

/-- An end note on the poles of a set. -/
def notePoles (s : PoleSet) (n : EndNote) (p : Part) : Part :=
  mapSeq s (fun _ r => r.note n) p

/-- The lockout cause of an end note (R44). -/
def EndNote.cause : EndNote → LockCause
  | .EXHAUSTION => .EXHAUSTION
  | .BLIND => .BLIND
  | .HOT_LINE => .HOT_LINE
  | .GANG => .GANG
  | .COMMAND => .COMMAND
  | .SHOTS => .SHOTS

/-- The end note of a trip cause (R60). -/
def OpCause.note : OpCause → Option EndNote
  | .COMMAND => some .COMMAND
  | .GANG_LOCKOUT => some .GANG
  | .BLIND_FAILSAFE => some .BLIND
  | .HOT_LINE_FAILSAFE => some .HOT_LINE
  | .EXHAUSTION => some .EXHAUSTION
  | _ => none

/-! ### Timers (R52, R56) -/

/-- The dead time of a profile for a shot (R52); a free value for a shot the rule does not name (assumption 7). -/
def deadTimeOf (g : Group) (shot : Nat) : Nat :=
  match shot with
  | 1 => g.dead1
  | 2 => g.dead2
  | 3 => g.dead3
  | n => Config.deadTimeOpen g.dead1 g.dead2 g.dead3 n

/-- A record whose dead timer starts with a length (R52). -/
def SeqRec.dead (r : SeqRec) (length : Nat) : SeqRec :=
  { r with
    state := .DEAD, deadTimer := some length, deadLength := length, energyWait := 0, newValue := false
    reclaim := .stopped }

/-- A record whose dead timer stops (R48, R52). -/
def SeqRec.deadStopped (r : SeqRec) : SeqRec := { r with state := .DEAD, deadTimer := none, newValue := false }

/-- A pole's dead timer starts at its present shot (R52). -/
def startDead (x : Pole) (p : Part) : Part := p.setSeq x ((p.seq x).dead (deadTimeOf p.profile (p.seq x).shot))

/-- A reclaim timer as it starts: running while measurement is OK, held otherwise (R56). -/
def reclaimStart (ok : Bool) (g : Group) : Reclaim :=
  if ok then .running (g.reclaimS * 1000) else .held (g.reclaimS * 1000)

/-- Whether the Sequencer was last told that measurement is OK. -/
def Part.sqOk (p : Part) : Bool := p.sq.meas == .OK

/-- A record entering RECLAIM (R56). -/
def SeqRec.toReclaim (r : SeqRec) (t : Reclaim) : SeqRec :=
  { r with state := .RECLAIM, reclaim := t, deadTimer := none, newValue := false }

/-- A record entering TIMING: no reclaim timer (R47, R55). -/
def SeqRec.toTiming (r : SeqRec) : SeqRec :=
  { r with state := .TIMING, reclaim := .stopped, deadTimer := none, newValue := false }

/-- The members of the gang (R57). -/
def Part.gang (p : Part) : PoleSet := .ofFun fun x => (p.seq x).ganged

/-- The gang as it acts for a pole: the whole gang where the pole is a member, and the pole alone otherwise. -/
def Part.unitOf (p : Part) (x : Pole) : PoleSet := if (p.seq x).ganged then p.gang else .single x

/-- Whether a member of the gang awaits the end of a trip: it is of the trip pending set or of the trip in flight. -/
def Part.gangAwaits (p : Part) : Bool :=
  p.gang.overlaps (p.dc.pendingPoles.union p.dc.tripPoles)

/-- The members of the gang that wait in DEAD. -/
def Part.gangDead (p : Part) : PoleSet := .ofFun fun x => (p.seq x).ganged && (p.seq x).state == .DEAD

/-- The members of the gang that wait in DEAD with the timer stopped. -/
def Part.gangStopped (p : Part) : PoleSet := .ofFun fun x => p.gangDead.has x && (p.seq x).deadTimer.isNone

/-- The members of the gang that wait in DEAD start one timer together, once no member awaits a trip end and one of them has
its timer stopped (R51, R52, R57; assumption 12): the length is that for the shot of the first of them. -/
def startGang (p : Part) : Part :=
  if p.gangAwaits || p.gangStopped.isEmpty then p
  else
    match p.gangDead.members with
    | [] => p
    | x :: _ =>
      let t := deadTimeOf p.profile (p.seq x).shot
      mapSeq p.gangDead (fun _ r => r.dead t) p

/-- A record that shows the dead timer another member of its gang runs (R52). -/
def SeqRec.shareTimer (r m : SeqRec) : SeqRec :=
  { r with deadTimer := m.deadTimer, deadLength := m.deadLength, newValue := m.newValue, energyWait := m.energyWait }

/-- The members of the gang that wait in DEAD with the timer stopped share the timer another member runs, or start one
together where none does; none while a member awaits a trip end (R48, R49, R52; assumption 12). -/
def joinGangTimer (p : Part) : Part :=
  match p.gangDead.members.find? fun x => (p.seq x).deadTimer.isSome with
  | some x => if p.gangAwaits then p else mapSeq p.gangStopped (fun _ r => r.shareTimer (p.seq x)) p
  | none => startGang p

/-- Reclaim timers held while measurement is not OK (R56). -/
def Reclaim.hold : Reclaim → Reclaim
  | .running t => .held t
  | r => r

/-- Reclaim timers that run on (R56). -/
def Reclaim.resume : Reclaim → Reclaim
  | .held t => .running t
  | r => r

/-- A change of every reclaim timer. -/
def mapReclaim (f : Reclaim → Reclaim) (p : Part) : Part :=
  mapSeq .full (fun _ r => { r with reclaim := f r.reclaim }) p

/-! ### The effective profile reaches the Sequencer (R52, R71, R79) -/

/-- New value pending on a running dead timer (R52). -/
def SeqRec.judgeNewValue (r : SeqRec) (g : Group) : SeqRec :=
  { r with newValue := r.deadTimer.isSome && decide (r.deadLength ≠ deadTimeOf g r.shot) }

/-- The pole mode of the effective profile is judged (R71). -/
def judgeMode (m : PoleMode) (q : Sequencer) : Sequencer :=
  if m = q.mode then { q with pendingMode := none }
  else if q.quiescent then { q with mode := m, pendingMode := none }
  else { q with pendingMode := some m }

/-- The Sequencer is given a changed effective profile (R52, R71), and judges its pole mode by quiescence as it then stands
(R72). -/
def sqProfileChanged (p : Part) : Part :=
  let g := p.profile
  let q := judgeQuiescence (mapSeq .full (fun _ r => r.judgeNewValue g) p)
  { q with sq := judgeMode g.mode q.sq }

/-- The group byte of a PROFILE_CHANGE body: the group of the source where it names one (R79, R210; assumption 20). -/
def Source.group : Source → Nat
  | .GROUP n => n
  | .TEMPORARY n => n
  | _ => 0

/-- A change at the Profile Unit, after which the effective profile is judged (R79). -/
def judged (f : Part → Part) (p : Part) : Part :=
  let q := f p
  let e := q.pu.effective
  if e = p.pu.effective then q
  else
    enterReport .PROFILE_CHANGE none [byte e.source.code, byte e.source.group, byte q.pu.selected] (sqProfileChanged q)

/-- The COLD_LOAD frame is pushed: it enters, or its timer loads afresh (R81). -/
def pushColdLoad (p : Part) : Part :=
  judged (fun q => { q with pu := { q.pu with coldLoad := some (q.pu.selectedGroup.coldS * 1000) } }) p

/-- The cold-load test of a close that ended COMPLETE (R62). -/
def coldLoadTest (poles : PoleSet) (p : Part) : Part :=
  if decide (0 < p.pu.unit.coldOpenS) && poles.any (fun x => decide (p.pu.unit.coldOpenS < (p.seq x).departure)) then
    pushColdLoad p
  else p

/-! ### Pickups and dropouts (R47, R58) -/

/-- Whether the pickup copy holds a pole, or for a member of the gang any member (R55, R58). -/
def Part.pickedUp (p : Part) (x : Pole) : Bool := (p.unitOf x).overlaps p.sq.pickup

/-- A record at the pickup of its pole (`own`) or of its gang (R47, R58). -/
def SeqRec.pickedUp (r : SeqRec) (own : Bool) : SeqRec :=
  match r.state with
  | .CLOSED_IDLE => if own then r.toTiming else r
  | .RECLAIM => r.toTiming
  | _ => r

/-- Pickups of poles: CLOSED_IDLE and RECLAIM go to TIMING, a gang with its members (R47, R58); quiescence is judged again (R72). -/
def sqPickups (s : PoleSet) (p : Part) : Part :=
  let q := { p with sq := { p.sq with pickup := p.sq.pickup.union s } }
  judgeQuiescence (mapSeq .full (fun x r => if (q.unitOf x).overlaps s then r.pickedUp (s.has x) else r) q)

/-- A record at the dropout of its pole or gang: from TIMING to RECLAIM at a shot above 0, else to CLOSED_IDLE (R47), a member of a
gang too, which stays ganged (assumption 63). -/
def SeqRec.droppedOut (r : SeqRec) (full : Reclaim) : SeqRec :=
  if r.state = .TIMING then
    if 0 < r.shot then r.toReclaim full else { r with state := .CLOSED_IDLE, reclaim := .stopped }
  else r

/-- Dropouts of poles: TIMING returns to RECLAIM with a full reclaim time where the shot is above 0, and to CLOSED_IDLE
otherwise; a gang only when the copy holds none of its members (R47, R58), at the dropout of a pole that is still a member
(assumption 62). Quiescence is judged again, so that the trip decision of the same message reads the pole mode then in force (R40,
R71, R72). -/
def sqDropouts (s : PoleSet) (p : Part) : Part :=
  let q := { p with sq := { p.sq with pickup := p.sq.pickup.diff s } }
  let left := PoleSet.ofFun fun x => (q.unitOf x).overlaps s && !(q.unitOf x).overlaps q.sq.pickup
  judgeQuiescence (mapSeq left (fun _ r => r.droppedOut (reclaimStart q.sqOk q.profile)) q)

end Sys2Proof.Machine
end

