-- ==== Sys2Proof/Machine/Trips.lean ====
section
/-! DEFINITION. Trip requests (R4): the entries they end (R16), the Sequencer's response (R48, R49, R60), the merge into
the trip pending set, and the close a trip supersedes (R13). Also what every ended operation has in common (R12, R14,
R20 to R23). -/

namespace Sys2Proof.Machine

/-! ### END messages (R23) -/

/-- The link of a requester. -/
def Requester.link : Requester → Option Link
  | .PROTECTION_LINK => some .PROTECTION
  | .RADIO_LINK => some .RADIO
  | .CREW_LINK => some .CREW
  | _ => none

/-- The requester that a link is. -/
def requesterOf : Link → Requester
  | .PROTECTION => .PROTECTION_LINK
  | .RADIO => .RADIO_LINK
  | .CREW => .CREW_LINK

/-- The END message of one requester entry, where it earns one (R23). -/
def sendEnd (result : OpResult) (number : Nat) (e : ReqEntry) (p : Part) : Part :=
  match e.who.link, e.tag with
  | some l, some t => send l (.endMsg t (.operation result number)) p
  | _, _ => p

/-- The END messages of an ended operation, in the order of its requester list (R23). -/
def sendEnds (op : OpRec) (result : OpResult) (p : Part) : Part :=
  applyAll (sendEnd result op.number) op.requesters p

/-! ### Close entries that end without firing (R16) -/

/-- A reservation leaves the list (R128). -/
def releaseEntry (e : EntryName) (p : Part) : Part := { p with nu := p.nu.release e }

/-- The crew entry ends without firing (R14, R16). -/
def endCrewEntry (result : OpResult) (p : Part) : Part :=
  match p.dc.crew with
  | some e => sendEnds e.op result (releaseEntry .CREW { p with dc := { p.dc with crew := none } })
  | none => p

/-- The radio entry ends without firing (R14, R16). -/
def endRadioEntry (result : OpResult) (p : Part) : Part :=
  match p.dc.radio with
  | some e => sendEnds e.op result (releaseEntry .RADIO { p with dc := { p.dc with radio := none } })
  | none => p

/-- The crew and radio entries that cover a pole of a set end (R16). -/
def endLinkEntries (s : PoleSet) (result : OpResult) (p : Part) : Part :=
  let q := if (LinkClose.poles p.dc.crew).overlaps s then endCrewEntry result p else p
  if (LinkClose.poles q.dc.radio).overlaps s then endRadioEntry result q else q

/-- A sequencer entry ends CANCELLED: the pole goes to DEAD with the dead timer stopped (R65). -/
def cancelSeq (x : Pole) (p : Part) : Part :=
  let q := dropSeq x p
  if (q.seq x).state = .CLOSE_WAIT then q.setSeq x (q.seq x).deadStopped else q

/-- Every entry covering a pole of a set ends CANCELLED (R16, R65). -/
def cancelEntries (s : PoleSet) (p : Part) : Part :=
  let q := endLinkEntries s .CANCELLED p
  applyAll cancelSeq (s.inter q.dc.seqPoles).members q

/-! ### What every ended operation has in common (R12, R14, R20 to R22) -/

/-- The motion of poles returns to NONE (R14). -/
def clearMotion (s : PoleSet) (p : Part) : Part :=
  mapPoles s (fun _ r => { r with motion := .NONE }) p

/-- MECH_FAIL becomes set on one pole; a pole that has it keeps its cause (R12). -/
def setMech (c : MechCause) (x : Pole) (p : Part) : Part :=
  let r := p.dc.poles.get x
  match r.mechFail with
  | some _ => p
  | none =>
    enterReport .MECH_FAIL (some (.single x)) [byte c.code] (p.setPole x { r with mechFail := some c })

/-- The poles without MECH_FAIL. -/
def Part.sound (p : Part) : PoleSet := .ofFun fun x => ((p.dc.poles.get x).mechFail).isNone

/-- The coil checks of fired poles (R12); a pole in DEAD, or in CLOSE_WAIT with its entry not fired, on which MECH_FAIL
becomes set is locked out (R66). The reports go in the order A, B, C (assumption 47). -/
def coilChecks (fired : PoleSet) (p : Part) : Part :=
  let found := (fired.inter p.dc.coilOpen).inter p.sound
  let q := applyAll (setMech .COIL_OPEN) found.members p
  enterLockout (.of (found.inter q.waitingPoles) .MECH_FAIL) q

/-- Wear a trip adds by the last interrupted current (R20). -/
def wearOf : Option Nat → Nat
  | none => 50
  | some c => if c < 1000 then 1 else if c < 3000 then 3 else if c < 6000 then 10 else if c < 10000 then 25 else 50

/-- The reports of a wear that has risen (R21). -/
def wearReports (old new : Nat) (x : Pole) (p : Part) : Part :=
  let q := if old < 800 ∧ 800 ≤ new then enterReport .WEAR_WARN (some (.single x)) (two new) p else p
  if old < 1000 ∧ 1000 ≤ new then enterReport .WEAR_LIMIT (some (.single x)) (two new) q else q

/-- One pole gains wear (R20, R21). -/
def addWear (x : Pole) (p : Part) : Part :=
  let r := p.dc.poles.get x
  let w := min 1000 (r.wear + wearOf r.lastCurrent)
  wearReports r.wear w x (p.setPole x { r with wear := w })

/-- A pole's operation count rises by one, saturating (R1, R20). -/
def PoleRec.counted (r : PoleRec) : PoleRec := { r with count := min 999999 (r.count + 1) }

/-- Operation counts and wear of an ended operation (R20): each moved pole counts, and the poles of a trip that showed
CLOSED at the fire and moved gain wear; after a trip that changed the image it is handed on. The reports of the wear go in the
order A, B, C (assumption 48). -/
def countAndWear (f : Flight) (p : Part) : Part :=
  let q := mapPoles f.moved (fun _ r => r.counted) p
  if f.op.kind = .TRIP then
    let r := applyAll addWear (f.closedAtFire.inter f.moved).members q
    if imageOf r .WEAR = imageOf p .WEAR then r else retain .WEAR r
  else q

/-- The reservations a close in flight holds are released (R128). -/
def releaseFlight (op : OpRec) (p : Part) : Part :=
  match op.kind, op.cause with
  | .TRIP, _ => p
  | .CLOSE, .RECLOSE => applyAll (fun x => releaseEntry (.SEQ x)) op.poles.members p
  | .CLOSE, _ =>
    applyAll (fun (e : ReqEntry) => releaseEntry (if e.who = .CREW_LINK then .CREW else .RADIO)) op.requesters p

/-- The TRIP_DONE or CLOSE_DONE report of a fired operation (R14, R210). -/
def doneReport (op : OpRec) (result : OpResult) (p : Part) : Part :=
  enterReport (if op.kind = .TRIP then .TRIP_DONE else .CLOSE_DONE) (some op.poles)
    (two op.number ++ [byte op.cause.code, byte result.code, 0]) p

/-- A fired operation enters the history ring as its newest entry (R22). -/
def pushHistory (f : Flight) (result : OpResult) (p : Part) : Part :=
  let currents : PerPole (Option Nat) := .ofFun fun x =>
    if f.op.kind = .TRIP ∧ f.fire.has x then (p.dc.poles.get x).lastCurrent else none
  { p with dc := { p.dc with
      history := (⟨{ f.op with state := .ENDED, result := some result }, f.start, currents⟩ :: p.dc.history).take
        Config.historyMax } }

/-- The end of an operation begins (R14): it is in flight no more, and the drive not yet free. -/
def beginEnd (p : Part) : Part := { p with dc := { p.dc with flight := none, ending := true } }

/-- The drive is free after the last step of R14; where it then holds nothing, the Sequencer is told and judges quiescence (R72). -/
def driveFreed (p : Part) : Part := judgeQuiescence { p with dc := { p.dc with ending := false } }

/-- Steps 1 to 3 of R14 for a fired operation: motion, coil checks, counts and wear. -/
def endFirst (f : Flight) (p : Part) : Part :=
  countAndWear f (coilChecks f.fire (clearMotion f.fire (beginEnd p)))

/-- Steps 5 to 8 of R14 for a fired operation: the reservation, the report, the history ring and the END messages. -/
def endLast (f : Flight) (result : OpResult) (p : Part) : Part :=
  sendEnds f.op result (pushHistory f result (doneReport f.op result (releaseFlight f.op p)))

/-! ### A close superseded by a trip (R13) -/

/-- The superseded mark on a pole in CLOSE_WAIT or TRIP_WAIT (R55). -/
def SeqRec.markSuperseded (r : SeqRec) : SeqRec :=
  if r.state = .CLOSE_WAIT ∨ r.state = .TRIP_WAIT then { r with superseded := true } else r

/-- The superseded mark on the poles of a reclose (R50, R55). -/
def markSuperseded (op : OpRec) (p : Part) : Part :=
  if op.cause = .RECLOSE then mapSeq op.poles (fun _ r => r.markSuperseded) p else p

/-- The close in flight ends SUPERSEDED (R13, R14). -/
def endSuperseded (f : Flight) (p : Part) : Part :=
  driveFreed (endLast f .SUPERSEDED (markSuperseded f.op (endFirst f p)))

/-! ### The merge (R4) -/

/-- Rank of a cause among the requester entries of a trip (R3). -/
def OpCause.rank : OpCause → Nat
  | .PROTECTIVE => 0
  | .BLIND_FAILSAFE => 1
  | .HOT_LINE_FAILSAFE => 2
  | .GANG_LOCKOUT => 3
  | .EXHAUSTION => 4
  | _ => 5

/-- The highest-ranked cause of two (R3). -/
def higherCause (c d : OpCause) : OpCause := if d.rank < c.rank then d else c

/-- A trip record with one more requester entry (R3, R4). -/
def OpRec.addRequester (op : OpRec) (e : ReqEntry) : OpRec :=
  { op with requesters := op.requesters ++ [e], cause := higherCause op.cause e.cause }

/-- Where a trip request went (R4). -/
inductive Taken
  /-- Its entry is in the trip pending set or in the trip in flight. -/
  | held
  /-- It has no entry: every pole asked for shows OPEN. -/
  | nothing
  deriving DecidableEq, Repr

/-- The poles of a request that join the trip pending set (R4). -/
def Part.joins (p : Part) (s : PoleSet) : PoleSet :=
  s.inter (((p.notOpen).union p.dc.closing).diff p.dc.tripping)

/-- The poles of a request left out as already being tripped (R4). -/
def Part.beingTripped (p : Part) (s : PoleSet) : PoleSet := s.inter (p.notOpen.inter p.dc.tripping)

/-- A requester entry joins the trip pending set with the poles that join it; the set takes the next operation number
where it was empty (R3, R4). -/
def joinPending (joined : PoleSet) (e : ReqEntry) (p : Part) : Part :=
  match p.dc.trip with
  | some t =>
    let op := t.op.addRequester e
    { p with dc := { p.dc with trip := some { t with op := { op with poles := op.poles.union joined } } } }
  | none =>
    { p with dc := { p.dc with
        trip := some ⟨⟨p.dc.nextOp, .TRIP, joined, e.cause, [e], .PENDING, none⟩, .empty⟩
        nextOp := wrapNext p.dc.nextOp } }

/-- The trip pending set takes the poles of a superseded close as closing poles (R13). -/
def takeClosing (s : PoleSet) (p : Part) : Part :=
  match p.dc.trip with
  | some t =>
    { p with dc := { p.dc with
        trip := some { t with op := { t.op with poles := t.op.poles.union s }, closing := t.closing.union s } } }
  | none => p

/-- The close in flight, if there is one, is superseded (R13), whatever the cause of the trip, EXHAUSTION among them
(assumption 72). -/
def supersede (p : Part) : Part :=
  match p.dc.flight with
  | some f => if f.op.kind = .CLOSE then endSuperseded f (takeClosing f.fire p) else p
  | none => p

/-- The merge of a trip request (R4, R13). -/
def mergeTrip (s : PoleSet) (e : ReqEntry) (p : Part) : Part × Taken :=
  let joined := p.joins s
  if !joined.isEmpty then (supersede (joinPending joined e p), .held)
  else
    match p.dc.flight with
    | some f =>
      if (p.beingTripped s).isEmpty then (p, .nothing)
      else ({ p with dc := { p.dc with flight := some { f with op := f.op.addRequester e } } }, .held)
    | none => (p, .nothing)

/-! ### The Sequencer's response to a trip request (R48, R49, R60) -/

/-- A pole of the trip set as a protective trip changes it (R48); one in CLOSE_WAIT with the superseded mark is taken as one
whose reclose is in flight (assumption 49), one left in DEAD keeps its dead timer running (assumption 55), and one that shows OPEN
moves all the same (assumption 67). -/
def SeqRec.protect (r : SeqRec) (fired showsOpen : Bool) : SeqRec :=
  match r.state with
  | .CLOSED_IDLE | .TIMING | .RECLAIM => { r with state := .TRIP_WAIT, reclaim := .stopped }
  | .CLOSE_WAIT => if fired then { r with state := .TRIP_WAIT } else r
  | .OPEN => if showsOpen then r else r.note .SHOTS
  | _ => r

/-- A gang trip makes a pole of the trip set ganged (R48): one that awaits the trip's end, or one in OPEN or LOCKOUT that
shows CLOSED or UNKNOWN (assumption 12). -/
def SeqRec.joinGang (r : SeqRec) (gangTrip showsOpen : Bool) : SeqRec :=
  if gangTrip ∧ (r.state = .TRIP_WAIT ∨ (r.state = .OPEN ∨ r.state = .LOCKOUT) ∧ !showsOpen) then { r with ganged := true }
  else r

/-- Whether a protection-link TRIP leaves a pole as it is when a gang trip brings in the poles in DEAD (R49; assumption 13):
a named pole that is not ganged, whose own dead timer runs on or starts afresh; and where it names a member of the gang in DEAD
with the timer running, every member that shares that timer. -/
def leftInDead (named : PoleSet) (fromLink : Bool) (p : Part) (x : Pole) : Bool :=
  let runs := fun y => (p.seq y).ganged && (p.seq y).state == .DEAD && (p.seq y).deadTimer.isSome
  fromLink && if (p.seq x).ganged then runs x && named.any runs else named.has x

/-- A gang trip brings the poles in DEAD, and in CLOSE_WAIT with the entry not fired, into the gang (R48). -/
def bringIn (named : PoleSet) (fromLink : Bool) (p : Part) : Part :=
  let s := PoleSet.ofFun fun x => p.waitingPoles.has x && !leftInDead named fromLink p x
  let q := applyAll dropSeq (s.inter p.dc.seqPoles).members p
  mapSeq s (fun _ r => { r.deadStopped with ganged := true }) q

/-- A protective trip at the Sequencer (R48, R49): the poles as it changes them, and the widened set. -/
def sqProtect (named : PoleSet) (multi fromLink : Bool) (p : Part) : Part × PoleSet :=
  let gangTrip := p.sq.mode == .GANGED || multi || named.overlaps p.gang
  let wide := if gangTrip then named.union (p.gang.inter p.notOpen) else named
  let q := if gangTrip then bringIn named fromLink p else p
  (mapSeq wide (fun x r => (r.protect (q.recloseFired x) (q.showsOpen x)).joinGang gangTrip (q.showsOpen x)) q, wide)

/-- Dead timers a protection-link TRIP starts afresh (R49): named poles in DEAD, not ganged, with the timer stopped; and
the gang's, where none runs and it awaits no trip end (assumption 12). -/
def restartDead (named : PoleSet) (p : Part) : Part :=
  let s := PoleSet.ofFun fun x =>
    named.has x && (p.seq x).state == .DEAD && (p.seq x).deadTimer.isNone && !(p.seq x).ganged
  joinGangTimer (applyAll startDead s.members p)

/-- The poles a trip report locks out at once, and those on which it leaves an end note (R60). -/
def reportNoteStates : OpCause → List SeqState
  | .COMMAND => [.TRIP_WAIT]
  | _ => [.TRIP_WAIT, .CLOSED_IDLE, .TIMING, .RECLAIM]

/-- A trip report other than the protective ones (R60); a pole in CLOSE_WAIT with the superseded mark is taken as one whose
reclose is in flight (assumption 49), and a pole that waits is locked out at the report of a GANG_LOCKOUT trip too (assumption
61). -/
def sqCommandReport (s : PoleSet) (cause : OpCause) (note : EndNote) (p : Part) : Part :=
  let locks := if cause = .EXHAUSTION then p.waitingPoles else p.waitingPoles.inter s
  let noted := PoleSet.ofFun fun x =>
    s.has x && ((reportNoteStates cause).contains (p.seq x).state || p.recloseFired x)
  enterLockout (.of locks note.cause) (notePoles noted note p)

/-- The report of a trip request to the Sequencer, with the poles its widening adds (R48, R49, R60). -/
def sqTripReport (s : PoleSet) (cause : OpCause) (who : Requester) (p : Part) : Part × PoleSet :=
  match cause.note with
  | some n => (sqCommandReport s cause n p, .empty)
  | none =>
    if who = .SEQUENCER then (p, .empty)
    else
      let r := sqProtect s (decide (2 ≤ s.count)) true p
      (r.1, r.2.diff s)

/-! ### Taking a trip request (R4) -/

/-- The entries that an event ends CANCELLED leave the drive (R16); where it then holds nothing, the Sequencer is told and judges
quiescence, before it is told of the event (R4, R18, R72). -/
def clearEntries (s : PoleSet) (p : Part) : Part := judgeQuiescence (cancelEntries s p)

/-- The poles the Sequencer adds to a trip request follow as its own request (R49). -/
def addTrip (s : PoleSet) (p : Part) : Part :=
  if s.isEmpty then p else (mergeTrip s ⟨.SEQUENCER, .PROTECTIVE, s, none⟩ (clearEntries s p)).1

/-- A trip request is taken (R4): entries end (R16), the Sequencer is told, the poles merge, with those the Sequencer adds;
under a protective TRIP of a link the dead timers of R49 start afresh then, and with the drive holding the trip quiescence is judged
again (R72). No trip request is taken in DORMANT. -/
def takeTrip (s : PoleSet) (cause : OpCause) (who : Requester) (tag : Option Byte) (p : Part) : Part × Taken :=
  if !p.isRun || s.isEmpty then (p, .nothing)
  else
    let r := sqTripReport s cause who (clearEntries s p)
    let m := mergeTrip s ⟨who, cause, s, tag⟩ r.1
    let q := addTrip r.2 m.1
    (judgeQuiescence (if cause.note.isNone && who != .SEQUENCER then restartDead s q else q), m.2)

/-- The Sequencer asks the drive for a trip of its own (R48, R59, R69). -/
def seqTrip (s : PoleSet) (cause : OpCause) (p : Part) : Part := (takeTrip s cause .SEQUENCER none p).1

/-- The Sequencer sets an end note on poles and asks for their trip (R59, R69). -/
def noteAndTrip (s : PoleSet) (note : EndNote) (cause : OpCause) (p : Part) : Part :=
  if s.isEmpty || !p.isRun then p else seqTrip s cause (notePoles s note p)

/-- The check of R69: under a HOT_LINE tag, with measurement not OK and the part RUN, every pole that shows CLOSED or
UNKNOWN and is neither pending nor in the fire set of a trip is tripped with cause BLIND_FAILSAFE. -/
def blindCheck (p : Part) : Part :=
  if p.tu.hotLine && !p.sqOk && p.isRun then
    noteAndTrip ((p.notOpen.diff p.dc.pendingPoles).diff p.dc.tripping) .BLIND .BLIND_FAILSAFE p
  else p

/-- The Sequencer asks for a protective trip from the Element Unit's ask (R48). -/
def protectiveAsk (s : PoleSet) (multi : Bool) (p : Part) : Part :=
  if s.isEmpty || !p.isRun then p
  else
    let r := sqProtect s multi false p
    seqTrip r.2 .PROTECTIVE r.1

end Sys2Proof.Machine
end

