-- ==== Sys2Proof/Machine/TripEnds.lean ====
section
/-! DEFINITION. The end of an operation: how the Sequencer settles the poles of a trip (R50, R51, R60), of a reclose (R55)
and of a manual close (R61), the gang lockout (R59), and the whole of R14. -/

namespace Sys2Proof.Machine

/-! ### The gang lockout (R59) -/

/-- Whether a pole's reclose is in flight, not superseded by a trip (R59). -/
def Part.reclosing (p : Part) (x : Pole) : Bool := p.recloseFired x && !(p.seq x).superseded

/-- The poles a sequence lockout locks out at once (R59, R213): every pole that shows OPEN with no reclose in flight, beside
the poles locked out already; one that a trip in flight has opened among them, whatever its state (assumption 64). -/
def gangLocks (locks : LockSet) (p : Part) : LockSet :=
  .of (.ofFun fun x => !locks.poles.has x && p.showsOpen x && !p.reclosing x) .GANG

/-- The poles a sequence lockout trips (R59): not in LOCKOUT, and CLOSED, UNKNOWN or with the reclose in flight. One of them in DEAD
or with an unfired entry locks out at the report of that trip (R60; assumption 61). -/
def gangTrips (locks : LockSet) (p : Part) : PoleSet :=
  .ofFun fun x => !locks.poles.has x && (p.seq x).state != .LOCKOUT && (!p.showsOpen x || p.reclosing x)

/-- Lockouts of one event, followed where they are a sequence lockout by the gang lockout (R46, R59). -/
def lockWithGang (locks : LockSet) (sequenceLockout : Bool) (p : Part) : Part :=
  if sequenceLockout then
    noteAndTrip (gangTrips locks p) .GANG .GANG_LOCKOUT (enterLockout (locks.orElse (gangLocks locks p)) p)
  else enterLockout locks p

/-! ### The end of a trip (R50, R51, R60) -/

/-- Whether the Sequencer settles a pole at a trip end (R50). -/
def SeqRec.settles (r : SeqRec) : Bool := r.state == .TRIP_WAIT || (r.state == .CLOSE_WAIT && r.superseded)

/-- The poles that count toward a shot (R50). -/
def countsShot (f : Flight) (p : Part) : PoleSet :=
  .ofFun fun x =>
    f.op.poles.has x && (p.seq x).settles && f.op.requesters.any (fun e => e.cause == .PROTECTIVE) &&
      (f.closedAtFire.has x || (p.seq x).superseded)

/-- The highest shot held among the poles of a set. -/
def Part.highestShot (p : Part) (s : PoleSet) : Nat := s.members.foldl (fun m x => max m (p.seq x).shot) 0

/-- Shots after a trip end (R50): a member of the gang takes the gang's highest shot plus one where any member counts,
another pole its own plus one where it counts, to at most 4. -/
def shotAfter (counts gang : PoleSet) (highest : Nat) (x : Pole) (r : SeqRec) : Nat :=
  if r.ganged then if counts.overlaps gang then min 4 (highest + 1) else r.shot
  else if counts.has x then min 4 (r.shot + 1) else r.shot

/-- Shots are counted, and the last trip cause of the poles that moved is set (R50). -/
def countShots (f : Flight) (p : Part) : Part :=
  let counts := countsShot f p
  let gang := p.gang
  let highest := p.highestShot gang
  let q := mapSeq .full (fun x r => { r with shot := shotAfter counts gang highest x r }) p
  mapSeq f.moved (fun _ r => { r with lastTrip := some f.op.cause }) q

/-- The lockout a condition on the pole brings, tag first (R51 steps 4 to 6, R53). -/
def tagOrWearLock (p : Part) (x : Pole) : Option LockCause :=
  if p.tu.hotLine then some .HOT_LINE
  else if p.tu.blocked x then some .RECLOSE_BLOCK
  else if 1000 ≤ (p.dc.poles.get x).wear then some .WEAR
  else none

/-- Steps 2 to 8 of the decision at a trip end: none where the pole goes to DEAD (R51). -/
def sequenceCause (f : Flight) (p : Part) (x : Pole) : Option LockCause :=
  if f.fire.has x && !f.moved.has x then some .MECH_FAIL
  else if (p.dc.poles.get x).mechFail = some .COIL_OPEN then some .MECH_FAIL
  else
    match tagOrWearLock p x with
    | some c => some c
    | none =>
      if p.profile.opsToLockout ≤ (p.seq x).shot then some .SHOTS
      else if !p.sqOk then some .BLIND
      else none

/-- The decision of a pole being settled, end note first (R51). -/
def tripEndCause (f : Flight) (p : Part) (x : Pole) : Option LockCause :=
  match (p.seq x).endNote with
  | some n => some n.cause
  | none => sequenceCause f p x

/-- The lockout of a pole of the trip that is not being settled (R60). -/
def otherEndCause (f : Flight) (p : Part) (x : Pole) : Option LockCause :=
  if f.moved.has x then (p.seq x).endNote.map EndNote.cause
  else if f.fire.has x then some .MECH_FAIL
  else none

/-- A settled pole that is not locked out goes to DEAD: with a timer of its own, or with its gang's (R51, R52). -/
def SeqRec.settledDead (r : SeqRec) (length : Nat) : SeqRec :=
  if r.ganged then { r.deadStopped with superseded := false, energyWait := 0 }
  else { r.dead length with superseded := false }

/-- A pole of the trip outside TRIP_WAIT and the superseded mark that moved with no end note goes to OPEN from
CLOSED_IDLE, TIMING and RECLAIM (R60). -/
def SeqRec.opened (r : SeqRec) : SeqRec :=
  match r.state with
  | .CLOSED_IDLE | .TIMING | .RECLAIM => { r with state := .OPEN, reclaim := .stopped, ganged := false }
  | _ => r

/-- Marks and notes of the trip's poles are cleared when it has ended (R50; assumption 16), and a pole in OPEN or LOCKOUT is
out of the gang (R57, R71; assumption 12). -/
def SeqRec.tripOver (r : SeqRec) : SeqRec :=
  { r with
    superseded := false, endNote := none
    ganged := r.ganged && r.state != .OPEN && r.state != .LOCKOUT }

/-- Members of the gang that wait in DEAD for the trip's end reach operations to lockout with the others (R59); an end note
SHOTS is no such lockout. -/
def waitingShots (settled : PoleSet) (locks : LockSet) (p : Part) : LockSet :=
  if settled.any (fun x => (p.seq x).ganged && (p.seq x).endNote.isNone && locks.get x == some .SHOTS) then
    .of (.ofFun fun x => (p.seq x).ganged && !settled.has x && (p.seq x).state == .DEAD) .SHOTS
  else .empty

/-- A pole that the trip left in DEAD with its timer stopped, outside the gang, starts its timer afresh (assumption 12). -/
def restartLeft (s : PoleSet) (p : Part) : Part :=
  let t := PoleSet.ofFun fun x =>
    s.has x && (p.seq x).state == .DEAD && (p.seq x).deadTimer.isNone && !(p.seq x).ganged
  applyAll startDead t.members p

/-- Causes for the poles of a set. -/
def LockSet.on (s : PoleSet) (c : Pole → Option LockCause) : LockSet := .ofFun fun x => if s.has x then c x else none

/-- The poles a trip end settles (R50). -/
def Part.settledBy (p : Part) (f : Flight) : PoleSet := .ofFun fun x => f.op.poles.has x && (p.seq x).settles

/-- Every lockout of a trip end, from the records after the count: the settled poles (R51), the other poles of the trip
(R60) and the gang members that wait in DEAD (R59). -/
def tripEndLocks (f : Flight) (p : Part) : LockSet :=
  let settled := p.settledBy f
  let decided := LockSet.on settled (tripEndCause f p)
  decided.orElse ((LockSet.on (f.op.poles.diff settled) (otherEndCause f p)).orElse (waitingShots settled decided p))

/-- Whether a trip end makes a sequence lockout: a settled pole locks out by steps 2 to 8 of R51. -/
def tripEndIsSequence (f : Flight) (p : Part) : Bool :=
  (p.settledBy f).any fun x => (p.seq x).endNote.isNone && (tripEndCause f p x).isSome

/-- The records of the trip's poles that are not locked out: DEAD, OPEN, or as they were, with their marks and notes
cleared (R51, R60). -/
def settleRec (f : Flight) (p : Part) (x : Pole) (r : SeqRec) : SeqRec :=
  if (p.settledBy f).has x then
    if (tripEndCause f p x).isNone then (r.settledDead (deadTimeOf p.profile r.shot)).tripOver else r.tripOver
  else if f.moved.has x && r.endNote.isNone then r.opened.tripOver
  else r.tripOver

/-- The Sequencer at the end of a trip (R50, R51, R59, R60). -/
def sqTripEnd (f : Flight) (p : Part) : Part :=
  let q := countShots f p
  let r := mapSeq f.op.poles (settleRec f q) q
  restartLeft f.op.poles (startGang (lockWithGang (tripEndLocks f q) (tripEndIsSequence f q) r))

/-! ### The end of a close (R55, R61) -/

/-- A pole that a close has moved: RECLAIM with its timer, or TIMING where the pickup copy holds it (R55, R61). -/
def SeqRec.closed (r : SeqRec) (picked : Bool) (reclaim : Reclaim) : SeqRec :=
  if picked then r.toTiming else r.toReclaim reclaim

/-- The Sequencer at the end of a reclose that was not superseded (R55, R62). -/
def sqRecloseEnd (f : Flight) (result : OpResult) (p : Part) : Part :=
  let mine := PoleSet.ofFun fun x => f.op.poles.has x && (p.seq x).state == .CLOSE_WAIT
  let failed := mine.diff f.moved
  let q := mapSeq (mine.inter f.moved) (fun x r => r.closed (p.pickedUp x) (reclaimStart p.sqOk p.profile)) p
  let r := lockWithGang (.of failed .MECH_FAIL) (!failed.isEmpty) q
  if result = .COMPLETE then coldLoadTest f.op.poles r else r

/-- The Sequencer at the end of a manual close that was not superseded (R61, R62). -/
def sqManualEnd (f : Flight) (result : OpResult) (p : Part) : Part :=
  let moved := f.op.poles.inter f.moved
  let g := p.profile
  let q := mapSeq moved
    (fun x r => { r with shot := g.opsToLockout - 1, lockout := none }.closed (p.pickedUp x) (reclaimStart p.sqOk g)) p
  let r := enterLockout (.of (f.op.poles.diff f.moved) .MECH_FAIL) q
  if result = .COMPLETE then coldLoadTest f.op.poles r else r

/-- The Sequencer is told the end of a fired operation (R14 step 4). -/
def sqOperationEnd (f : Flight) (result : OpResult) (p : Part) : Part :=
  match f.op.kind, f.op.cause with
  | .TRIP, _ => sqTripEnd f p
  | .CLOSE, .RECLOSE => sqRecloseEnd f result p
  | .CLOSE, _ => sqManualEnd f result p

/-! ### R14 -/

/-- HANDLE is cleared on each pole of a close that shows CLOSED, where it ends COMPLETE or PARTIAL (R14). -/
def clearHandle (f : Flight) (result : OpResult) (p : Part) : Part :=
  if f.op.kind = .CLOSE ∧ (result = .COMPLETE ∨ result = .PARTIAL) then
    mapPoles (f.op.poles.inter p.showsClosed) (fun _ r => { r with handle := false }) p
  else p

/-- A fired operation ends (R14), after which the drive is free. -/
def finish (f : Flight) (result : OpResult) (p : Part) : Part :=
  driveFreed (clearHandle f result (endLast f result (sqOperationEnd f result (endFirst f p))))

/-- An operation whose window has run out (R10, R11): the poles still unmoved get MECH_FAIL with cause NO_MOTION, and it
ends PARTIAL where a pole moved and FAILED where none did. Their MECH_FAIL reports go before those of the coil checks
(assumption 47). -/
def finishUnmoved (f : Flight) (p : Part) : Part :=
  let unmoved := f.fire.diff f.moved
  finish f (if (f.fire.inter f.moved).isEmpty then .FAILED else .PARTIAL)
    (applyAll (setMech .NO_MOTION) unmoved.members p)

end Sys2Proof.Machine
end

