-- ==== Sys2Proof/Machine/Energy.lean ====
section
/-! DEFINITION. The Energy Unit (chapter 6): the trip reserve, the reservation list and its checks, the waiting order, the
deficit flag and the bank charger line. -/

namespace Sys2Proof.Machine

/-- The poles the trip reserve counts: CLOSED, UNKNOWN, or covered by a close entry or a close in flight (R120). -/
def Part.counted (p : Part) : PoleSet := (p.notOpen.union p.dc.listed).union p.dc.closing

/-- The trip reserve (R120). -/
def Part.tripReserveNow (p : Part) : Nat := Config.tripCost * p.counted.count

/-- The sum of the close reservations (R119). -/
def reservationSum (cs : List Reservation) : Nat := cs.foldr (fun r n => r.value + n) 0

/-- The sum of the reservation list (R119). -/
def Part.listSum (p : Part) : Nat := p.tripReserveNow + reservationSum p.nu.closes

/-- Whether a FRESH bank level covers a number of BU; an absent or STALE level covers nothing (R116, R117). -/
def EnergyUnit.freshCovers (u : EnergyUnit) (n : Nat) : Bool :=
  match u.level with
  | some l => u.fresh && decide (n ≤ l)
  | none => false

/-- The acceptance check of a link close and the placement check of sequencer entries, over their poles (R122, R123):
the sum of the list, 14 BU a pole, and 8 BU for each pole not counted yet. -/
def Part.closeFits (p : Part) (s : PoleSet) : Bool :=
  p.nu.freshCovers (p.listSum + Config.closeCost * s.count + Config.tripCost * (s.diff p.counted).count)

/-- The start check (R124). -/
def Part.startFits (p : Part) : Bool := p.nu.freshCovers p.listSum

/-- A close reservation enters the list (R121). -/
def reserve (e : EntryName) (poles : Nat) (p : Part) : Part :=
  { p with nu := { p.nu with closes := p.nu.closes ++ [⟨e, Config.closeCost * poles⟩] } }

/-- A sequencer entry's state in the list (R6). -/
def setEntry (e : SeqEntry) (x : Pole) (p : Part) : Part :=
  { p with dc := { p.dc with seq := p.dc.seq.set x (some e) } }

/-- A sequencer entry in PENDING with its reservation of 14 BU (R6, R121). -/
def pendingEntry (x : Pole) (p : Part) : Part := reserve (.SEQ x) 1 (setEntry .PENDING x p)

/-- Sequencer entries are placed together: all PENDING with their reservations, or all in WAIT_ENERGY as one unit at the
back of the waiting order (R6, R123, R125). A gang's entries are placed at one expiry, so the unit holds the whole gang. -/
def placeEntries (s : PoleSet) (p : Part) : Part :=
  if p.closeFits s then applyAll pendingEntry s.members p
  else
    let q := applyAll (setEntry .WAIT_ENERGY) s.members p
    { q with nu := { q.nu with waiting := q.nu.waiting ++ [s] } }

/-- Units granted from the front of the waiting order while they fit (R126) and have not just split back (R7, R124). -/
def grantUnits : List PoleSet → Part → Part
  | [], p => p
  | u :: us, p =>
    if !u.overlaps p.nu.split && p.nu.freshCovers (p.listSum + Config.closeCost * u.count) then
      grantUnits us (applyAll pendingEntry u.members { p with nu := { p.nu with waiting := us } })
    else p

/-- The deficit flag is judged on a FRESH level (R130). -/
def judgeDeficit (p : Part) : Part :=
  match p.nu.level with
  | none => p
  | some l =>
    if !p.nu.fresh then p
    else if p.nu.deficit then
      if p.nu.tripReserve + Config.tripCost ≤ l then { p with nu := { p.nu with deficit := false } } else p
    else if l < p.nu.tripReserve then
      enterReport .ENERGY_DEFICIT none [byte l, byte p.nu.tripReserve, byte p.counted.count]
        { p with nu := { p.nu with deficit := true } }
    else p

/-- The trip reserve is recomputed (R120); where it falls, a claim is released, and units that had split back may be granted
again (R124). -/
def recountReserve (p : Part) : Part :=
  let n := p.tripReserveNow
  { p with nu := { p.nu with tripReserve := n, split := if n < p.nu.tripReserve then .empty else p.nu.split } }

/-- The Energy Unit at the end of an event: the trip reserve is recomputed, the waiting check runs, and the deficit flag
is judged (R120, R126, R130; assumption 1). -/
def energyJudge (p : Part) : Part :=
  let q := recountReserve p
  judgeDeficit (grantUnits q.nu.waiting q)

/-- The bank charger line is judged (R129). -/
def judgeLine (p : Part) : Part :=
  let on := match p.nu.level with
    | some l => decide (l < 100) && p.isRun && p.bc.level != .EXHAUSTED
    | none => false
  { p with nu := { p.nu with charger := on } }

/-- Whether a bank level stands above the one held before (R124). -/
def EnergyUnit.risesTo (u : EnergyUnit) (l : Nat) : Bool :=
  match u.level with
  | some k => decide (k < l)
  | none => true

/-- A bank level handed on with a measurement state (R117, R129); where it rises, units that had split back may be granted
again (R124). -/
def takeBankLevel (l : Nat) (ok : Bool) (p : Part) : Part :=
  judgeLine { p with nu := { p.nu with
    level := some l, fresh := ok, split := if p.nu.risesTo l then .empty else p.nu.split } }

/-- The bank level goes stale (R117). -/
def markStale (p : Part) : Part := { p with nu := { p.nu with fresh := false } }

/-- The units in which entries of a combined close join the waiting order after it split back: the gang as one, at the
place of its first member (R125). -/
def splitUnits (s : PoleSet) (p : Part) : List PoleSet :=
  let gang := s.inter p.gang
  let firstOf := fun x => !gang.has x || gang.members.head? == some x
  (s.members.filter firstOf).map fun x => if gang.has x then gang else .single x

end Sys2Proof.Machine
end

