-- ==== Sys2Proof/Machine/DriveSteps.lean ====
section
/-! DEFINITION. The steps of the Drive Controller (chapter 1): firing, the windows, contact changes, the arbiter, the
crew close delay, and its own requests. -/

namespace Sys2Proof.Machine

/-- A handler's answer: a code and its content, or none while it waits for a write (R185). -/
abbrev Reply := Option (AnswerCode × List Byte)

/-- An answer with no content. -/
def reply (c : AnswerCode) : Reply := some (c, [])

/-! ### Firing and the windows of a trip (R9, R10, R13) -/

/-- The fire set of the trip pending set (R9, R13). -/
def Part.fireSet (p : Part) (t : PendingTrip) : PoleSet := (t.op.poles.inter p.notOpen).union t.closing

/-- A trip whose fire set is empty ends COMPLETE without firing (R9, R14). -/
def endUnfiredTrip (op : OpRec) (p : Part) : Part :=
  driveFreed (sendEnds op .COMPLETE
    (sqTripEnd ⟨op, .TRIP_WINDOW, 0, .empty, .empty, .empty, .empty, .empty, p.tb⟩ (clearMotion op.poles (beginEnd p))))

/-- A fired pole's record: its phase current is copied and its motion set (R9). -/
def PoleRec.fired (r : PoleRec) (current : Option Nat) : PoleRec := { r with lastCurrent := current, motion := .TRIPPING }

/-- The trip pending set is fired (R9). -/
def fireTrip (t : PendingTrip) (p : Part) : Part :=
  let fire := p.fireSet t
  let q := { p with dc := { p.dc with trip := none } }
  if fire.isEmpty then endUnfiredTrip t.op q
  else
    let f : Flight :=
      ⟨{ t.op with state := .IN_FLIGHT }, .TRIP_WINDOW, Config.tripWindow, fire, fire.inter p.showsClosed, .empty,
        fire.diff p.notOpen, .empty, p.tb⟩
    let r := mapPoles fire (fun x r => r.fired (p.eu.latest.map fun v => v.vals.phase.get x)) q
    { r with dc := { r.dc with flight := some f, tripPulse := r.dc.tripPulse.union fire } }

/-- Whether a trip is to be fired (R7). -/
def Part.tripDue (p : Part) : Bool := p.dc.trip.isSome && p.dc.flight.isNone

/-- TRIP_FIRE: the drive is free and the trip pending set is not empty (R7, R9). -/
def tripFire (p : Part) : Part :=
  match p.dc.trip, p.dc.flight with
  | some t, none => fireTrip t p
  | _, _ => p

/-- The first trip window runs out (R10); a closing pole that shows OPEN counts as moved (R13). -/
def tripWindowExpiry (p : Part) : Part :=
  match p.dc.flight with
  | some f =>
    if f.phase = .TRIP_WINDOW then
      let f' := { f with moved := f.moved.union (f.mustLeave.diff p.notOpen) }
      if f.fire.subset f'.moved then finish f' .COMPLETE p
      else
        let g := { f' with op := { f.op with state := .RETRYING }, phase := .RETRY_GAP, window := Config.retryGap }
        clearMotion f'.moved { p with dc := { p.dc with flight := some g } }
    else p
  | none => p

/-- The unmoved poles are fired again, 20 ms after the first window (R10); a trip with none left ends COMPLETE. -/
def retryFire (p : Part) : Part :=
  match p.dc.flight with
  | some f =>
    if f.phase = .RETRY_GAP then
      let again := f.fire.diff f.moved
      if again.isEmpty then finish f .COMPLETE p
      else
        { p with dc := { p.dc with
            flight := some { f with phase := .RETRY_WINDOW, window := Config.tripWindow }
            tripPulse := p.dc.tripPulse.union again } }
    else p
  | none => p

/-- The second trip window runs out (R10). -/
def retryWindowExpiry (p : Part) : Part :=
  match p.dc.flight with
  | some f => if f.phase = .RETRY_WINDOW then finishUnmoved f p else p
  | none => p

/-- The close window runs out (R11). -/
def closeWindowExpiry (p : Part) : Part :=
  match p.dc.flight with
  | some f => if f.phase = .CLOSE_WINDOW then finishUnmoved f p else p
  | none => p

/-! ### Contact changes (R2, R17, R18, R62) -/

/-- The open counts at a change of position (R62). -/
def SeqRec.moved (r : SeqRec) (old new : Position) : SeqRec :=
  let r' := if old = .OPEN then { r with departure := r.openCount } else r
  if new = .CLOSED then { r' with openCount := 0, openMs := 0 } else r'

/-- The operation in flight as a pole of it shows a new position (R9, R11, R13). -/
def Flight.sees (f : Flight) (x : Pole) (new : Position) : Flight :=
  match f.op.kind with
  | .CLOSE => if new = .CLOSED then { f with moved := f.moved.union (.single x) } else f
  | .TRIP =>
    if new = .OPEN then
      if f.mustLeave.has x && !f.hasLeft.has x then f else { f with moved := f.moved.union (.single x) }
    else if f.mustLeave.has x then { f with hasLeft := f.hasLeft.union (.single x) }
    else f

/-- A change of position of a pole in motion is judged by its window (R2, R9 to R11). -/
def flightContact (x : Pole) (new : Position) (p : Part) : Part :=
  match p.dc.flight with
  | some f =>
    let f' := f.sees x new
    if f.fire.subset f'.moved && f.phase != .RETRY_GAP then finish f' .COMPLETE p
    else { p with dc := { p.dc with flight := some f' } }
  | none => p

/-- Whether a pole that comes to show OPEN, from what its record holds before, repeats none of R17: HANDLE is set, and it has been
UNKNOWN and no more since it last showed OPEN. -/
def PoleRec.backToOpen (r : PoleRec) : Bool := r.handle && r.position != .CLOSED && !r.closedSince

/-- An uncommanded opening (R17, R66): LOCKOUT, out of the gang. -/
def uncommandedOpening (x : Pole) (p : Part) : Part :=
  let r := p.dc.poles.get x
  let q := enterLockout (.of (.single x) .HANDLE)
    (enterReport .HANDLE_OPEN (some (.single x)) [] (p.setPole x { r.counted with handle := true }))
  q.setSeq x { q.seq x with ganged := false }

/-- The sequence record of a pole that closed without a command (R66). -/
def SeqRec.handClosed (r : SeqRec) (picked : Bool) : SeqRec :=
  { r with
    state := if picked then .TIMING else .CLOSED_IDLE, shot := 0, deadTimer := none, newValue := false
    reclaim := .stopped, energyWait := 0, ganged := false, superseded := false, endNote := none, lockout := none }

/-- An uncommanded closing (R18, R66), tripped back under a HOT_LINE tag while measurement is OK (R69); quiescence is judged as its
entries leave the drive and as the pole's state changes (R72). -/
def uncommandedClosing (x : Pole) (p : Part) : Part :=
  let r := p.dc.poles.get x
  let q := clearEntries (.single x) (p.setPole x { r.counted with handle := false })
  let t := enterReport .CLOSE_DONE (some (.single x)) [0, 0, 0, 0, 1] q
  let v := judgeQuiescence (t.setSeq x ((t.seq x).handClosed (t.sq.pickup.has x)))
  if v.tu.hotLine && v.sqOk && v.isRun then noteAndTrip (.single x) .HOT_LINE .HOT_LINE_FAILSAFE v else v

/-- A change of position where the pole's motion is NONE (R17, R18); `back` where an opening repeats nothing. -/
def uncommanded (x : Pole) (back : Bool) (new : Position) (p : Part) : Part :=
  match new with
  | .OPEN => if back then p else uncommandedOpening x p
  | .CLOSED => uncommandedClosing x p
  | .UNKNOWN => p

/-- A pole record with its contacts as they now stand (R2). -/
def PoleRec.contacts (r : PoleRec) (a b : Bool) : PoleRec :=
  { r with
    aClosed := a, bClosed := b
    closedSince := match positionOf a b with
      | .CLOSED => true
      | .OPEN => false
      | .UNKNOWN => r.closedSince }

/-- The inputs of a pole as they now stand (R2, R12). -/
def setInputs (x : Pole) (aClosed bClosed coilOpen : Bool) (p : Part) : Part :=
  let q := p.setPole x ((p.dc.poles.get x).contacts aClosed bClosed)
  let others := q.dc.coilOpen.diff (.single x)
  { q with dc := { q.dc with coilOpen := if coilOpen then others.union (.single x) else others } }

/-- A contact change (R2): the pair is updated, and a change of position is judged against the pole's motion. -/
def contactChange (x : Pole) (aClosed bClosed coilOpen : Bool) (p : Part) : Part :=
  let q := setInputs x aClosed bClosed coilOpen p
  let old := p.position x
  let new := q.position x
  if old = new then q
  else
    let r := q.setSeq x ((q.seq x).moved old new)
    let t :=
      if (p.dc.poles.get x).motion = .NONE then uncommanded x (p.dc.poles.get x).backToOpen new r
      else flightContact x new r
    if new = .OPEN then t else blindCheck t

/-! ### The arbiter (R7, R8) -/

/-- The sequencer entries that are ready (R7). -/
def Drive.readySeq (d : Drive) : PoleSet := .ofFun fun x => d.seq.get x == some .PENDING

/-- Whether a link's entry is ready (R7). -/
def linkReady (e : Option LinkClose) : Bool :=
  match e with
  | some c => c.op.state == .PENDING
  | none => false

/-- Whether the arbiter has a close to choose (R7): the drive is free, nothing is pending, no restart has been taken
(R198), and an entry is ready. -/
def Part.closeDue (p : Part) : Bool :=
  p.dc.flight.isNone && p.dc.trip.isNone && p.restart.isNone &&
    (linkReady p.dc.crew || !p.dc.readySeq.isEmpty || linkReady p.dc.radio)

/-- A close as it is fired (R11). The window is open from the fire, so a pole that shows CLOSED then has shown CLOSED during the
window and counts as moved (assumption 71). -/
def closeFlight (op : OpRec) (p : Part) : Flight :=
  let closed := op.poles.inter p.showsClosed
  ⟨{ op with state := .IN_FLIGHT }, .CLOSE_WINDOW, Config.closeWindow, op.poles, closed, closed, .empty, .empty, p.tb⟩

/-- A close is fired (R11). Where every pole of it has moved with the fire, the window ends at once and the close ends COMPLETE. -/
def fireClose (op : OpRec) (p : Part) : Part :=
  let f := closeFlight op p
  let q := mapPoles op.poles (fun _ r => { r with motion := .CLOSING }) p
  let r := { q with dc := { q.dc with flight := some f, closePulse := q.dc.closePulse.union op.poles } }
  if f.fire.subset f.moved then finish f .COMPLETE r else r

/-- The poles of a set a close of which is forbidden (R8, R105). -/
def Part.forbidden (p : Part) (s : PoleSet) : PoleSet := .ofFun fun x => s.has x && p.tu.closeForbidden x

/-- The crew entry at the start check (R8, R124). -/
def startCrew (e : LinkClose) (p : Part) : Part :=
  if !(p.forbidden e.op.poles).isEmpty then endCrewEntry .TAGGED p
  else if !p.startFits then endCrewEntry .NO_ENERGY p
  else fireClose e.op { p with dc := { p.dc with crew := none } }

/-- The radio entry at the start check (R8, R124). -/
def startRadio (e : LinkClose) (p : Part) : Part :=
  if !(p.forbidden e.op.poles).isEmpty then endRadioEntry .TAGGED p
  else if !p.startFits then endRadioEntry .NO_ENERGY p
  else fireClose e.op { p with dc := { p.dc with radio := none } }

/-- Sequencer entries that the tag check ends TAGGED: their poles lock out, and with a member of the gang the rest of it
(R8, R65). -/
def tagOutEntries (s : PoleSet) (p : Part) : Part :=
  let cause : LockCause := if p.tu.hotLine then .HOT_LINE else .RECLOSE_BLOCK
  let rest := if s.overlaps p.gang then p.gang.diff s else .empty
  enterLockout ((LockSet.of s cause).orElse (.of (rest.inter p.waitingPoles) .GANG)) p

/-- A combined close splits back: each entry returns to WAIT_ENERGY and gives up its reservation (R8, R124, R125). No waiting
check grants its units before the level rises or another claim is released (R7, R124; assumption 42). -/
def splitBack (s : PoleSet) (p : Part) : Part :=
  let q := recountReserve
    (applyAll (setEntry .WAIT_ENERGY) s.members (applyAll (fun x => releaseEntry (.SEQ x)) s.members p))
  { q with nu := { q.nu with waiting := q.nu.waiting ++ splitUnits s p, split := s } }

/-- The combined sequencer entries at the start check (R7, R8): the operation takes the next number. -/
def startSeq (p : Part) : Part :=
  let q := { p with dc := { p.dc with nextOp := wrapNext p.dc.nextOp } }
  let r := tagOutEntries (q.forbidden q.dc.readySeq) q
  let s := r.dc.readySeq
  if s.isEmpty then r
  else if !r.startFits then splitBack s r
  else
    let op : OpRec :=
      ⟨p.dc.nextOp, .CLOSE, s, .RECLOSE, s.members.map fun x => ⟨.SEQUENCER, .RECLOSE, .single x, none⟩, .PENDING, none⟩
    fireClose op { r with dc := { r.dc with seq := r.dc.seq.mapOn s fun _ _ => none } }

/-- CLOSE_START: the arbiter chooses one close and puts it through the start check (R7, R8). -/
def closeStart (p : Part) : Part :=
  if p.closeDue then
    match p.dc.crew with
    | some e => if e.op.state = .PENDING then startCrew e p else closeStartRest p
    | none => closeStartRest p
  else p
where
  /-- The choice where the crew entry is not ready (R7). -/
  closeStartRest (p : Part) : Part :=
    if !p.dc.readySeq.isEmpty then startSeq p
    else
      match p.dc.radio with
      | some e => startRadio e p
      | none => p

/-- The crew close delay runs out (R15). -/
def closeDelayExpiry (p : Part) : Part :=
  match p.dc.crew with
  | some e =>
    match e.delay with
    | some _ => { p with dc := { p.dc with crew := some ⟨{ e.op with state := .PENDING }, none⟩ } }
    | none => p
  | none => p

/-! ### Requests of the Drive Controller -/

/-- TRIP (R4): the sequence flag, bit 0 of the flags, is read on the protection link only (R182); the other bits are ignored
(assumption 35). The END of a close that the trip ends goes before the answer (R13, R16; assumption 46). -/
def tripRequest (l : Link) (tag poles flags : Byte) (p : Part) : Part × Reply :=
  match PoleSet.ofByteNonempty poles with
  | none => (p, reply .RANGE)
  | some s =>
    let cause : OpCause := if l = .PROTECTION ∧ flags.getLsbD 0 then .PROTECTIVE else .COMMAND
    let r := takeTrip s cause (requesterOf l) (some tag) p
    (r.1, reply (if r.2 = .held then .STARTED else .DONE))

/-- Whether a link has a close entry, or a close of its own in flight (R5 step 3). -/
def linkHasClose (l : Link) (d : Drive) : Bool :=
  (match l with
    | .CREW => d.crew.isSome
    | .RADIO => d.radio.isSome
    | .PROTECTION => false) ||
  match d.flight with
  | some f => f.op.kind == .CLOSE && f.op.requesters.any fun e => e.who == requesterOf l
  | none => false

/-- Whether HANDLE or MECH_FAIL is set on a pole, or it shows UNKNOWN (R5 step 5). -/
def Part.closeBad (p : Part) (x : Pole) : Bool :=
  let r := p.dc.poles.get x
  r.position == .UNKNOWN || r.handle || r.mechFail.isSome

/-- The refusal of a link CLOSE over its remaining poles by steps 5 to 9 of R5; none where every check passes. -/
def closeRefusal (s : PoleSet) (p : Part) : Option AnswerCode :=
  if s.any p.closeBad then some .BAD_STATE
  else if s.overlaps (p.dc.listed.union p.dc.firing) then some .BUSY
  else if !(p.forbidden s).isEmpty then some .TAGGED
  else if !p.measOk then some .BLIND
  else if !p.closeFits s then some .NO_ENERGY
  else none

/-- A link CLOSE is taken (R3, R5, R15, R61): the entry over the remaining poles, with the poles asked for in its requester
entry, its reservation, and the Sequencer's response. -/
def acceptClose (l : Link) (tag : Byte) (asked s : PoleSet) (p : Part) : Part :=
  let delay := p.pu.unit.closeDelayS
  let delayed := l = .CREW ∧ 0 < delay
  let op : OpRec :=
    ⟨p.dc.nextOp, .CLOSE, s, .MANUAL_CLOSE, [⟨requesterOf l, .MANUAL_CLOSE, asked, some tag⟩],
      if delayed then .DELAYED else .PENDING, none⟩
  let e : LinkClose := ⟨op, if delayed then some (delay * 1000) else none⟩
  let d := { p.dc with nextOp := wrapNext p.dc.nextOp }
  let q :=
    if l = .CREW then reserve .CREW s.count { p with dc := { d with crew := some e } }
    else reserve .RADIO s.count { p with dc := { d with radio := some e } }
  let dead := PoleSet.ofFun fun x => s.has x && (q.seq x).state == .DEAD
  enterLockout (.of dead .COMMAND) q

/-- CLOSE (R5). -/
def closeRequest (l : Link) (tag poles : Byte) (crew : Nat) (p : Part) : Part × Reply :=
  match PoleSet.ofByteNonempty poles with
  | none => (p, reply .RANGE)
  | some asked =>
    match if l = .CREW then p.tu.crewRefusal crew .LOCAL_OPERATE else none with
    | some c => (p, reply c)
    | none =>
      if linkHasClose l p.dc then (p, reply .BUSY)
      else
        let s := asked.diff p.showsClosed
        if s.isEmpty then (p, reply .DONE)
        else
          match closeRefusal s p with
          | some c => (p, reply c)
          | none => (acceptClose l tag asked s p, reply .STARTED)

/-- CLOSE CANCEL (R15): the END of the cancelled close goes before the answer (assumption 46). -/
def closeCancelRequest (p : Part) : Part × Reply :=
  if p.dc.crew.isSome then (endCrewEntry .CANCELLED p, reply .DONE)
  else if linkHasClose .CREW p.dc then (p, reply .BAD_STATE)
  else (p, reply .NOT_FOUND)

/-- CLEAR MECH FAULT (R19). -/
def clearMechFaultRequest (crew : Nat) (poles : Byte) (p : Part) : Part × Reply :=
  match PoleSet.ofByteNonempty poles with
  | none => (p, reply .RANGE)
  | some s =>
    match p.tu.crewRefusal crew .SUPERVISE with
    | some c => (p, reply c)
    | none =>
      if s.overlaps p.dc.firing then (p, reply .BUSY)
      else if s.any fun x => p.position x == .UNKNOWN then (p, reply .BAD_STATE)
      else (mapPoles s (fun _ r => { r with mechFail := none, handle := false }) p, reply .DONE)

/-- RESET WEAR (R21): the answer waits for the write of the wear image. -/
def resetWearRequest (l : Link) (tag : Byte) (crew : Nat) (poles : Byte) (p : Part) : Part × Reply :=
  match PoleSet.ofByteNonempty poles with
  | none => (p, reply .RANGE)
  | some s =>
    match p.tu.crewRefusal crew .SUPERVISE with
    | some c => (p, reply c)
    | none =>
      if s.overlaps p.dc.firing then (p, reply .BUSY)
      else
        (retainFor .WEAR (heldAnswer l (answerKind 0x14) tag [] p) (mapPoles s (fun _ r => { r with wear := 0 }) p), none)

/-- The requesters of a history entry as a set (R212). -/
def requesterSet (es : List ReqEntry) : Nat :=
  es.foldl (fun n e => n ||| e.who.bit) 0

/-- A history entry (R212). -/
def historyBytes (h : HistEntry) : List Byte :=
  two h.op.number ++ [byte h.op.kind.code, byte h.op.poles.toNat, byte h.op.cause.code,
    byte (requesterSet h.op.requesters), optCode OpResult.code h.op.result] ++ stampBytes h.start ++
    optTwo h.currents.a ++ optTwo h.currents.b ++ optTwo h.currents.c

/-- HISTORY READ (R22): the entries at the position and up to three older ones. -/
def historyReadRequest (position : Byte) (p : Part) : Part × Reply :=
  if 15 < position.toNat then (p, reply .RANGE)
  else
    let es := (p.dc.history.drop position.toNat).take 4
    (p, some (.DONE, byte es.length :: es.flatMap historyBytes))

end Sys2Proof.Machine
end

