-- ==== Sys2Proof/Machine/BatteryOps.lean ====
section
/-! DEFINITION. The Battery Controller (chapter 7): the charge count, the energy level, exhaustion, the charger, the
heater and the battery test. -/

namespace Sys2Proof.Machine

/-! ### The heater (R145) -/

/-- The heater after a judgement (R145): `temp` is the temperature of the last message taken while OK. -/
def heaterAfter (on ok run supply normal : Bool) (temp : Option Int) : Bool :=
  match temp with
  | none => false
  | some t =>
    if on then
      if !ok || !run || (!supply && !normal) then false else decide (t < -5)
    else ok && run && decide (t < -10) && (supply || normal)

/-- The heater is judged (R145). -/
def judgeHeater (p : Part) : Part :=
  { p with bc := { p.bc with
      heater := heaterAfter p.bc.heater p.measOk p.isRun p.bc.supply (p.bc.level == .NORMAL) p.bc.okTemp } }

/-! ### The charger's mode (R142, R143) -/

/-- Whether a test is RUNNING. -/
def Battery.testRunning (b : Battery) : Bool := b.test.state == .RUNNING

/-- Whether a test is RUNNING or SUSPENDED. -/
def Battery.testOpen (b : Battery) : Bool := b.test.state == .RUNNING || b.test.state == .SUSPENDED

/-- The mode the transitions act on: the mode to restore while a test is RUNNING, else the mode on the lines (R147). -/
def Battery.inForce (b : Battery) : ChargerMode := if b.testRunning then b.test.restore.getD b.mode else b.mode

/-- Whether a mode inhibits charging (R144). -/
def ChargerMode.inhibits (m : ChargerMode) : Bool := m == .INHIBIT_COLD || m == .INHIBIT_HOT

/-- The charger's timers as the mode in force becomes another (R137, R143): on leaving ABSORB and FLOAT they are cleared,
and on entering ABSORB the absorb time starts. -/
def Battery.timersFor (b : Battery) (m : ChargerMode) : Battery :=
  { b with
    absorbTaper := if m = .ABSORB then b.absorbTaper else none
    absorbTime := if m = .ABSORB then some (b.absorbTime.getD 0) else none
    floatLow := if m = .FLOAT then b.floatLow else none
    taperRun := if m = .FLOAT then b.taperRun else none }

/-- The temperature byte of a CHARGER_MODE report (R142, R210; assumption 30). -/
def modeTemperature (p : Part) : Byte :=
  match p.bc.vals with
  | some v => temperatureByte v.temp
  | none => Config.freeTemperature p.tb.secs p.tb.ms

/-- A CHARGER_MODE report (R142, R210). -/
def reportMode (old new : ChargerMode) (p : Part) : Part :=
  enterReport .CHARGER_MODE none [byte old.code, byte new.code, modeTemperature p] p

/-- A transition of the charger mode (R142): on the mode to restore while a test is RUNNING, and otherwise on the lines
with a report (R147; assumption 18). -/
def moveMode (m : ChargerMode) (p : Part) : Part :=
  let old := p.bc.inForce
  if old = m then p
  else
    let b := p.bc.timersFor m
    if p.bc.testRunning then { p with bc := { b with test := { b.test with restore := some m } } }
    else reportMode old m { p with bc := { b with mode := m } }

/-! ### The end of a test by abandonment (R149) -/

/-- The link a test came from. -/
def TestOrigin.link : TestOrigin → Option Link
  | .CREW_LINK => some .CREW
  | .RADIO_LINK => some .RADIO
  | .PERIODIC => none

/-- The END message of a test of a link origin (R149, R150, R188). -/
def testEnd (t : TestRec) (r : TestResult) (p : Part) : Part :=
  match t.origin.bind TestOrigin.link, t.tag with
  | some l, some tag => send l (.endMsg tag (.test r t.before t.minimum t.drop)) p
  | _, _ => p

/-- The body of a BATTERY_TEST_RESULT or BATTERY_FAILED report (R210); an ABANDONED result carries no reading. -/
def testBody (t : TestRec) (r : TestResult) : List Byte :=
  [optCode TestOrigin.code t.origin, byte r.code] ++
    if r = .ABANDONED then optTwo none ++ optTwo none ++ optTwo none
    else optTwo t.before ++ optTwo t.minimum ++ optTwo t.drop

/-- A test that is RUNNING or SUSPENDED is abandoned (R149): the load goes off, and from RUNNING the lines take a mode. At a
commanded restart no report is queued. The mode to restore is absent from then on (assumption 65). -/
def abandonTest (lines : ChargerMode) (reported : Bool) (p : Part) : Part :=
  if p.bc.testOpen then
    let t := { p.bc.test with state := .DONE .ABANDONED, restore := none, step := none, drop := none }
    let q := { p with bc := { p.bc with
      load := false, mode := if p.bc.testRunning then lines else p.bc.mode, test := t } }
    testEnd t .ABANDONED (if reported then enterReport .BATTERY_TEST_RESULT none (testBody t .ABANDONED) q else q)
  else p

/-- A test is abandoned with its mode to restore, or OFF without supply (R149). -/
def abandonRestoring (p : Part) : Part := abandonTest (if p.bc.supply then p.bc.inForce else .OFF) true p

/-! ### The energy level (R139, R140) and exhaustion (R152) -/

/-- The level from the per-mille SoC (R139). -/
def levelFromSoc (u : UnitRec) (permille : Nat) : EnergyLevel :=
  if u.conserve ≤ permille then .NORMAL
  else if u.reserve ≤ permille then .CONSERVE
  else if u.cutoff ≤ permille then .RESERVE
  else .EXHAUSTED

/-- The worse of two levels (R139). -/
def worse (a b : EnergyLevel) : EnergyLevel := if a.code < b.code then b else a

/-- The energy level: the level from SoC, capped by the health (R139). -/
def energyLevelOf (u : UnitRec) (permille : Nat) (h : Health) : EnergyLevel :=
  match h with
  | .UNTESTED | .GOOD => levelFromSoc u permille
  | .WEAK => worse (levelFromSoc u permille) .CONSERVE
  | .FAILED => worse (levelFromSoc u permille) .RESERVE

/-- The exhaustion trip where open on exhaustion is YES, with its LOCKOUT report, and whether it was requested (R152 step 1;
assumptions 25 and 50). DEDUCED, unsafe: R152 has an operation already in flight complete first, and R13 has any trip supersede
a close in flight; the model follows R13, so a close in flight ends SUPERSEDED and only a trip completes first (assumption 72). -/
def exhaustionTrip (p : Part) : Part × Bool :=
  if p.pu.unit.openOnExhaustion && !p.notOpen.isEmpty then
    (tellLockouts p (takeTrip p.notOpen .EXHAUSTION .BATTERY none p).1, true)
  else (p, false)

/-- Exhaustion is judged (R152): in RUN, at EXHAUSTED, without supply and without a wait, one begins. -/
def judgeExhaustion (p : Part) : Part :=
  if p.isRun && p.bc.level == .EXHAUSTED && !p.bc.supply && p.bc.wait.isNone then
    let r := exhaustionTrip p
    let q := enterReport .EXHAUSTION none
      (two p.bc.permille ++ [byte p.bc.health.code, flag r.2]) r.1
    { q with bc := { q.bc with wait := some ⟨Config.exhaustionWait, false⟩ } }
  else p

/-- The exhaustion wait ends where the level has left EXHAUSTED (R140, R153). -/
def levelWait (p : Part) : Part :=
  if p.bc.level = .EXHAUSTED then judgeExhaustion p else { p with bc := { p.bc with wait := none } }

/-- A change of the energy level (R140): the report is entered under the level before, and the level reaches the Report Unit
after it (assumption 45). The report of a test it abandons follows, and then exhaustion with its trip and report (assumption
56). -/
def levelChanged (new : EnergyLevel) (p : Part) : Part :=
  let body := [byte p.bc.level.code, byte new.code] ++ two p.bc.permille ++ [byte p.bc.health.code]
  let q := enterReport .LEVEL_CHANGE none body { p with bc := { p.bc with level := new } }
  let r := judgeHeater (retain .SOC (reportLevel new (judgeLine q)))
  levelWait (if new = .NORMAL then r else abandonRestoring r)

/-- The energy level is judged (R139). -/
def judgeLevel (p : Part) : Part :=
  let new := energyLevelOf p.pu.unit p.bc.permille p.bc.health
  if new = p.bc.level then p else levelChanged new p

/-! ### The charge count (R136 to R138) -/

/-- A new SoC and charge remainder; the level is judged where the per-mille SoC has changed (R136, R137). -/
def setSoc (soc rem : Nat) (p : Part) : Part :=
  let q := { p with bc := { p.bc with soc := soc, rem := rem } }
  if q.bc.permille = p.bc.permille then q else judgeLevel q

/-- The SoC and remainder after a charge in mA·ms is counted (R136). -/
def countCharge (soc rem capacity : Nat) (charge : Int) : Nat × Nat :=
  let total : Int := (soc : Int) * Config.perMah + rem + charge
  let whole := total / (Config.perMah : Int)
  if whole < 0 then (0, 0)
  else if (capacity : Int) < whole then (capacity, 0)
  else (whole.toNat, (total % (Config.perMah : Int)).toNat)

/-- The charge of a message is counted (R136). -/
def chargeCount (v : BatValues) (p : Part) : Part :=
  let r := countCharge p.bc.soc p.bc.rem p.bc.capacity (v.current * v.interval)
  setSoc r.1 r.2 p

/-- The SoC that keeps a per-mille SoC at a capacity, rounded up (R138). -/
def socAt (permille capacity : Nat) : Nat := (permille * capacity + 999) / 1000

/-- A UNIT commit reaches the Battery Controller (R75, R138, R139). -/
def takeUnit (p : Part) : Part :=
  let c := p.pu.unit.capacity
  if c = p.bc.capacity then judgeLevel p
  else judgeLevel { p with bc := { p.bc with soc := socAt p.bc.permille c, rem := 0, capacity := c } }

/-- TAPER_RESYNC: the taper run has lasted 10 minutes (R137). -/
def taperResync (p : Part) : Part :=
  match p.bc.taperRun with
  | some _ => setSoc p.bc.capacity 0 { p with bc := { p.bc with taperRun := some 0 } }
  | none => p

/-- SOC_PERIODIC_WRITE (R138). -/
def socPeriodicWrite (p : Part) : Part :=
  if p.isRun then retain .SOC { p with bc := { p.bc with socTimer := Config.socPeriod } } else p

/-! ### The charger at a message (R143, R144) -/

/-- The inhibit mode a temperature calls for (R144). -/
def inhibitFor (t : Int) : Option ChargerMode :=
  if t < -20 then some .INHIBIT_COLD else if 50 < t then some .INHIBIT_HOT else none

/-- The charger enters an inhibit mode, abandoning a test in progress (R144, R149; assumptions 18 and 52). -/
def inhibitCharger (m : ChargerMode) (p : Part) : Part :=
  if p.bc.testRunning then
    let old := p.bc.inForce
    reportMode old m (abandonTest m true { p with bc := p.bc.timersFor m })
  else abandonTest m true (moveMode m p)

/-- The runs of R143 and R137 at a message taken while OK. -/
def chargerRuns (v : BatValues) (p : Part) : Part :=
  let tapered := decide (v.current.natAbs < p.pu.unit.taper)
  let run := fun (on : Bool) (r : Option Nat) => if on then some (r.getD 0) else none
  { p with bc := { p.bc with
      absorbTaper := run (p.bc.inForce == .ABSORB && tapered) p.bc.absorbTaper
      floatLow := run (p.bc.inForce == .FLOAT && decide (v.voltage < 12600)) p.bc.floatLow
      taperRun := run (p.bc.mode == .FLOAT && tapered) p.bc.taperRun } }

/-- A message whose temperature is back in the band moves an inhibit mode to BULK (R143, R144). -/
def leaveInhibit (temp : Int) (p : Part) : Part :=
  if p.bc.inForce.inhibits && decide (-15 ≤ temp ∧ temp ≤ 45) then moveMode .BULK p else p

/-- A message at 14100 mV moves BULK to ABSORB (R143). -/
def leaveBulk (voltage : Nat) (p : Part) : Part :=
  if p.bc.inForce = .BULK ∧ 14100 ≤ voltage then moveMode .ABSORB p else p

/-- The charger at a message taken while OK (R143, R144): temperature first; a message that moves it into an inhibit mode
makes no other transition. The runs are judged in the mode the message leaves in force (assumption 44). -/
def chargerMessage (v : BatValues) (p : Part) : Part :=
  let m := p.bc.inForce
  if !p.bc.supply || m = .OFF then chargerRuns v p
  else
    match inhibitFor v.temp with
    | some n => if n = m then p else inhibitCharger n p
    | none => chargerRuns v (leaveBulk v.voltage (leaveInhibit v.temp p))

/-- The battery values of a good message (R26, R135): the charge is counted before the charger is judged (assumption 53). -/
def takeBattery (v : BatValues) (ok : Bool) (p : Part) : Part :=
  let q := chargeCount v { p with bc := { p.bc with
    vals := some v, okTemp := if ok then some v.temp else p.bc.okTemp } }
  if ok then judgeHeater (chargerMessage v q) else q

/-- A change of measurement state reaches the Battery Controller (R26, R143, R145). -/
def batteryMeas (ok : Bool) (p : Part) : Part :=
  judgeHeater
    (if ok then p
    else { p with bc := { p.bc with absorbTaper := none, floatLow := none, taperRun := none } })

/-- ABSORB_TAPER_EXPIRY (R143). -/
def absorbTaperExpiry (p : Part) : Part :=
  match p.bc.absorbTaper with
  | some _ => if p.bc.inForce = .ABSORB then moveMode .FLOAT p else p
  | none => p

/-- ABSORB_TIME_EXPIRY (R143): the absorb time is held, and does not run out, while measurement is not OK. -/
def absorbTimeExpiry (p : Part) : Part :=
  match p.bc.absorbTime with
  | some _ => if p.bc.inForce = .ABSORB ∧ p.measOk then moveMode .FLOAT p else p
  | none => p

/-- FLOAT_LOW_EXPIRY (R143). -/
def floatLowExpiry (p : Part) : Part :=
  match p.bc.floatLow with
  | some _ => if p.bc.inForce = .FLOAT then moveMode .BULK p else p
  | none => p

/-! ### The battery test (R146 to R151) -/

/-- Whether a suspension cause holds (R148). -/
def testCause (p : Part) : Bool := !p.eu.pickup.isEmpty || p.dc.holdsWork || !p.measOk

/-- The test record of a test set up (R146). -/
def newTest (o : TestOrigin) (tag : Option Byte) : TestRec :=
  ⟨some o, tag, .SUSPENDED, 0, none, none, 0, none, none, none⟩

/-- A test begins, or resumes after a suspension (R147). -/
def beginTest (p : Part) : Part :=
  let t := p.bc.test
  let volts := p.bc.vals.map fun v => v.voltage
  let t' := if t.steps = 0 then { t with before := volts, minimum := volts } else t
  { p with bc := { p.bc with
      test := { t' with
        state := .RUNNING, restore := some p.bc.mode, suspendedMs := 0, step := some Config.testStep }
      mode := .OFF, load := true, taperRun := none } }

/-- A test is set up: it begins where no suspension cause holds, and is SUSPENDED otherwise (R146, R148). -/
def setUpTest (o : TestOrigin) (tag : Option Byte) (p : Part) : Part :=
  let q := { p with bc := { p.bc with test := newTest o tag } }
  if testCause q then q else beginTest q

/-- A RUNNING test is suspended where a cause holds (R148); its mode to restore is absent from then on (assumption 65). -/
def suspendTest (p : Part) : Part :=
  if p.bc.testRunning && testCause p then
    { p with bc := { p.bc with
        load := false, mode := p.bc.inForce
        test := { p.bc.test with state := .SUSPENDED, restore := none, step := none, suspendedMs := 0 } } }
  else p

/-- The refusal of BATTERY TEST (R146); none where every check passes. -/
def testRefusal (p : Part) : Option AnswerCode :=
  if p.bc.testOpen then some .BUSY
  else if !p.bc.supply then some .BAD_STATE
  else if p.bc.mode.inhibits then some .BAD_STATE
  else if !p.measOk then some .BLIND
  else if p.bc.level ≠ .NORMAL then some .NO_ENERGY
  else none

/-- BATTERY TEST (R146). -/
def batteryTestRequest (l : Link) (tag : Byte) (p : Part) : Part × Reply :=
  match testRefusal p with
  | some c => (p, reply c)
  | none => (setUpTest (if l = .CREW then .CREW_LINK else .RADIO_LINK) (some tag) p, reply .STARTED)

/-- The result of a drop against the UNIT record's drops (R147). -/
def testResult (u : UnitRec) (drop : Nat) : TestResult :=
  if u.failedDrop ≤ drop then .FAILED else if u.weakDrop ≤ drop then .WEAK else .GOOD

/-- The health a result gives (R150). -/
def TestResult.health : TestResult → Health
  | .GOOD => .GOOD
  | .WEAK => .WEAK
  | .FAILED => .FAILED
  | .ABANDONED => .UNTESTED

/-- Step 10 has completed: the test reaches its result (R147, R150); its mode to restore is absent from then on (assumption 65). -/
def endTest (t : TestRec) (p : Part) : Part :=
  let drop := t.before.getD 0 - t.minimum.getD 0
  let res := testResult p.pu.unit drop
  let t' := { t with state := .DONE res, restore := none, step := none, drop := some drop }
  let q := { p with bc := { p.bc with
    load := false, mode := p.bc.inForce, test := t', health := res.health, posted := false, hours := 0
    intervalMs := 0 } }
  let r := judgeLevel (retain .HOURS (retain .HEALTH q))
  let u := enterReport .BATTERY_TEST_RESULT none (testBody t' res) r
  testEnd t' res (if res = .FAILED then enterReport .BATTERY_FAILED none (testBody t' res) u else u)

/-- TEST_STEP_COMPLETE (R147). -/
def testStepComplete (p : Part) : Part :=
  if p.bc.testRunning then
    let t := p.bc.test
    let volts := (p.bc.vals.map fun v => v.voltage).getD 0
    let t' : TestRec := { t with minimum := some (min (t.minimum.getD volts) volts), steps := t.steps + 1 }
    if t'.steps < 10 then { p with bc := { p.bc with test := { t' with step := some Config.testStep } } }
    else endTest t' p
  else p

/-- TEST_SUSPEND_LIMIT: the progress is discarded after 600 s of suspension (R148). -/
def testSuspendLimit (p : Part) : Part :=
  if p.bc.test.state = .SUSPENDED then
    { p with bc := { p.bc with test := { p.bc.test with
        steps := 0, before := none, minimum := none, suspendedMs := Config.suspendLimit } } }
  else p

/-- Whether a suspended test is to resume (R148). -/
def resumeDue (p : Part) : Bool := p.bc.test.state == .SUSPENDED && !testCause p

/-- TEST_RESUME (R148). -/
def testResume (p : Part) : Part := if resumeDue p then beginTest p else p

/-- The posting is judged against the test interval in force (R151). -/
def judgePosting (p : Part) : Part :=
  if p.pu.unit.testHours ≤ p.bc.hours then { p with bc := { p.bc with posted := true } } else p

/-- Whether the test interval counter runs (R151). -/
def Battery.intervalRuns (b : Battery) : Bool := b.supply && b.partState == .RUN

/-- TEST_INTERVAL_HOUR (R151). -/
def testIntervalHour (p : Part) : Part :=
  if p.bc.intervalRuns then
    judgePosting (retain .HOURS { p with bc := { p.bc with hours := min 720 (p.bc.hours + 1), intervalMs := 0 } })
  else p

/-- Whether a posted PERIODIC request is to begin a test (R151). -/
def periodicDue (p : Part) : Bool :=
  p.bc.posted && !p.bc.testOpen && p.bc.supply && !p.bc.mode.inhibits && p.measOk && p.bc.level == .NORMAL &&
    !testCause p

/-- PERIODIC_TEST_BEGIN (R151). -/
def periodicTestBegin (p : Part) : Part := if periodicDue p then setUpTest .PERIODIC none p else p

/-! ### The supply in RUN (R141) -/

/-- The supply becomes ABSENT in RUN (R141). -/
def supplyLost (p : Part) : Part :=
  let q := { p with bc := { p.bc with supply := false } }
  let r := if q.bc.testRunning then abandonTest .OFF true { q with bc := q.bc.timersFor .OFF }
    else abandonTest .OFF true (moveMode .OFF q)
  judgeExhaustion (judgeHeater (enterReport .SUPPLY_LOST none [] r))

/-- The mode the OFF row of R142 gives. -/
def modeFromOff (permille : Nat) : ChargerMode := if permille < 900 then .BULK else .FLOAT

/-- The supply becomes PRESENT in RUN (R141, R153). -/
def supplyReturned (p : Part) : Part :=
  let q := moveMode (modeFromOff p.bc.permille) { p with bc := { p.bc with supply := true, wait := none } }
  judgeHeater (enterReport .SUPPLY_BACK none [] q)

end Sys2Proof.Machine
end

