-- ==== Sys2Proof/Machine/Flags.lean ====
section
/-! DEFINITION. The flags that follow from the records, judged at the end of every event: the trip reserve with the waiting
check and the deficit flag (R120, R126, R130), quiescence with the pending pole mode (R71, R72; in the middle
of events too, assumption 70), and the suspension of a running test (R148). -/

namespace Sys2Proof.Machine

/-- The judgements that follow an event at the blocks that watch others (R71, R72, R120, R126, R130, R148). -/
def refresh (p : Part) : Part := suspendTest (judgeQuiescence (energyJudge p))

/-- The end of an event that found one part and left another: its LOCKOUT report and image (R46), then the judgements
(assumptions 1 and 19). -/
def endEvent (before after : Part) : Part := refresh (reportLockouts before after)

end Sys2Proof.Machine
end

