-- ==== Sys2Proof/Machine/ProfileOps.lean ====
section
/-! DEFINITION. The Profile Unit (chapter 4): the consistency checks, the items of an EDIT PUT, the edit claim, held commits
and selections, and the override frames. -/

namespace Sys2Proof.Machine

/-! ### Fields of a record (R74, R75, R207, R208) -/

/-- Whether a number lies in a range. -/
def within (lo hi n : Nat) : Bool := decide (lo ≤ n) && decide (n ≤ hi)

/-- A number from bytes where it lies in a range. -/
def ranged (lo hi : Nat) (bs : List Byte) : Option Nat := if within lo hi (leNat bs) then some (leNat bs) else none

/-- The points of a curve from its bytes (R207); none where a value is outside its range (R74). -/
def readCurve : List Byte → Option (List Point)
  | [] => some []
  | a :: b :: c :: d :: rest =>
    match ranged 10 400 [a, b], ranged 0 60000 [c, d], readCurve rest with
    | some m, some t, some qs => some (⟨m, t⟩ :: qs)
    | _, _, _ => none
  | _ => none

/-- The high-set multiple from its bytes: 0 is absent (R205). -/
def readHighSet (bs : List Byte) : Option (Option Nat) :=
  if leNat bs = 0 then some none else (ranged 20 400 bs).map some

/-- A dead time from its bytes: in range and a whole number of 100 ms steps (R74, R85). -/
def readDead (bs : List Byte) : Option Nat := (ranged 100 180000 bs).bind fun n => if n % 100 = 0 then some n else none

/-- Widths of the group fields (R207). -/
def groupWidths : List Nat := [2, 2, 1, 32, 32, 2, 1, 1, 4, 4, 4, 1, 1, 1, 2]

/-- Widths of the UNIT fields (R207). -/
def unitWidths : List Nat := [1, 2, 2, 2, 2, 2, 2, 2, 2, 2, 1, 2, 1]

/-- A group with one field written from its bytes; none where the value is outside its range (R74, R85). -/
def setGroupField (n : Nat) (bs : List Byte) (g : Group) : Option Group :=
  match n with
  | 1 => (ranged 10 2000 bs).map fun v => { g with phasePickup := v }
  | 2 => (ranged 5 1000 bs).map fun v => { g with groundPickup := v }
  | 3 => (ranged 1 2 bs).map fun v => { g with groundEnabled := decide (v = 1) }
  | 4 => (readCurve bs).map fun v => { g with fast := v }
  | 5 => (readCurve bs).map fun v => { g with delayed := v }
  | 6 => (readHighSet bs).map fun v => { g with highSet := v }
  | 7 => (ranged 1 4 bs).map fun v => { g with opsToLockout := v }
  | 8 => (ranged 0 4 bs).map fun v => { g with fastOps := v }
  | 9 => (readDead bs).map fun v => { g with dead1 := v }
  | 10 => (readDead bs).map fun v => { g with dead2 := v }
  | 11 => (readDead bs).map fun v => { g with dead3 := v }
  | 12 => (ranged 5 180 bs).map fun v => { g with reclaimS := v }
  | 13 => (ranged 1 2 bs).map fun v => { g with mode := if v = 1 then .SINGLE else .GANGED }
  | 14 => (ranged 10 30 bs).map fun v => { g with coldMult := v }
  | 15 => (ranged 10 3600 bs).map fun v => { g with coldS := v }
  | _ => none

/-- A UNIT record with one field written from its bytes; none where the value is outside its range (R75, R85). -/
def setUnitField (n : Nat) (bs : List Byte) (u : UnitRec) : Option UnitRec :=
  match n with
  | 1 => (ranged 0 120 bs).map fun v => { u with closeDelayS := v }
  | 2 => (ranged 5000 60000 bs).map fun v => { u with capacity := v }
  | 3 => (ranged 300 600 bs).map fun v => { u with conserve := v }
  | 4 => (ranged 150 300 bs).map fun v => { u with reserve := v }
  | 5 => (ranged 50 150 bs).map fun v => { u with cutoff := v }
  | 6 => (ranged 50 500 bs).map fun v => { u with taper := v }
  | 7 => (ranged 400 2000 bs).map fun v => { u with weakDrop := v }
  | 8 => (ranged 800 4000 bs).map fun v => { u with failedDrop := v }
  | 9 => (ranged 24 720 bs).map fun v => { u with testHours := v }
  | 10 => (ranged 1 1440 bs).map fun v => { u with statusMin := v }
  | 11 => (ranged 4 16 bs).bind fun v => if v % 4 = 0 then some { u with callThreshold := v } else none
  | 12 => (ranged 0 3600 bs).map fun v => { u with coldOpenS := v }
  | 13 => (ranged 0 1 bs).map fun v => { u with openOnExhaustion := decide (v = 1) }
  | _ => none

/-- The widths of a pending set's fields. -/
def Pending.widths : Pending → List Nat
  | .group _ _ => groupWidths
  | .unit _ => unitWidths

/-- A pending set with one field written. -/
def Pending.setField (n : Nat) (bs : List Byte) : Pending → Option Pending
  | .group k g => (setGroupField n bs g).map (.group k)
  | .unit u => (setUnitField n bs u).map .unit

/-- An item of an EDIT PUT: its field number and value. -/
structure PutItem where
  number : Nat
  value : List Byte
  deriving DecidableEq, Repr

/-- The items of an EDIT PUT body (R208), or the ordinal and number of the item that ends the reading. `seen` holds the
numbers of the items read before; `fuel` bounds their count. -/
def readItems (widths : List Nat) : Nat → List Nat → List Byte → Except (Nat × Nat) (List PutItem)
  | 0, _, _ => .ok []
  | _ + 1, _, [] => .ok []
  | fuel + 1, seen, b :: rest =>
    let n := b.toNat
    match if n = 0 then none else widths[n - 1]? with
    | none => .error (seen.length + 1, n)
    | some w =>
      if rest.length < w ∨ n ∈ seen then .error (seen.length + 1, n)
      else (readItems widths fuel (n :: seen) (rest.drop w)).map fun is => ⟨n, rest.take w⟩ :: is

/-- The items written one after another, or the ordinal and number of the first whose value is out of range (R85). -/
def writeItems : Nat → List PutItem → Pending → Except (Nat × Nat) Pending
  | _, [], q => .ok q
  | k, i :: is, q =>
    match q.setField i.number i.value with
    | none => .error (k, i.number)
    | some q' => writeItems (k + 1) is q'

/-- The whole of an EDIT PUT body against a pending set (R85, R208; assumption 21). -/
def putItems (body : List Byte) (q : Pending) : Except (Nat × Nat) Pending :=
  match readItems q.widths body.length [] body with
  | .error e => .error e
  | .ok is => writeItems 1 is q

/-! ### Consistency checks (R77) -/

/-- Whether the multiples of a curve are strictly ascending (R74, R77). -/
def ascending : List Point → Bool
  | a :: b :: rest => decide (a.multiple < b.multiple) && ascending (b :: rest)
  | _ => true

/-- The position, from 1, of the first check that fails. -/
def firstFalse (k : Nat) : List Bool → Option Nat
  | [] => none
  | b :: bs => if b then firstFalse (k + 1) bs else some k

/-- The first consistency check a pending set fails, by its position in the list of R77. -/
def Pending.firstFailing : Pending → Option Nat
  | .group _ g => firstFalse 1 [decide (g.fastOps ≤ g.opsToLockout), ascending g.fast, ascending g.delayed]
  | .unit u =>
    firstFalse 1 [decide (u.reserve < u.conserve) && decide (u.cutoff < u.reserve), decide (u.weakDrop < u.failedDrop)]

/-! ### The claim (R83 to R89) -/

/-- Whether a group is in use (R86). -/
def ProfileUnit.inUse (u : ProfileUnit) (n : Nat) : Bool :=
  u.selected == n ||
    match u.temporary with
    | some t => t.group == n
    | none => false

/-- The claim is released and the pending set discarded. -/
def releaseClaim (p : Part) : Part := { p with pu := { p.pu with claim := none } }

/-- An END message of a settings result (R188). -/
def settingsEnd (l : Link) (tag : Byte) (r : SettingsResult) (p : Part) : Part := send l (.endMsg tag (.settings r)) p

/-- The refusal of an edit request by the claim's holder (R85): LOCKED, or NOT_FOUND where no link holds it. -/
def claimRefusal (l : Link) (u : ProfileUnit) : Option AnswerCode :=
  match u.claim with
  | none => some .NOT_FOUND
  | some c => if c.holder = l then none else some .LOCKED

/-- The target of an EDIT BEGIN with its applied values (R84). -/
def targetOf (n : Nat) (u : ProfileUnit) : Option Pending :=
  if within 1 4 n then some (.group n (u.groups.get n)) else if n = 5 then some (.unit u.unit) else none

/-- The link takes the claim on a target: EDITING with the claim timer loaded (R84). -/
def takeClaim (l : Link) (q : Pending) (p : Part) : Part :=
  { p with pu := { p.pu with claim := some ⟨l, q, .EDITING Config.claimTime⟩ } }

/-- EDIT BEGIN (R84). -/
def editBeginRequest (l : Link) (target : Byte) (p : Part) : Part × Reply :=
  match targetOf target.toNat p.pu with
  | none => (p, reply .RANGE)
  | some q =>
    match p.pu.claim with
    | none => (takeClaim l q p, reply .DONE)
    | some c =>
      if c.holder ≠ l then (p, reply .LOCKED)
      else
        match c.state with
        | .EDITING _ => (takeClaim l q p, reply .DONE)
        | .COMMIT_WAIT _ => (p, reply .BUSY)

/-- EDIT PUT (R85, R208). -/
def editPutRequest (l : Link) (body : List Byte) (p : Part) : Part × Reply :=
  match claimRefusal l p.pu, p.pu.claim with
  | some c, _ => (p, reply c)
  | none, none => (p, reply .NOT_FOUND)
  | none, some c =>
    match c.state with
    | .COMMIT_WAIT _ => (p, reply .BUSY)
    | .EDITING _ =>
      match putItems body c.pending with
      | .error (k, n) => (p, some (.RANGE, [byte k, byte n]))
      | .ok q => ({ p with pu := { p.pu with claim := some { c with pending := q } } }, reply .DONE)

/-- A group's applied values are replaced (R86). -/
def setGroup (n : Nat) (g : Group) (p : Part) : Part := { p with pu := { p.pu with groups := p.pu.groups.set n g } }

/-- A UNIT record is committed and handed to the blocks that use it (R75, R86). -/
def commitUnit (u : UnitRec) (p : Part) : Part := takeUnit { p with pu := { p.pu with unit := u, claim := none } }

/-- A commit that passes its checks is applied or held (R86). -/
def commitPassed (l : Link) (tag : Byte) (c : Claim) (p : Part) : Part × Reply :=
  match c.pending with
  | .unit u => (retainFor .UNIT (heldAnswer l (answerKind 0x32) tag [] p) (commitUnit u p), none)
  | .group n g =>
    if p.pu.inUse n && !p.sq.quiescent then
      ({ p with pu := { p.pu with claim := some { c with state := .COMMIT_WAIT tag } } }, reply .STARTED)
    else
      (retainFor (groupItem n) (heldAnswer l (answerKind 0x32) tag [] p)
        (judged (fun q => releaseClaim (setGroup n g q)) p), none)

/-- EDIT COMMIT (R86). -/
def editCommitRequest (l : Link) (tag : Byte) (p : Part) : Part × Reply :=
  match claimRefusal l p.pu, p.pu.claim with
  | some c, _ => (p, reply c)
  | none, none => (p, reply .NOT_FOUND)
  | none, some c =>
    match c.state with
    | .COMMIT_WAIT _ => (p, reply .BUSY)
    | .EDITING _ =>
      match c.pending.firstFailing with
      | some k => (p, some (.RANGE, [byte k]))
      | none => commitPassed l tag c p

/-- The claim ends, a held commit CANCELLED with its END (R88, R92). -/
def dropClaim (p : Part) : Part :=
  match p.pu.claim with
  | none => p
  | some c =>
    match c.state with
    | .EDITING _ => releaseClaim p
    | .COMMIT_WAIT t => releaseClaim (settingsEnd c.holder t .CANCELLED p)

/-- A held selection ends with a settings result (R90, R92). -/
def endSelection (r : SettingsResult) (p : Part) : Part :=
  match p.pu.held with
  | none => p
  | some h => settingsEnd h.link h.tag r { p with pu := { p.pu with held := none } }

/-- EDIT DROP (R88): the END of a held commit goes before the answer. -/
def editDropRequest (l : Link) (p : Part) : Part × Reply :=
  match claimRefusal l p.pu with
  | some c => (p, reply c)
  | none => (dropClaim p, reply .DONE)

/-- CLAIM_TIMER_EXPIRY (R89). -/
def claimTimerExpiry (p : Part) : Part :=
  match p.pu.claim with
  | some c =>
    match c.state with
    | .EDITING _ => releaseClaim p
    | .COMMIT_WAIT _ => p
  | none => p

/-- The claim timer loads at a request of the holder link that is passed to a block (R89). -/
def loadClaimTimer (l : Link) (p : Part) : Part :=
  match p.pu.claim with
  | some c =>
    match c.state with
    | .EDITING _ =>
      if c.holder = l then { p with pu := { p.pu with claim := some { c with state := .EDITING Config.claimTime } } } else p
    | .COMMIT_WAIT _ => p
  | none => p

/-! ### Held commits and selections (R87, R90, R91) -/

/-- The held commit, if there is one: its link, tag, group and pending set. -/
def ProfileUnit.heldCommit (u : ProfileUnit) : Option (Link × Byte × Nat × Group) :=
  match u.claim with
  | some ⟨l, .group n g, .COMMIT_WAIT t⟩ => some (l, t, n, g)
  | _ => none

/-- A held commit is applied: its END follows the write (R87). -/
def applyHeldCommit (p : Part) : Part :=
  match p.pu.heldCommit with
  | some (l, t, n, g) => retainFor (groupItem n) (.settings l t) (releaseClaim (setGroup n g p))
  | none => p

/-- A selection is applied at the Profile Unit (R90). -/
def setSelected (n : Nat) (p : Part) : Part := { p with pu := { p.pu with selected := n } }

/-- A held selection is applied: its END follows the write (R91). -/
def applyHeldSelection (p : Part) : Part :=
  match p.pu.held with
  | some h =>
    retainFor .SELECTED (.settings h.link h.tag) (setSelected h.group { p with pu := { p.pu with held := none } })
  | none => p

/-- Whether held settings are to be applied (R87, R91). -/
def Part.heldDue (p : Part) : Bool := p.sq.quiescent && (p.pu.heldCommit.isSome || p.pu.held.isSome)

/-- HELD_SETTINGS_APPLY: both held items at one report, the effective profile judged once after both (R91). -/
def heldSettingsApply (p : Part) : Part :=
  if p.heldDue then judged (fun q => applyHeldSelection (applyHeldCommit q)) p else p

/-- A held commit whose group has stopped being in use is applied (R87). -/
def applyIfUnused (p : Part) : Part :=
  match p.pu.heldCommit with
  | some (_, _, n, _) => if p.pu.inUse n then p else judged applyHeldCommit p
  | none => p

/-- SELECT GROUP (R90). -/
def selectGroupRequest (l : Link) (tag group : Byte) (p : Part) : Part × Reply :=
  let n := group.toNat
  if !within 1 4 n then (p, reply .RANGE)
  else
    let q := endSelection .SUPERSEDED p
    if n = p.pu.selected then (q, reply .DONE)
    else if p.sq.quiescent then
      (retainFor .SELECTED (heldAnswer l (answerKind 0x35) tag [] p) (judged (setSelected n) q), none)
    else ({ q with pu := { q.pu with held := some ⟨n, l, tag⟩ } }, reply .STARTED)

/-! ### Override frames (R80 to R82) -/

/-- TEMPORARY GROUP (R82, R87). -/
def temporaryGroupRequest (group : Byte) (seconds : Long) (p : Part) : Part × Reply :=
  if !within 1 4 group.toNat || !within 60 86400 seconds.toNat then (p, reply .RANGE)
  else
    (applyIfUnused
      (judged (fun q => { q with pu := { q.pu with temporary := some ⟨group.toNat, seconds.toNat * 1000⟩ } }) p),
      reply .DONE)

/-- The TEMPORARY frame leaves (R82, R87). -/
def temporaryLeaves (p : Part) : Part :=
  applyIfUnused (judged (fun q => { q with pu := { q.pu with temporary := none } }) p)

/-- TEMPORARY CANCEL (R82). -/
def temporaryCancelRequest (p : Part) : Part × Reply :=
  if p.pu.temporary.isSome then (temporaryLeaves p, reply .DONE) else (p, reply .NOT_FOUND)

/-- TEMPORARY_EXPIRY (R82). -/
def temporaryExpiry (p : Part) : Part := if p.pu.temporary.isSome then temporaryLeaves p else p

/-- COLD_LOAD_EXPIRY (R81). -/
def coldLoadExpiry (p : Part) : Part :=
  if p.pu.coldLoad.isSome then judged (fun q => { q with pu := { q.pu with coldLoad := none } }) p else p

/-- The HOT_LINE frame enters or leaves (R80). -/
def setHotLineFrame (b : Bool) (p : Part) : Part := judged (fun q => { q with pu := { q.pu with hotLine := b } }) p

/-- Claims and held requests of the links a test names end from outside (R92); the END of a held commit goes before that of a
held selection (assumption 38). -/
def endEdits (f : Link → Bool) (p : Part) : Part :=
  let q := match p.pu.claim with
    | some c => if f c.holder then dropClaim p else p
    | none => p
  match q.pu.held with
  | some h => if f h.link then endSelection .CANCELLED q else q
  | none => q

/-! ### Reads (R93, R212) -/

/-- READ GROUP content; none for another number (R93). -/
def readGroupContent (n : Nat) (p : Part) : Option (List Byte) :=
  if within 1 4 n then some (groupBytes (p.pu.groups.get n)) else none

/-- READ OVERRIDES content (R93, R212). -/
def readOverridesContent (p : Part) : List Byte :=
  let u := p.pu
  [byte u.selected, flag u.hotLine, byte ((u.temporary.map fun t => t.group).getD 0)] ++
    four ((u.temporary.map fun t => secondsUp t.timer).getD 0) ++ [flag u.coldLoad.isSome] ++
    two ((u.coldLoad.map secondsUp).getD 0) ++
    [byte u.effective.source.code, byte ((u.held.map fun h => h.group).getD 0), linkCode (u.held.map fun h => h.link)]

/-- The target byte of a pending set (R206, R212). -/
def Pending.target : Pending → Nat
  | .group n _ => n
  | .unit _ => 5

/-- A pending set as R207 lays out the target's record. -/
def Pending.bytes : Pending → List Byte
  | .group _ g => groupBytes g
  | .unit u => unitBytes u

/-- READ PENDING content (R93, R212). -/
def pendingContent (c : Claim) : List Byte :=
  let st : Nat × Nat := match c.state with
    | .EDITING t => (1, secondsUp t)
    | .COMMIT_WAIT _ => (2, 0)
  [linkCode (some c.holder), byte c.pending.target, byte st.1] ++ two st.2 ++ c.pending.bytes

/-- READ PENDING (R93). -/
def readPendingRequest (p : Part) : Part × Reply :=
  match p.pu.claim with
  | none => (p, reply .NOT_FOUND)
  | some c => (p, some (.DONE, pendingContent c))

end Sys2Proof.Machine
end

