-- ==== Sys2Proof/Machine/TagOps.lean ====
section
/-! DEFINITION. The Tag Unit (chapter 5): applying and removing tags, the roster and its expiry, and SET TIME (R202). -/

namespace Sys2Proof.Machine

/-! ### Applying a tag (R99 to R101, R106 to R110) -/

/-- Whether a character is printable (R205). -/
def printable (b : Byte) : Bool := within 0x20 0x7E b.toNat

/-- The next tag number that no tag holds, from 255 to 1 and past 0 (R99); `fuel` bounds the search. -/
def freeTag (ts : List Tag) : Nat → Nat → Nat
  | 0, n => n
  | fuel + 1, n =>
    let m := if n < 255 then n + 1 else 1
    if ts.any fun t => t.number == m then freeTag ts fuel m else m

/-- The pole set a tag is stored with, or none where step 1 of R100 refuses it. -/
def tagPoles (k : TagKind) (poles : Byte) : Option PoleSet :=
  match k with
  | .HOT_LINE | .LOCAL_CONTROL => some .full
  | .CLEARANCE | .RECLOSE_BLOCK => PoleSet.ofByteNonempty poles

/-- The right a kind of tag requires (R100). -/
def TagKind.right : TagKind → Right
  | .LOCAL_CONTROL => .LOCAL_OPERATE
  | _ => .TAG

/-- Whether a pole forbids a CLEARANCE tag (R100 step 4). -/
def Part.notCleared (p : Part) (x : Pole) : Bool := !p.showsOpen x || (p.dc.poles.get x).motion == .CLOSING

/-- The refusal of a TAG APPLY by steps 2 to 6 of R100; none where every check passes. -/
def tagRefusal (l : Link) (k : TagKind) (s : PoleSet) (crew : Nat) (p : Part) : Option AnswerCode :=
  if k = .LOCAL_CONTROL ∧ l = .RADIO then some .NOT_PERMITTED
  else
    match p.tu.crewRefusal crew k.right with
    | some c => some c
    | none =>
      if k = .CLEARANCE ∧ s.any p.notCleared then some .BAD_STATE
      else if p.tu.tags.any fun t => t.crew == crew && t.kind == k && t.poles.overlaps s then some .DUPLICATE
      else if Config.tagMax ≤ p.tu.tags.length then some .FULL
      else none

/-- The tag record a TAG APPLY builds (R101). -/
def newTag (l : Link) (k : TagKind) (s : PoleSet) (crew : Nat) (note : List Byte) (p : Part) : Tag :=
  ⟨p.tu.nextTag, k, s, crew, l == .CREW, p.tb, note⟩

/-- The record at the end of the table, and the next tag number (R99, R101). -/
def TagUnit.add (u : TagUnit) (t : Tag) : TagUnit :=
  { u with tags := u.tags ++ [t], nextTag := freeTag (u.tags ++ [t]) 255 t.number }

/-- The applied tag at the Drive Controller (R16, R101 step 1). -/
def tagToDrive (t : Tag) (p : Part) : Part :=
  match t.kind with
  | .HOT_LINE => endLinkEntries .full .TAGGED p
  | .CLEARANCE => endLinkEntries t.poles .TAGGED p
  | .LOCAL_CONTROL => endRadioEntry .TAGGED p
  | .RECLOSE_BLOCK => p

/-- The lockouts an applied tag brings (R63, R64). -/
def tagLocks (t : Tag) (p : Part) : LockSet :=
  match t.kind with
  | .HOT_LINE => .of p.waitingPoles .HOT_LINE
  | .CLEARANCE | .RECLOSE_BLOCK => .of (p.waitingPoles.inter t.poles) .RECLOSE_BLOCK
  | .LOCAL_CONTROL => .empty

/-- The applied tag at the Sequencer (R63, R64, R69, R101 step 2): an entry the tag ends or the Sequencer withdraws
leaves with the lockout, and the LOCKOUT report is made before what follows of R101. -/
def tagToSequencer (t : Tag) (p : Part) : Part :=
  let q := enterLockout (tagLocks t p) p
  tellLockouts p (if t.kind = .HOT_LINE then blindCheck q else q)

/-- The applied tag at the Profile Unit (R80, R92, R101 step 3). -/
def tagToProfile (t : Tag) (first : Bool) (p : Part) : Part :=
  if t.kind = .HOT_LINE ∧ first then setHotLineFrame true p
  else if t.kind = .LOCAL_CONTROL then endEdits (fun l => l == .RADIO) p
  else p

/-- The TAG_APPLIED report (R114, R210). -/
def tagAppliedReport (t : Tag) (p : Part) : Part :=
  enterReport .TAG_APPLIED (some t.poles)
    ([byte t.number, byte t.kind.code] ++ two t.crew ++ [byte (originCode t.byCrew)] ++ textBytes t.note) p

/-- A tag is applied and handed on in the order of R101. -/
def applyTag (l : Link) (reqTag : Byte) (t : Tag) (p : Part) : Part :=
  let first := !p.tu.hotLine
  let q := tagToDrive t { p with tu := p.tu.add t }
  let r := tagAppliedReport t (tagToProfile t first (tagToSequencer t q))
  retainFor .TAGS (heldAnswer l (answerKind 0x20) reqTag [byte t.number] p) r

/-- TAG APPLY (R100, R101). -/
def tagApplyRequest (l : Link) (reqTag kind poles : Byte) (crew : Nat) (note : List Byte) (p : Part) : Part × Reply :=
  match TagKind.ofCode kind.toNat with
  | none => (p, reply .RANGE)
  | some k =>
    if 16 < note.length || !note.all printable then (p, reply .RANGE)
    else
      match tagPoles k poles with
      | none => (p, reply .RANGE)
      | some s =>
        match tagRefusal l k s crew p with
        | some c => (p, reply c)
        | none => (applyTag l reqTag (newTag l k s crew note p) p, none)

/-! ### Removing a tag (R102 to R104) -/

/-- Who removes a tag (R114): codes HOLDER 1, SUPERVISOR 2, RADIO 3. -/
inductive Remover
  | HOLDER
  | SUPERVISOR (crew : Nat)
  | RADIO
  deriving DecidableEq, Repr

/-- Code and crew of a remover (R210). -/
def Remover.bytes : Remover → List Byte
  | .HOLDER => 1 :: two 0
  | .SUPERVISOR c => 2 :: two c
  | .RADIO => 3 :: two 0

/-- The judgement of a TAG REMOVE (R102, R103): a refusal, or the tag and who removes it. -/
def tagRemoval (l : Link) (number crew : Nat) (u : TagUnit) : Except AnswerCode (Tag × Remover) :=
  match u.tags.find? fun t => t.number == number with
  | none => .error .NOT_FOUND
  | some t =>
    if l = .RADIO then if t.byCrew then .error .NOT_PERMITTED else .ok (t, .RADIO)
    else if !t.byCrew then .error .NOT_PERMITTED
    else
      match u.entry crew with
      | none => .error .UNKNOWN_CREW
      | some e =>
        if crew = t.crew then .ok (t, .HOLDER)
        else if e.valid && e.rights.supervise then .ok (t, .SUPERVISOR crew)
        else .error .NO_RIGHT

/-- A removal is taken and handed on in the order of R104. -/
def removeTag (l : Link) (reqTag : Byte) (t : Tag) (by' : Remover) (p : Part) : Part :=
  let q := { p with tu := { p.tu with tags := p.tu.tags.filter fun g => g.number != t.number } }
  let r := if t.kind = .HOT_LINE ∧ !q.tu.hotLine then setHotLineFrame false q else q
  let s := enterReport .TAG_REMOVED (some t.poles)
    ([byte t.number, byte t.kind.code] ++ two t.crew ++ [byte (originCode t.byCrew)] ++ by'.bytes) r
  retainFor .TAGS (heldAnswer l (answerKind 0x21) reqTag [] p) s

/-- TAG REMOVE (R102 to R104). -/
def tagRemoveRequest (l : Link) (reqTag number : Byte) (crew : Nat) (p : Part) : Part × Reply :=
  match tagRemoval l number.toNat crew p.tu with
  | .error c => (p, reply c)
  | .ok (t, by') => (removeTag l reqTag t by' p, none)

/-! ### The roster (R94 to R97) -/

/-- A rights set from its byte; none where another bit is set (R95, R205). -/
def Rights.ofByte (b : Byte) : Option Rights :=
  if b.toNat < 8 then some ⟨b.getLsbD 0, b.getLsbD 1, b.getLsbD 2⟩ else none

/-- A valid-until from its presence byte and value; none where the presence byte is neither 0 nor 1 (R205). The value
bytes of an absent field are ignored (assumption 39). -/
def validUntilOf (presence : Byte) (v : Long) : Option (Option Nat) :=
  match presence.toNat with
  | 0 => some none
  | 1 => some (some v.toNat)
  | _ => none

/-- Whether a valid-until is refused against the present time (R95 step 2). -/
def pastValidUntil (v : Option Nat) (now : Stamp) : Bool :=
  match v with
  | some s => now.isSet && decide (s ≤ now.secs)
  | none => false

/-- The roster with a crew's entry put in its place, or added at the end (R95). -/
def putEntry (crew : Nat) (r : Rights) (v : Option Nat) (es : List RosterEntry) : List RosterEntry :=
  if es.any fun e => e.crew == crew then es.map fun e => if e.crew = crew then ⟨crew, r, v, true⟩ else e
  else es ++ [⟨crew, r, v, true⟩]

/-- ROSTER PUT (R95). -/
def rosterPutRequest (l : Link) (tag : Byte) (crew : Nat) (rights presence : Byte) (validUntil : Long) (p : Part) :
    Part × Reply :=
  match Rights.ofByte rights, validUntilOf presence validUntil with
  | some r, some v =>
    if !within 1 9999 crew || pastValidUntil v p.tb then (p, reply .RANGE)
    else if (p.tu.entry crew).isNone && decide (Config.rosterMax ≤ p.tu.roster.length) then (p, reply .FULL)
    else
      (retainFor .ROSTER (heldAnswer l (answerKind 0x22) tag [] p)
        { p with tu := { p.tu with roster := putEntry crew r v p.tu.roster } }, none)
  | _, _ => (p, reply .RANGE)

/-- The number of tags a crew holds. -/
def TagUnit.held (u : TagUnit) (crew : Nat) : Nat := (u.tags.filter fun t => t.crew == crew).length

/-- ROSTER DROP (R96). -/
def rosterDropRequest (l : Link) (tag : Byte) (crew : Nat) (p : Part) : Part × Reply :=
  if !within 1 9999 crew then (p, reply .RANGE)
  else if (p.tu.entry crew).isNone then (p, reply .NOT_FOUND)
  else if 0 < p.tu.held crew then (p, reply .HOLDS_TAGS)
  else
    (retainFor .ROSTER (heldAnswer l (answerKind 0x23) tag [] p)
      { p with tu := { p.tu with roster := p.tu.roster.filter fun e => e.crew != crew } }, none)

/-- A crew's entry becomes EXPIRED (R97). -/
def expireEntry (crew : Nat) (p : Part) : Part :=
  let es := p.tu.roster.map fun e => if e.crew = crew then { e with valid := false } else e
  retain .ROSTER
    (enterReport .ROSTER_EXPIRED none (two crew ++ [byte (p.tu.held crew)]) { p with tu := { p.tu with roster := es } })

/-- The crews whose VALID entries have reached their valid-until (R97). -/
def reached (secs : Nat) (es : List RosterEntry) : List Nat :=
  (es.filter fun e => e.valid && match e.validUntil with
    | some v => decide (v ≤ secs)
    | none => false).map fun e => e.crew

/-- Every VALID entry is judged against the seconds count while the time is SET (R97), in roster order (assumption 40). -/
def judgeRoster (p : Part) : Part := if p.tb.isSet then applyAll expireEntry (reached p.tb.secs p.tu.roster) p else p

/-- ROSTER_EXPIRY of a crew's entry (R97): the entry is VALID with a valid-until, and the time is SET. -/
def rosterExpiry (crew : Nat) (p : Part) : Part :=
  match p.tu.entry crew with
  | some e => if p.tb.isSet && e.valid && e.validUntil.isSome then expireEntry crew p else p
  | none => p

/-- SET TIME (R97, R202). -/
def setTimeRequest (seconds : Long) (millis : Half) (p : Part) : Part × Reply :=
  if 999 < millis.toNat then (p, reply .RANGE)
  else (judgeRoster { p with tb := ⟨seconds.toNat, millis.toNat, true⟩ }, reply .DONE)

/-! ### Reads (R115, R212) -/

/-- READ TAGS content; none where the start position is above 7 (R115). -/
def readTagsContent (start : Nat) (p : Part) : Option (List Byte) :=
  if 7 < start then none
  else
    let given := (p.tu.tags.drop start).take 3
    some ([byte p.tu.tags.length, byte p.tu.nextTag] ++
      Pole.all.map (fun x => byte ((p.tu.closeForbidden x).toNat + 2 * (p.tu.recloseForbidden x).toNat)) ++
      byte given.length :: given.flatMap tagBytes)

/-- A roster entry as READ ROSTER gives it (R212). -/
def rosterBytes (e : RosterEntry) : List Byte :=
  two e.crew ++ [rightsByte e.rights, flag e.validUntil.isSome] ++ four (e.validUntil.getD 0) ++
    [if e.valid then 1 else 2]

/-- READ ROSTER content; none where the start position is above 15 (R115). -/
def readRosterContent (start : Nat) (p : Part) : Option (List Byte) :=
  if 15 < start then none
  else
    let given := (p.tu.roster.drop start).take 8
    some ([byte p.tu.roster.length, byte given.length] ++ given.flatMap rosterBytes)

end Sys2Proof.Machine
end

