-- ==== Sys2Proof/Machine/Measure.lean ====
section
/-! DEFINITION. The Element Unit (chapter 2): the measurement message, the measurement state, the four elements and the
trip decision. -/

namespace Sys2Proof.Machine

/-! ### The message (R24, R206) -/

/-- Whether every field of a message is in its range (R24). -/
def Values.inRange (v : Values) : Bool :=
  within 5 20 v.interval && within 0 20000 v.phase.a && within 0 20000 v.phase.b && within 0 20000 v.phase.c &&
    within 0 20000 v.ground && within 0 100 v.bank && within 0 32000 v.voltage &&
    decide (-32000 ≤ v.current ∧ v.current ≤ 32000) && decide (-50 ≤ v.temp ∧ v.temp ≤ 100)

/-- The values of a measurement body; none where its length is not 15 or a field is out of range (R24, R206). -/
def readMeasurement (body : List Byte) : Option Values :=
  match body with
  | [i, a0, a1, b0, b1, c0, c1, g0, g1, k, v0, v1, c2, c3, t] =>
    let v : Values :=
      ⟨i.toNat, ⟨leNat [a0, a1], leNat [b0, b1], leNat [c0, c1]⟩, leNat [g0, g1], k.toNat, leNat [v0, v1],
        leInt [c2, c3], leInt [t]⟩
    if v.inRange then some v else none
  | _ => none

/-! ### Elements (R31 to R37) -/

/-- Where an element goes as its current stands against its pickup (R32). -/
def compareElement (s : ElemState) (i pickup : Nat) : ElemState :=
  if pickup ≤ i then .PICKED_UP
  else if 95 * pickup ≤ 100 * i ∧ s ≠ .IDLE then .HELD
  else .IDLE

/-- The operate time of a curve at a measured multiple: the point with the largest multiple not above it, or the first
point (R34). -/
def operateTime : List Point → Nat → Nat
  | [], _ => 0
  | [q], _ => q.time
  | q :: r :: rest, m => if r.multiple ≤ m then operateTime (r :: rest) m else q.time

/-- The accumulator of an armed PICKED_UP element after a message (R34). -/
def advance (g : Group) (c : Curve) (acc i pickup interval : Nat) : Nat :=
  let m := 10 * i / pickup
  let time := operateTime (match c with | .FAST => g.fast | .DELAYED => g.delayed) m
  let high := match g.highSet with
    | some h => decide (h ≤ m)
    | none => false
  if high || time = 0 then Config.accLimit
  else min Config.accLimit (acc + (10000 * interval + time - 1) / time)

/-- An element after a message, its armed field and curve set (R32, R34, R37). -/
def Element.step (e : Element) (g : Group) (armed : Bool) (c : Curve) (i pickup interval : Nat) : Element :=
  let s := compareElement e.state i pickup
  let kept := if s = .IDLE ∨ !armed then 0 else e.acc
  ⟨s, if s = .PICKED_UP ∧ armed then advance g c kept i pickup interval else kept, c, armed⟩

/-- Whether a phase element is armed (R37). -/
def Part.armed (p : Part) (x : Pole) : Bool :=
  !p.showsOpen x && !p.dc.pendingPoles.has x && !p.dc.tripping.has x && (p.seq x).state != .TRIP_WAIT

/-- The curve of a pole's next trip (R35). -/
def Part.nextCurve (p : Part) (g : Group) (x : Pole) : Curve :=
  if (p.seq x).shot + 1 ≤ g.fastOps then .FAST else .DELAYED

/-- The curve of element G (R35). -/
def Part.groundCurve (p : Part) (g : Group) : Curve :=
  let armed := PoleSet.ofFun p.armed
  if armed.isEmpty then p.eu.ground.curve
  else if armed.any fun x => p.nextCurve g x == .FAST then .FAST else .DELAYED

/-- Element G after a message; IDLE while the ground element is disabled (R33). -/
def Part.groundStep (p : Part) (g : Group) (v : Values) : Element :=
  let armed := !(PoleSet.ofFun p.armed).isEmpty
  let c := p.groundCurve g
  if g.groundEnabled then p.eu.ground.step g armed c v.ground g.groundPickup v.interval else ⟨.IDLE, 0, c, armed⟩

/-- The phase elements after a message (R32 to R37). -/
def Part.phaseSteps (p : Part) (g : Group) (v : Values) : PerPole Element :=
  .ofFun fun x =>
    (p.eu.phase.get x).step g (p.armed x) (p.nextCurve g x) (v.phase.get x) g.phasePickup v.interval

/-- Whether an element is PICKED_UP or HELD (R38). -/
def Element.up (e : Element) : Bool := e.state != .IDLE

/-- The phase elements that are PICKED_UP or HELD. -/
def ElementUnit.phasesUp (u : ElementUnit) : PoleSet := .ofFun fun x => (u.phase.get x).up

/-- The pickup set: element G covers all three poles (R38). -/
def ElementUnit.covered (u : ElementUnit) : PoleSet := if u.ground.up then .full else u.phasesUp

/-- The phase elements that have reached 10000 (R39). -/
def ElementUnit.reached (u : ElementUnit) : PoleSet := .ofFun fun x => decide ((u.phase.get x).acc = Config.accLimit)

/-- Whether element G has reached 10000 (R39). -/
def ElementUnit.groundReached (u : ElementUnit) : Bool := decide (u.ground.acc = Config.accLimit)

/-- The phase elements armed at the message (R40, R41). -/
def ElementUnit.armedPoles (u : ElementUnit) : PoleSet := .ofFun fun x => (u.phase.get x).armed

/-- The pole of a set with the highest current, the first where several tie (R41). -/
def highestCurrent (s : PoleSet) (c : PerPole Nat) : PoleSet :=
  match s.members with
  | [] => .empty
  | x :: xs => .single (xs.foldl (fun m y => if c.get m < c.get y then y else m) x)

/-- The pole set of an ask, and whether it is multi-phase (R40, R41). -/
def askOf (mode : PoleMode) (u : ElementUnit) (v : Values) : PoleSet × Bool :=
  match mode with
  | .GANGED => (u.armedPoles, false)
  | .SINGLE =>
    if 2 ≤ u.phasesUp.count then (u.armedPoles, true)
    else if !u.reached.isEmpty then (u.reached, false)
    else (highestCurrent u.armedPoles v.phase, false)

/-- Every accumulator at 0 (R39). -/
def ElementUnit.cleared (u : ElementUnit) : ElementUnit :=
  { u with phase := .ofFun fun x => { u.phase.get x with acc := 0 }, ground := { u.ground with acc := 0 } }

/-- The trip decision of a message (R39). -/
def tripDecision (v : Values) (p : Part) : Part :=
  if p.eu.reached.isEmpty && !p.eu.groundReached then p
  else
    let ask := askOf p.sq.mode p.eu v
    protectiveAsk ask.1 ask.2 { p with eu := p.eu.cleared }

/-- The pickup set is formed, and its changes given to the Sequencer (R38). -/
def formPickups (p : Part) : Part :=
  let old := p.eu.pickup
  let new := p.eu.covered
  sqDropouts (old.diff new) (sqPickups (new.diff old) { p with eu := { p.eu with pickup := new } })

/-- The elements at a message taken while OK (R42 step 5). -/
def evaluate (v : Values) (p : Part) : Part :=
  let g := p.profile
  let u := { p.eu with phase := p.phaseSteps g v, ground := p.groundStep g v }
  tripDecision v (formPickups { p with eu := u })

/-! ### Measurement state (R27 to R30) -/

/-- An element at IDLE with its accumulator at 0 (R29). -/
def Element.reset (e : Element) : Element := { e with state := .IDLE, acc := 0 }

/-- The return to OK at the third good message of a run (R29, R56, R67): the elements are cleared, the pickup set is
emptied, reclaim timers run on, and MEAS_OK is queued. -/
def recover (p : Part) : Part :=
  let left := p.eu.state
  let u := { p.eu with
    state := .OK, run := 0, phase := .ofFun fun x => (p.eu.phase.get x).reset, ground := p.eu.ground.reset
    pickup := .empty }
  let q := mapReclaim Reclaim.resume { p with eu := u, sq := { p.sq with meas := .OK } }
  enterReport .MEAS_OK none [byte left.code] (batteryMeas true (sqDropouts p.eu.pickup q))

/-- Step 3 of R42: the loss timer restarts, and a run builds while the state is not OK (R27, R29). -/
def countRun (p : Part) : Part :=
  let u := { p.eu with lossTimer := some Config.lossTime }
  if p.measOk then { p with eu := u }
  else if u.run + 1 < 3 then { p with eu := { u with run := u.run + 1 } }
  else recover { p with eu := u }

/-- A good message (R42 steps 2 to 5): step 4 before step 5 (assumption 37). -/
def goodMessage (v : Values) (p : Part) : Part :=
  let q := countRun { p with eu := { p.eu with latest := some ⟨v, p.tb⟩ } }
  let r := takeBankLevel v.bank q.measOk q
  let s := takeBattery ⟨v.voltage, v.current, v.temp, v.interval⟩ r.measOk r
  if s.measOk then evaluate v s else s

/-- A measurement message (R42): discarded in DORMANT, or where its body is not good, which breaks a recovery run. -/
def takeMeasurement (body : List Byte) (p : Part) : Part :=
  match readMeasurement body with
  | some v => if p.isRun then goodMessage v p else breakRun p
  | none => breakRun p
where
  /-- A discarded message breaks a recovery run (R24, R29). -/
  breakRun (p : Part) : Part := if p.measOk then p else { p with eu := { p.eu with run := 0 } }

/-- The Sequencer at the loss of measurement (R67, R69), with the entries the Drive Controller ends BLIND (R16). -/
def lossAtSequencer (p : Part) : Part :=
  let waiting := p.waitingPoles
  let q := endLinkEntries .full .BLIND p
  let r := enterLockout (.of waiting .BLIND) { q with sq := { q.sq with meas := .LOST } }
  blindCheck (mapReclaim Reclaim.hold r)

/-- Measurement becomes LOST (R28): the Sequencer's LOCKOUT report is made before the MEAS_LOST report. -/
def lose (p : Part) : Part :=
  let arrival := (p.eu.latest.map fun l => stampBytes l.arrival).getD []
  let q := { p with eu := { p.eu with state := .LOST, lossTimer := none, run := 0 } }
  enterReport .MEAS_LOST none arrival (tellLockouts p (lossAtSequencer (batteryMeas false (markStale q))))

/-- LOSS_TIMER_EXPIRY (R28, R29). -/
def lossTimerExpiry (p : Part) : Part :=
  match p.eu.lossTimer with
  | some _ =>
    if p.measOk then lose p else { p with eu := { p.eu with lossTimer := none, run := 0 } }
  | none => p

end Sys2Proof.Machine
end

