-- ==== Sys2Proof/Machine/Defaults.lean ====
section
/-! DEFINITION. Start values: the records the manual gives for an item that is not restored (R76, R112, R156), and the
records of a part without power. -/

namespace Sys2Proof.Machine

/-- The multiples of the default curves (R76). -/
def defaultCurve (times : List Nat) : List Point :=
  List.zipWith Point.mk [10, 15, 20, 30, 50, 100, 200, 400] times

/-- The default group record (R76). -/
def defaultGroup : Group where
  phasePickup := 400
  groundPickup := 80
  groundEnabled := true
  fast := defaultCurve [2000, 1000, 500, 250, 120, 60, 40, 30]
  delayed := defaultCurve [10000, 6000, 3500, 1800, 900, 400, 200, 100]
  highSet := none
  opsToLockout := 4
  fastOps := 2
  dead1 := 500
  dead2 := 5000
  dead3 := 15000
  reclaimS := 30
  mode := .GANGED
  coldMult := 20
  coldS := 600

/-- The default UNIT record (R76). -/
def defaultUnit : UnitRec where
  closeDelayS := 10
  capacity := 20000
  conserve := 400
  reserve := 200
  cutoff := 80
  taper := 200
  weakDrop := 1000
  failedDrop := 2000
  testHours := 168
  statusMin := 60
  callThreshold := 8
  coldOpenS := 600
  openOnExhaustion := false

/-- A pole record at start-up with its contacts, wear and operation count (R1). -/
def startPole (a b : Bool) (wear count : Nat) : PoleRec :=
  ⟨a, b, .NONE, none, false, wear, count, none, positionOf a b == .CLOSED⟩

/-- A sequence record at start-up (R45): `image` is what the lockout image holds of the pole. The dead length and the open
count at departure start at 0 (assumption 8). -/
def startSeqRec (position : Position) (image : Option LockCause) : SeqRec where
  state := if position = .CLOSED then .CLOSED_IDLE else .LOCKOUT
  shot := 0
  deadTimer := none
  deadLength := 0
  newValue := false
  reclaim := .stopped
  energyWait := 0
  openCount := if position = .CLOSED then 0 else 65535
  openMs := 0
  departure := 0
  ganged := false
  superseded := false
  endNote := none
  lastTrip := none
  lockout := if position = .CLOSED then none else some (image.getD .START)

/-- An element record at start-up (R31). -/
def startElement : Element := ⟨.IDLE, 0, .FAST, false⟩

/-- The Element Unit at start-up (R25, R27, R31, R38). -/
def startElementUnit : ElementUnit := ⟨none, .WAITING, none, 0, .const startElement, startElement, .empty⟩

/-- A battery test record in IDLE (R146). -/
def idleTest : TestRec := ⟨none, none, .IDLE, 0, none, none, 0, none, none, none⟩

/-- A link record at power-up (R178). -/
def startLink : LinkRec := ⟨.HUNTING, [], none, none, [], [], true, 0⟩

/-- A write record in IDLE (R194). -/
def idleWrite (fault : Bool) (stored : Stored) : WriteRec := ⟨none, false, [], fault, stored⟩

/-- The records of a part without power: the images in storage stay (R197), every volatile record is blank (assumption 6).
A power-up sets all of them. -/
def offPart (images : Item → Stored) : Part where
  on := false
  dc := ⟨.const (startPole false false 0 0), 0, none, none, none, .const none, none, [], .empty, .empty, .empty, false⟩
  eu := startElementUnit
  sq := ⟨.const (startSeqRec .UNKNOWN none), .SINGLE, none, .empty, .WAITING, false, .empty⟩
  pu := ⟨⟨defaultGroup, defaultGroup, defaultGroup, defaultGroup⟩, defaultUnit, 1, false, none, none, none, none⟩
  tu := ⟨[], [], 1⟩
  nu := ⟨none, false, false, 0, [], [], .empty, false⟩
  bc := ⟨0, 0, 20000, .UNTESTED, .NORMAL, false, .OFF, false, .RUN, none, none, none, none, none, none, none, 0, idleTest, 0,
    0, false, false, false⟩
  ru := ⟨[], 0, false, 0, 0, false, none, false, false, none, .NORMAL, .RUN⟩
  rs :=
    let w := fun i => idleWrite false (images i)
    ⟨w .GROUP1, w .GROUP2, w .GROUP3, w .GROUP4, w .UNIT, w .SELECTED, w .TAGS, w .ROSTER, w .WEAR, w .LOCKOUT, w .HEALTH,
      w .SOC, w .HOURS⟩
  li := ⟨startLink, startLink, startLink⟩
  tb := ⟨0, 0, false⟩
  restart := none

end Sys2Proof.Machine
end

