-- ==== Sys2Proof/Machine/StartUp.lean ====
section
/-! DEFINITION. The start-up sequence (R197 to R200, with R45, R76, R112, R132, R156, R177), commanded restart (R198), the
loss of power (R197), entry into DORMANT (R154) and wake (R155). -/

namespace Sys2Proof.Machine

/-! ### Restoring images (R197) -/

/-- The reason an image is not restored (R197); none where it is. -/
def Stored.reason : Stored → Option FaultReason
  | .ABSENT => some .IMAGE_ABSENT
  | .BAD => some .IMAGE_BAD
  | .good _ => none

/-- The items not restored, with their reasons (R197), in the order of the table of 10.1 (assumption 59). -/
def notRestored (s : Store) : List (Item × FaultReason) :=
  allItems.filterMap fun i => ((s.get i).stored.reason).map fun r => (i, r)

/-- A write record after the images have been read (R194, R197). -/
def WriteRec.restored (w : WriteRec) : WriteRec := idleWrite (w.stored.reason).isSome w.stored

/-- A group from its image, or the default (R76). -/
def groupFrom : Stored → Group
  | .good (.group g) => g
  | _ => defaultGroup

/-- The UNIT record from its image, or the default (R76). -/
def unitFrom : Stored → UnitRec
  | .good (.unit u) => u
  | _ => defaultUnit

/-- The selected group from its image, or 1 (R76). -/
def selectedFrom : Stored → Nat
  | .good (.selected n) => n
  | _ => 1

/-- The tag table and next tag number from their image, or an empty table and 1 (R112). -/
def tagsFrom : Stored → List Tag × Nat
  | .good (.tags ts n) => (ts, n)
  | _ => ([], 1)

/-- The roster from its image, or empty (R112). -/
def rosterFrom : Stored → List RosterEntry
  | .good (.roster es) => es
  | _ => []

/-- Wear and operation counts from their image, or 0 (R1). -/
def wearFrom : Stored → PerPole (Nat × Nat)
  | .good (.wear w) => w
  | _ => .const (0, 0)

/-- The lockout image, or no pole in LOCKOUT (R45). -/
def lockoutFrom : Stored → PerPole (Option LockCause)
  | .good (.lockout l) => l
  | _ => .const none

/-- The health from its image, or UNTESTED (R156). -/
def healthFrom : Stored → Health
  | .good (.health h) => h
  | _ => .UNTESTED

/-- The elapsed hours from their image, or 0 (R156). -/
def hoursFrom : Stored → Nat
  | .good (.hours n) => n
  | _ => 0

/-- The SoC from its image against the capacity, or half the capacity (R156). -/
def socFrom (capacity : Nat) : Stored → Nat
  | .good (.soc mah permille) =>
    min capacity (if permilleOf mah capacity = permille then mah else socAt permille capacity)
  | _ => capacity * 500 / 1000

/-! ### Placeholders (R112) -/

/-- The placeholder entry of a crew (R112). -/
def placeholder (crew : Nat) : RosterEntry := ⟨crew, ⟨false, false, false⟩, none, false⟩

/-- The roster with the first entry that holds no tag replaced. -/
def replaceFirst (holdsTag : Nat → Bool) (e : RosterEntry) : List RosterEntry → List RosterEntry
  | [] => []
  | r :: rs => if holdsTag r.crew then r :: replaceFirst holdsTag e rs else e :: rs

/-- A placeholder is entered for a crew without an entry (R112). -/
def enterPlaceholder (ts : List Tag) (es : List RosterEntry) (crew : Nat) : List RosterEntry :=
  if es.any fun e => e.crew == crew then es
  else if es.length < Config.rosterMax then es ++ [placeholder crew]
  else replaceFirst (fun c => ts.any fun t => t.crew == c) (placeholder crew) es

/-- The roster with a placeholder for each restored tag whose crew has no entry (R112), in the order of the table (assumption
41). -/
def withPlaceholders (ts : List Tag) (es : List RosterEntry) : List RosterEntry :=
  (ts.map fun t => t.crew).foldl (enterPlaceholder ts) es

/-! ### The steps of the sequence (R199) -/

/-- Which of the two start-ups runs (R199). -/
inductive StartCause | POWER_UP | COMMANDED
  deriving DecidableEq, Repr

/-- Code of a restart cause (R199, R210). -/
def StartCause.code : StartCause → Nat
  | .POWER_UP => 1
  | .COMMANDED => 2

/-- Steps 1 and 2: the Profile Unit, the Tag Unit and the store take the images, and the override list is rebuilt; the
claim and a held selection are cleared (R76, R80, R112, R194). -/
def startSettings (p : Part) : Part :=
  let s := p.rs
  let t := tagsFrom s.tags.stored
  { p with
    pu := ⟨⟨groupFrom s.group1.stored, groupFrom s.group2.stored, groupFrom s.group3.stored, groupFrom s.group4.stored⟩,
      unitFrom s.unit.stored, selectedFrom s.selected.stored, t.1.any fun g => g.kind == .HOT_LINE, none, none, none, none⟩
    tu := ⟨withPlaceholders t.1 (rosterFrom s.roster.stored), t.1, t.2⟩
    rs := s.mapItems fun _ w => w.restored }

/-- Step 3 and the drive's part of step 5: pole records from the contacts and the wear image, every list empty (R1). -/
def startDrive (p : Part) : Part :=
  let w := wearFrom p.rs.wear.stored
  { p with dc := { p.dc with
      poles := .ofFun fun x =>
        startPole (p.dc.poles.get x).aClosed (p.dc.poles.get x).bClosed (w.get x).1 (w.get x).2
      trip := none, crew := none, radio := none, seq := .const none, flight := none
      tripPulse := .empty, closePulse := .empty, ending := false } }

/-- Step 3 at the Sequencer (R45): records from the positions and the lockout image, the mode of the effective profile. -/
def startSequencer (p : Part) : Part :=
  let l := lockoutFrom p.rs.lockout.stored
  { p with sq := ⟨.ofFun fun x => startSeqRec (p.position x) (l.get x), p.profile.mode, none, .empty, .WAITING, false, .empty⟩ }

/-- Whether the lockout records differ from the image (R45): a START lockout, or a pole found CLOSED. -/
def lockoutDiffers (p : Part) : Bool :=
  let l := lockoutFrom p.rs.lockout.stored
  PoleSet.full.any fun x => (p.seq x).lockout != l.get x

/-- Steps 4 and 5: the Element Unit, the Report Unit and the Energy Unit (R30, R132, R177). -/
def startLists (gap : Bool) (p : Part) : Part :=
  let q := { p with
    eu := startElementUnit
    ru := ⟨[], p.ru.nextNumber, gap, 0, 0, false, none, false, false, some (p.pu.unit.statusMin * 60000), p.ru.level, .RUN⟩ }
  { q with nu := ⟨none, false, false, q.tripReserveNow, [], [], .empty, false⟩ }

/-- Step 6: the Battery Controller's records, with its judgements (R156); the energy level is given to the Report Unit. -/
def startBattery (p : Part) : Part :=
  let u := p.pu.unit
  let soc := socFrom u.capacity p.rs.soc.stored
  let health := healthFrom p.rs.health.stored
  let level := energyLevelOf u (permilleOf soc u.capacity) health
  let mode : ChargerMode := if p.bc.supply then modeFromOff (permilleOf soc u.capacity) else .OFF
  let q := { p with
    bc := ⟨soc, 0, u.capacity, health, level, p.bc.supply, mode, false, .RUN, none, none, none, none, none, none, none,
      Config.socPeriod, idleTest, hoursFrom p.rs.hours.stored, 0, false, false, true⟩
    ru := { p.ru with level := level } }
  judgeExhaustion (judgePosting q)

/-- The entries of a STORE_FAULT or RESTART body (R210). -/
def faultEntries (is : List (Item × FaultReason)) : List Byte :=
  byte is.length :: is.flatMap fun i => itemEntry i.1 i.2

/-- Step 7: the RESTART report, and one STORE_FAULT report where an item was not restored (R199). -/
def startReports (c : StartCause) (lost : List (Item × FaultReason)) (p : Part) : Part :=
  let q := enterReport .RESTART none ([byte c.code, flag p.tb.isSet] ++ faultEntries lost) p
  if lost.isEmpty then q else enterReport .STORE_FAULT none (faultEntries lost) q

/-- The items handed to the Retained Store during the sequence (R45, R112, R197; assumption 26). -/
def startHandOffs (lost : List (Item × FaultReason)) (roster lockout : Bool) (p : Part) : Part :=
  let handed := allItems.filter fun i =>
    lost.any (fun l => l.1 == i) || (i == .ROSTER && roster) || (i == .LOCKOUT && lockout)
  applyAll retain handed p

/-- The start-up sequence, from a part whose contacts and supply sense input are as read (R199). -/
def startUp (c : StartCause) (p : Part) : Part :=
  let lost := notRestored p.rs
  let a := startSequencer (startDrive (startSettings p))
  let roster := a.tu.roster != rosterFrom p.rs.roster.stored
  let gap := c == .COMMANDED && !p.ru.queue.isEmpty
  let b := startReports c lost (startBattery (startLists gap a))
  refresh (blindCheck (startHandOffs lost roster (lockoutDiffers a) b))

/-! ### Power (R197, R200) -/

/-- The image in storage once a write in progress has completed on the hold-up energy (R197). -/
def WriteRec.image (w : WriteRec) : Stored :=
  match w.writing with
  | some i => .good i
  | none => w.stored

/-- POWER_LOSS: writes in progress complete, and every volatile record is lost (R197). -/
def powerLoss (p : Part) : Part := offPart fun i => (p.rs.get i).image

/-- An image found to disagree with its check value (R197). -/
def Stored.spoil : Stored → Stored
  | .ABSENT => .ABSENT
  | _ => .BAD

/-- The contact pair of a pole among the lines. -/
def linePair (l : Lines) : Pole → Contacts
  | .A => l.a
  | .B => l.b
  | .C => l.c

/-- The write records as a start-up finds the images: those of a list disagree with their check value (R197; assumption 6). -/
def Store.spoiled (bad : List Item) (s : Store) : Store :=
  s.mapItems fun i w => if i ∈ bad then { w with stored := w.stored.spoil } else w

/-- POWER_UP: time, numbers and link records at their start values, the lines as the part finds them, and the start-up
sequence (R200; assumption 6). Power that returns to a part still on has been lost before. -/
def powerUp (l : Lines) (bad : List Item) (p : Part) : Part :=
  let o := powerLoss p
  let q := { o with
    on := true
    dc := { o.dc with
      poles := .ofFun fun x => startPole (linePair l x).aClosed (linePair l x).bClosed 0 0
      coilOpen := l.coilOpen }
    bc := { o.bc with supply := l.supply }
    rs := o.rs.spoiled bad }
  startUp .POWER_UP q

/-! ### Commanded restart (R193, R198) -/

/-- Whether a message is the answer DONE to a RESTART. -/
def Message.isRestartDone : Message → Bool
  | .answer kind _ code _ => kind == answerKind 0x44 && code == .DONE
  | _ => false

/-- Whether a message is discarded when a commanded restart begins (R193). -/
def Message.isReport : Message → Bool
  | .report _ => true
  | .permitCall _ _ _ => true
  | _ => false

/-- Whether the start-up sequence of a taken restart is to begin (R198). -/
def Part.restartDue (p : Part) : Bool :=
  match p.restart with
  | some l =>
    !(p.li.get l).outbound.any Message.isRestartDone && p.dc.trip.isNone && p.dc.flight.isNone && !p.rs.busy
  | none => false

/-- RESTART_SEQUENCE_BEGIN: REPORT and PERMIT CALL messages leave the radio link's list, and the sequence runs on the images
as it finds them (R193, R197, R199, R200). -/
def restartBegin (bad : List Item) (p : Part) : Part :=
  if p.restartDue then
    let r := p.li.radio
    startUp .COMMANDED { p with
      restart := none
      rs := p.rs.spoiled bad
      li := { p.li with radio := { r with outbound := r.outbound.filter fun m => !m.isReport } } }
  else p

/-- The refusal of a RESTART (R198); none where it is taken. -/
def restartRefusal (l : Link) (crew : Nat) (p : Part) : Option AnswerCode :=
  match if l = .CREW then p.tu.crewRefusal crew .SUPERVISE else none with
  | some c => some c
  | none => if p.dc.flight.isSome || p.rs.busy then some .BUSY else none

/-- The work a link waits on ends when a restart is taken: close entries, held requests, and a test (R16, R92, R149, R198).
Sequencer entries end CANCELLED with their poles in DEAD (R65). The END messages go in the order of R198's list (assumption 58),
that of a held commit before that of a held selection (assumption 38). -/
def endWork (p : Part) : Part :=
  let q := clearEntries .full p
  let r := endSelection .CANCELLED (match q.pu.heldCommit with
    | some _ => dropClaim q
    | none => q)
  abandonTest (if r.bc.supply then r.bc.inForce else .OFF) false r

/-- RESTART (R198): the END messages go before the answer. -/
def restartRequest (l : Link) (crew : Nat) (p : Part) : Part × Reply :=
  match restartRefusal l crew p with
  | some c => (p, reply c)
  | none => ({ endWork p with restart := some l }, reply .DONE)

/-! ### DORMANT and wake (R154, R155, R175, R176, R191, R192) -/

/-- A link record at DORMANT entry (R191): the request under answer is kept. -/
def LinkRec.unpowered (r : LinkRec) : LinkRec :=
  { r with powered := false, phase := .HUNTING, frame := [], gap := none, waiting := [], outbound := [] }

/-- The Report Unit at DORMANT entry (R175). -/
def ReportUnit.dormant (u : ReportUnit) : ReportUnit :=
  { u.endBlock with sending := false, permits := 0, used := 0, statusTimer := none, partState := .DORMANT }

/-- Whether the exhaustion wait is complete (R153). -/
def Part.dormantDue (p : Part) : Bool :=
  match p.bc.wait with
  | some w => p.isRun && (w.sent || decide (w.remaining = 0)) && p.dc.trip.isNone && p.dc.flight.isNone
  | none => false

/-- The Drive Controller and the Sequencer at DORMANT entry (R16, R70): every entry ends CANCELLED, and the poles in DEAD
or CLOSE_WAIT lock out with cause EXHAUSTION. -/
def dormantPoles (p : Part) : Part :=
  let locks := p.waitingPoles
  let q := enterLockout (.of locks .EXHAUSTION) (endLinkEntries .full .CANCELLED p)
  mapReclaim Reclaim.hold { q with sq := { q.sq with meas := .WAITING } }

/-- DORMANT_ENTRY (R154): the links and the Report Unit first, then the other hand-offs (assumption 26). -/
def dormantEntry (p : Part) : Part :=
  if p.dormantDue then
    let q := { p with
      bc := { p.bc with partState := .DORMANT, procPower := false, wait := none }
      li := { p.li with radio := p.li.radio.unpowered, protection := p.li.protection.unpowered }
      ru := p.ru.dormant
      eu := { p.eu with state := .WAITING, lossTimer := none, run := 0 }
      restart := none }
    judgeLine (markStale (endEdits (fun _ => true) (batteryMeas false (retain .SOC (dormantPoles q)))))
  else p

/-- A link record at wake (R192): the answer of a request dropped here is discarded when it falls due (assumption 27). -/
def LinkRec.woken (r : LinkRec) : LinkRec :=
  { r with
    powered := true, phase := .HUNTING, frame := [], gap := none, under := none, waiting := [], outbound := []
    wakes := r.wakes + 1 }

/-- The Report Unit at wake (R173, R176). -/
def ReportUnit.woken (u : ReportUnit) (statusMin : Nat) : ReportUnit :=
  { u with partState := .RUN, statusTimer := some (statusMin * 60000) }

/-- The wake: the supply returns in DORMANT (R155, R70, R176, R192). The reports enter before the Report Unit is given the part
state (assumption 51). -/
def wake (p : Part) : Part :=
  let q := { p with
    bc := { p.bc with supply := true, partState := .RUN, procPower := true, socTimer := Config.socPeriod }
    li := { p.li with radio := p.li.radio.woken, protection := p.li.protection.woken } }
  let r := enterReport .SUPPLY_BACK none [] (moveMode .BULK q)
  judgeHeater (blindCheck (judgeSending { r with ru := r.ru.woken r.pu.unit.statusMin }))

/-- SUPPLY_SENSE_CHANGE (R141, R155). -/
def supplySenseChange (present : Bool) (p : Part) : Part :=
  if present = p.bc.supply then p
  else if present then if p.isRun then supplyReturned p else wake p
  else supplyLost p

/-- EXHAUSTION_WAIT_EXPIRY: the 30 s of the wait have run (R153). -/
def exhaustionWaitExpiry (p : Part) : Part :=
  match p.bc.wait with
  | some w => { p with bc := { p.bc with wait := some { w with remaining := 0 } } }
  | none => p

/-- The EXHAUSTION record has been sent (R153, R167). -/
def exhaustionSent (p : Part) : Part :=
  match p.bc.wait with
  | some w => { p with bc := { p.bc with wait := some { w with sent := true } } }
  | none => p

/-- MESSAGE_LEFT: the first message of a link's outbound list has been sent (R186); a REPORT makes the sender IDLE, and
the last queued EXHAUSTION record is told to the Battery Controller (R167). -/
def messageLeft (l : Link) (p : Part) : Part :=
  let r := p.li.get l
  match r.outbound with
  | [] => p
  | m :: ms =>
    let q := { p with li := p.li.set l { r with outbound := ms } }
    match m with
    | .report rep =>
      let u := { q with ru := { q.ru with sending := false } }
      if rep.isExhaustion && !u.ru.queue.any Report.isExhaustion then exhaustionSent u else u
    | _ => q

/-- PERMIT GRANT (R168), but for the judgement of sending and the triggers, which follows the answer (`afterAnswer`). -/
def permitGrantRequest (n : Byte) (p : Part) : Part × Reply :=
  if !within 1 16 n.toNat then (p, reply .RANGE)
  else
    let held := min Config.permitMax (p.ru.permits + n.toNat)
    ({ p with ru := { p.ru.endBlock with permits := held, used := 0 } }, some (.DONE, [byte held]))

/-- PERMIT_CALL_REPEAT_EXPIRY (R170). -/
def permitCallRepeatExpiry (p : Part) : Part :=
  if p.ru.called then judgeCall { p with ru := p.ru.endBlock } else p

/-- The body of a STATUS SNAPSHOT report (R174, R210). -/
def snapshotBody (p : Part) : List Byte :=
  let s := p.pu.effective.source
  let temporary : Nat := match s with
    | .TEMPORARY n => n
    | _ => 0
  Pole.all.map (fun x => byte (p.position x).code) ++ Pole.all.map (fun x => byte (p.seq x).state.code) ++
    [byte p.bc.level.code] ++ two p.bc.permille ++
    [heaterByte p.bc.heater, byte p.tu.tags.length, byte s.code, byte temporary, byte p.pu.selected]

/-- STATUS_INTERVAL_EXPIRY (R173). -/
def statusIntervalExpiry (p : Part) : Part :=
  match p.ru.statusTimer with
  | some _ =>
    enterReport .SNAPSHOT none (snapshotBody p)
      { p with ru := { p.ru with statusTimer := some (p.pu.unit.statusMin * 60000) } }
  | none => p

end Sys2Proof.Machine
end

