-- ==== Sys2Proof/Machine/Reads.lean ====
section
/-! DEFINITION. The contents of the READ answers and of QUEUE POLL (R43, R73, R133, R157, R171, R172, R202), laid out as
R212 gives. -/

namespace Sys2Proof.Machine

/-- READ POLES content (R43, R212). -/
def readPolesContent (p : Part) : List Byte :=
  let pole := fun x =>
    let r := p.dc.poles.get x
    [byte r.position.code, byte (r.aClosed.toNat + 2 * r.bClosed.toNat), byte r.motion.code,
      optCode MechCause.code r.mechFail, flag r.handle] ++ two r.wear ++ four r.count ++ optTwo r.lastCurrent
  let v := p.eu.latest.map fun l => l.vals
  Pole.all.flatMap pole ++ optTwo (v.map fun w => w.phase.a) ++ optTwo (v.map fun w => w.phase.b) ++
    optTwo (v.map fun w => w.phase.c) ++ optTwo (v.map fun w => w.ground) ++ [byte p.eu.state.code]

/-- Code and remaining time of a reclaim timer (R212). -/
def reclaimBytes : Reclaim → List Byte
  | .stopped => 1 :: four 0
  | .running t => 2 :: four t
  | .held t => 3 :: four t

/-- A pole sequence record (R212). -/
def seqBytes (r : SeqRec) : List Byte :=
  [byte r.state.code, byte r.shot] ++ four (r.deadTimer.getD 0) ++ four r.deadLength ++ [flag r.newValue] ++
    reclaimBytes r.reclaim ++ two r.energyWait ++ two r.openCount ++ two r.departure ++
    [flag r.ganged, flag r.superseded, optCode EndNote.code r.endNote, optCode OpCause.code r.lastTrip,
      optCode LockCause.code r.lockout]

/-- An element record (R212). -/
def elementBytes (e : Element) : List Byte := [byte e.state.code] ++ two e.acc ++ [byte e.curve.code, flag e.armed]

/-- READ SEQUENCE content; none for another part number (R73). -/
def readSequenceContent (part : Nat) (p : Part) : Option (List Byte) :=
  match part with
  | 0 => some (Pole.all.flatMap fun x => seqBytes (p.seq x))
  | 1 => some
    ([byte p.sq.mode.code, optCode PoleMode.code p.sq.pendingMode, byte p.gang.toNat, flag p.sq.quiescent,
      byte p.eu.state.code, byte p.eu.run] ++ (Pole.all.flatMap fun x => elementBytes (p.eu.phase.get x)) ++
      elementBytes p.eu.ground)
  | _ => none

/-- The state and pole set of the close entry a reservation names (R133): in the close request list, or in flight. -/
def entryState (p : Part) (e : EntryName) : Nat × PoleSet :=
  let flight := fun (s : PoleSet) => (OpState.IN_FLIGHT.code, s)
  match e with
  | .CREW =>
    match p.dc.crew with
    | some c => (c.op.state.code, c.op.poles)
    | none => flight p.dc.closing
  | .RADIO =>
    match p.dc.radio with
    | some c => (c.op.state.code, c.op.poles)
    | none => flight p.dc.closing
  | .SEQ x =>
    match p.dc.seq.get x with
    | some .PENDING => (OpState.PENDING.code, .single x)
    | some .WAIT_ENERGY => (OpState.WAIT_ENERGY.code, .single x)
    | none => flight (.single x)

/-- Code of an entry name (R212). -/
def EntryName.code : EntryName → Nat
  | .CREW => 1
  | .RADIO => 2
  | .SEQ _ => 3

/-- A close reservation as READ RESERVATIONS gives it (R133, R212). -/
def reservationBytes (p : Part) (r : Reservation) : List Byte :=
  let s := entryState p r.entry
  [byte r.entry.code, byte s.2.toNat, byte r.value, byte s.1]

/-- Freshness and deficit flag: FRESH 1, STALE 2; the deficit flag is 1 while SET (R116, R212). -/
def freshByte (fresh : Bool) : Byte := if fresh then 1 else 2

/-- READ RESERVATIONS content (R133, R212), the close reservations in the order they were entered (assumption 43). -/
def readReservationsContent (p : Part) : List Byte :=
  let u := p.nu
  let headroom : List Byte := match u.level with
    | some l => [1, byte (twosComplement 256 ((l : Int) - p.listSum))]
    | none => [0, 0]
  [byte (u.level.getD 255), freshByte u.fresh, byte u.tripReserve, byte p.counted.toNat, byte u.closes.length] ++
    u.closes.flatMap (reservationBytes p) ++ [byte p.listSum] ++ headroom ++ [byte u.waiting.length] ++
    (u.waiting.flatMap fun s => [byte s.toNat, byte (Config.closeCost * s.count)]) ++ [flag u.charger, flag u.deficit]

/-- READ BATTERY content (R43, R157, R212). -/
def readBatteryContent (p : Part) : List Byte :=
  let b := p.bc
  let values : List Byte := match p.eu.latest with
    | some l =>
      1 :: two l.vals.voltage ++ two (twosComplement 65536 l.vals.current) ++ [temperatureByte l.vals.temp]
    | none => [0, 0, 0, 0, 0, 0]
  let wait : List Byte := match b.wait with
    | some w => 2 :: two w.remaining ++ [flag w.sent]
    | none => [1, 0, 0, 0]
  values ++ [byte p.eu.state.code] ++ two b.soc ++ two b.permille ++ two b.capacity ++
    [byte b.health.code, byte b.level.code, supplyByte b.supply, byte b.mode.code,
      optCode ChargerMode.code (if b.testRunning then b.test.restore else none), heaterByte b.heater,
      byte b.partState.code] ++ wait

/-- The result of a test in DONE. -/
def TestState.result : TestState → Option TestResult
  | .DONE r => some r
  | _ => none

/-- READ TEST content (R157, R212); a part of a second of the time suspended is dropped (assumption 10). -/
def readTestContent (p : Part) : List Byte :=
  let b := p.bc
  let t := b.test
  [optCode TestOrigin.code t.origin, t.tag.getD 0, byte t.state.code, optCode TestResult.code t.state.result,
    byte t.steps] ++ optTwo t.before ++ optTwo t.minimum ++ two (t.suspendedMs / 1000) ++
    [optCode ChargerMode.code t.restore] ++ optTwo t.drop ++ two b.hours ++ two (b.intervalMs / 1000) ++
    [flag b.posted] ++ two p.pu.unit.testHours

/-- READ QUEUE content; none where the start position is above 31 (R172, R212). -/
def readQueueContent (start : Nat) (p : Part) : Option (List Byte) :=
  if 31 < start then none
  else
    let u := p.ru
    let window := (u.sendOrder.drop start).take 3
    some ([byte u.queue.length] ++ (classCounts u.queue).map byte ++
      [byte u.permits, byte u.used, if u.called then 2 else 1] ++ two (u.callTimer.getD 0) ++
      [flag u.depthMark, flag u.gapPending, if u.sending then 2 else 1] ++ two u.nextNumber ++ [byte u.level.code] ++
      four ((u.statusTimer.map secondsUp).getD 4294967295) ++ [byte window.length] ++
      window.flatMap fun r => reportHead r ++ [flag (u.sendable r)])

/-- QUEUE POLL (R171, R212). -/
def queuePollRequest (p : Part) : Part × Reply :=
  let u := p.ru
  let highest := allClasses.find? fun c => u.queue.any fun r => r.kind.cls == c && u.sendable r
  (p, some (.DONE, [optCode ReportClass.code highest] ++ (classCounts u.queue).map byte ++ [byte u.permits]))

/-- The content of a READ item with its number (R189): the items by their row in the table of R189; none where the owner
refuses the number RANGE. The number of an item that takes none is ignored (assumption 57). -/
def readContent (item number : Nat) (p : Part) : Option (List Byte) :=
  match item with
  | 1 => some (readPolesContent p)
  | 2 => readSequenceContent number p
  | 3 => readTagsContent number p
  | 4 => readRosterContent number p
  | 5 => readGroupContent number p
  | 6 => some (unitBytes p.pu.unit)
  | 7 => some (readOverridesContent p)
  | 8 => some (readReservationsContent p)
  | 9 => some (readBatteryContent p)
  | 10 => some (readTestContent p)
  | 11 => readQueueContent number p
  | 12 => some (stampBytes p.tb)
  | _ => none

/-- Whether a READ item is in the table of R189. -/
def readItemKnown (item : Byte) : Bool := within 1 12 item.toNat

/-- READ (R189, R209): the answer places the item and number bytes after the code, the number as it came where the item takes none
(R206; assumption 57). -/
def readRequest (item number : Byte) (p : Part) : Part × Reply :=
  match readContent item.toNat number.toNat p with
  | some bs => (p, some (.DONE, item :: number :: bs))
  | none => (p, some (.RANGE, [item, number]))

end Sys2Proof.Machine
end

