-- ==== Sys2Proof/Machine/Operands.lean ====
section
/-! DEFINITION. The operand forms: the body of each request kind on each link (R206), and the rights table (R182). -/

namespace Sys2Proof.Machine

/-- Whether a link may send a request (R182). -/
def linkMay (l : Link) : Request → Bool
  | .trip .. => true
  | .close .. => l != .PROTECTION
  | .closeCancel => l == .CREW
  | .clearMechFault .. => l == .CREW
  | .resetWear .. => l == .CREW
  | .historyRead _ => true
  | .tagApply .. => l != .PROTECTION
  | .tagRemove .. => l != .PROTECTION
  | .rosterPut .. => l == .RADIO
  | .rosterDrop _ => l == .RADIO
  | .editBegin _ => l != .CREW
  | .editPut _ => l != .CREW
  | .editCommit => l != .CREW
  | .editDrop => l != .CREW
  | .readPending => l != .CREW
  | .selectGroup _ => l != .CREW
  | .temporaryGroup .. => l == .RADIO
  | .temporaryCancel => l == .RADIO
  | .batteryTest => l != .PROTECTION
  | .permitGrant _ => l == .RADIO
  | .queuePoll => l == .RADIO
  | .setTime .. => l == .RADIO
  | .restart _ => l != .PROTECTION
  | .read .. => true

/-- Whether a radio request is carried out under a LOCAL_CONTROL tag (R109, R182). -/
def underLocalControl : Request → Bool
  | .trip .. | .historyRead _ | .permitGrant _ | .queuePoll | .setTime .. | .read .. => true
  | _ => false

/-- Whether a crew request is carried out in DORMANT (R184). -/
def inDormant : Request → Bool
  | .historyRead _ | .read .. => true
  | _ => false

/-- The body of a TRIP (R206): a crew number only on the crew link. -/
def tripBody (l : Link) : List Byte → Option Request
  | [s, f] => some (.trip s f none)
  | [s, f, c0, c1] => if l = .CREW then some (.trip s f (some (half c0 c1))) else none
  | _ => none

/-- The body of a CLOSE (R206): one byte on the radio link and three on the crew link. A link that may not send the kind
admits every length of the row (assumption 23). -/
def closeBody (l : Link) : List Byte → Option Request
  | [s] => if l = .CREW then none else some (.close s 0)
  | [s, c0, c1] => if l = .RADIO then none else some (.close s (half c0 c1))
  | _ => none

/-- The body of a TAG REMOVE (R206; assumption 23). -/
def tagRemoveBody (l : Link) : List Byte → Option Request
  | [n] => if l = .CREW then none else some (.tagRemove n 0)
  | [n, c0, c1] => if l = .RADIO then none else some (.tagRemove n (half c0 c1))
  | _ => none

/-- The body of a RESTART (R206; assumption 23). -/
def restartBody (l : Link) : List Byte → Option Request
  | [] => if l = .CREW then none else some (.restart 0)
  | [c0, c1] => if l = .RADIO then none else some (.restart (half c0 c1))
  | _ => none

/-- The body of a TAG APPLY (R206): the note's length byte agrees with the body length, which is at most 21. -/
def tagApplyBody : List Byte → Option Request
  | k :: s :: c0 :: c1 :: n :: note =>
    if note.length = n.toNat ∧ note.length ≤ 16 then some (.tagApply k s (half c0 c1) note) else none
  | _ => none

/-- An empty body. -/
def emptyBody (r : Request) : List Byte → Option Request
  | [] => some r
  | _ => none

/-- A request of a kind with a body of an admitted length (R203, R206); none otherwise, a READ with an empty body among them
(assumption 54). -/
def requestOf (l : Link) (kind : Byte) (body : List Byte) : Option Request :=
  match kind.toNat with
  | 0x10 => tripBody l body
  | 0x11 => closeBody l body
  | 0x12 => emptyBody .closeCancel body
  | 0x13 => match body with
    | [c0, c1, s] => some (.clearMechFault (half c0 c1) s)
    | _ => none
  | 0x14 => match body with
    | [c0, c1, s] => some (.resetWear (half c0 c1) s)
    | _ => none
  | 0x15 => match body with
    | [n] => some (.historyRead n)
    | _ => none
  | 0x20 => tagApplyBody body
  | 0x21 => tagRemoveBody l body
  | 0x22 => match body with
    | [c0, c1, r, q, v0, v1, v2, v3] => some (.rosterPut (half c0 c1) r q (long v0 v1 v2 v3))
    | _ => none
  | 0x23 => match body with
    | [c0, c1] => some (.rosterDrop (half c0 c1))
    | _ => none
  | 0x30 => match body with
    | [t] => some (.editBegin t)
    | _ => none
  | 0x31 => if within 2 96 body.length then some (.editPut body) else none
  | 0x32 => emptyBody .editCommit body
  | 0x33 => emptyBody .editDrop body
  | 0x34 => emptyBody .readPending body
  | 0x35 => match body with
    | [n] => some (.selectGroup n)
    | _ => none
  | 0x36 => match body with
    | [n, s0, s1, s2, s3] => some (.temporaryGroup n (long s0 s1 s2 s3))
    | _ => none
  | 0x37 => emptyBody .temporaryCancel body
  | 0x40 => emptyBody .batteryTest body
  | 0x41 => match body with
    | [n] => some (.permitGrant n)
    | _ => none
  | 0x42 => emptyBody .queuePoll body
  | 0x43 => match body with
    | [s0, s1, s2, s3, m0, m1] => some (.setTime (long s0 s1 s2 s3) (half m0 m1))
    | _ => none
  | 0x44 => restartBody l body
  | 0x45 => match body with
    | [i, n] => some (.read i n)
    | _ => none
  | _ => none

/-- Whether a kind is a request kind (R203). -/
def isRequestKind (kind : Byte) : Bool :=
  let n := kind.toNat
  within 0x10 0x15 n || within 0x20 0x23 n || within 0x30 0x37 n || within 0x40 0x45 n

/-- The body of a request as a link carries it (R206). -/
def requestBody (l : Link) : Request → List Byte
  | .trip s f none => [s, f]
  | .trip s f (some c) => [s, f] ++ two c.toNat
  | .close s c => s :: if l = .CREW then two c.toNat else []
  | .closeCancel => []
  | .clearMechFault c s => two c.toNat ++ [s]
  | .resetWear c s => two c.toNat ++ [s]
  | .historyRead n => [n]
  | .tagApply k s c note => [k, s] ++ two c.toNat ++ textBytes note
  | .tagRemove n c => n :: if l = .CREW then two c.toNat else []
  | .rosterPut c r q v => two c.toNat ++ [r, q] ++ four v.toNat
  | .rosterDrop c => two c.toNat
  | .editBegin t => [t]
  | .editPut body => body
  | .editCommit => []
  | .editDrop => []
  | .readPending => []
  | .selectGroup n => [n]
  | .temporaryGroup n s => n :: four s.toNat
  | .temporaryCancel => []
  | .batteryTest => []
  | .permitGrant n => [n]
  | .queuePoll => []
  | .setTime s m => four s.toNat ++ two m.toNat
  | .restart c => if l = .CREW then two c.toNat else []
  | .read i n => [i, n]

end Sys2Proof.Machine
end

