-- ==== Sys2Proof/Machine/Links.lean ====
section
/-! DEFINITION. The Link Interface (chapter 9): passing a request to its owner, the waiting lists, sorting a frame, and
collecting a frame from bytes. -/

namespace Sys2Proof.Machine

/-- The owner of a request takes it (R182, R185): the part after it, and the answer, or none while it waits for a write. -/
def handle (l : Link) (tag : Byte) (r : Request) (p : Part) : Part × Reply :=
  match r with
  | .trip s f _ => tripRequest l tag s f p
  | .close s c => closeRequest l tag s c.toNat p
  | .closeCancel => closeCancelRequest p
  | .clearMechFault c s => clearMechFaultRequest c.toNat s p
  | .resetWear c s => resetWearRequest l tag c.toNat s p
  | .historyRead n => historyReadRequest n p
  | .tagApply k s c note => tagApplyRequest l tag k s c.toNat note p
  | .tagRemove n c => tagRemoveRequest l tag n c.toNat p
  | .rosterPut c rights q v => rosterPutRequest l tag c.toNat rights q v p
  | .rosterDrop c => rosterDropRequest l tag c.toNat p
  | .editBegin t => editBeginRequest l t p
  | .editPut body => editPutRequest l body p
  | .editCommit => editCommitRequest l tag p
  | .editDrop => editDropRequest l p
  | .readPending => readPendingRequest p
  | .selectGroup n => selectGroupRequest l tag n p
  | .temporaryGroup n s => temporaryGroupRequest n s p
  | .temporaryCancel => temporaryCancelRequest p
  | .batteryTest => batteryTestRequest l tag p
  | .permitGrant n => permitGrantRequest n p
  | .queuePoll => queuePollRequest p
  | .setTime s m => setTimeRequest s m p
  | .restart c => restartRequest l c.toNat p
  | .read i n => readRequest i n p

/-- What an owner does once its answer has been given: a PERMIT GRANT carried out judges sending and the triggers (R168). -/
def afterAnswer (r : Request) (p : Part) : Part :=
  match r with
  | .permitGrant n => if within 1 16 n.toNat then judgeSending p else p
  | _ => p

/-- Whether a request only reads (R22, R93, R171, R189): it changes nothing in the part. -/
def onlyReads : Request → Bool
  | .historyRead _ | .readPending | .queuePoll | .read .. => true
  | _ => false

/-- The judgements that follow a request, where it does more than read: `before` is the part that took it. -/
def refreshAfter (r : Request) (before p : Part) : Part := if onlyReads r then p else endEvent before p

/-- The request under answer of a link (R178). -/
def setUnder (l : Link) (u : Option UnderAnswer) (p : Part) : Part :=
  { p with li := p.li.set l { p.li.get l with under := u } }

/-- A request refused by the Link Interface when it is passed (R109, R184). -/
def passRefusal (l : Link) (r : Request) (p : Part) : Option AnswerCode :=
  if l = .CREW ∧ !p.isRun ∧ !inDormant r then some .DORMANT
  else if l = .RADIO ∧ p.tu.localControl ∧ !underLocalControl r then some .NOT_PERMITTED
  else none

/-- An answer with the kind of its request (R185). -/
def answer (l : Link) (tag : Byte) (r : Request) (code : AnswerCode) (content : List Byte) (p : Part) : Part :=
  send l (.answer (answerKind r.kindByte) tag code content) p

/-- What an answer of the Link Interface carries after its code (R209): the item and the number of a READ. -/
def refusalContent : Request → List Byte
  | .read i n => [i, n]
  | _ => []

/-- A request that the Link Interface answers itself (R181, R183, R184, R189). -/
def refuse (l : Link) (tag : Byte) (r : Request) (code : AnswerCode) (p : Part) : Part :=
  answer l tag r code (refusalContent r) p

/-- A request reaches its owner (R184, R185): it becomes the request under answer, the claim timer of its link loads, and
where the owner answers at once the answer is handed to the outbound list, after every END that the request itself brings (R88,
R90; under other requests assumption 46) and after a PERMIT CALL that a report of it brings (assumption 66). -/
def passToOwner (l : Link) (w : WaitReq) (p : Part) : Part :=
  let h := handle l w.tag w.req (loadClaimTimer l (setUnder l (some ⟨w.req.kindByte, w.tag⟩) p))
  match h.2 with
  | some (code, content) =>
    refreshAfter w.req p (afterAnswer w.req (setUnder l none (answer l w.tag w.req code content h.1)))
  | none => refreshAfter w.req p h.1

/-- The Link Interface passes a request (R184). -/
def pass (l : Link) (w : WaitReq) (p : Part) : Part :=
  match passRefusal l w.req p with
  | some c => refuse l w.tag w.req c p
  | none => passToOwner l w p

/-- A well-formed request of a link is passed, waits, or is answered BUSY (R183, R198). -/
def takeRequest (l : Link) (w : WaitReq) (p : Part) : Part :=
  let r := p.li.get l
  if Config.waitingMax ≤ r.waiting.length then refuse l w.tag w.req .BUSY p
  else if r.under.isNone && r.waiting.isEmpty && p.restart.isNone then pass l w p
  else { p with li := p.li.set l { r with waiting := r.waiting ++ [w] } }

/-- A request that arrives on a link (R181 steps 3 to 5): the body length of an EDIT PUT, the item of a READ and the
rights table are judged first. -/
def arrive (l : Link) (tag : Byte) (r : Request) (p : Part) : Part :=
  if !(p.li.get l).powered then p
  else if !admitted r then refuse l tag r .MALFORMED p
  else if !linkMay l r then refuse l tag r .NOT_PERMITTED p
  else takeRequest l ⟨tag, r⟩ p
where
  /-- Whether the length of a body of free length is admitted (R206). -/
  admitted : Request → Bool
    | .editPut body => within 2 96 body.length
    | _ => true

/-- Whether a request is a READ of an item that is not in the table (R189). -/
def unknownRead : Request → Bool
  | .read i _ => !readItemKnown i
  | _ => false

/-- A frame whose check agrees is sorted by its kind (R181). The MALFORMED answer to a READ of another length than 2 carries no item
and no number (assumption 54). -/
def sortFrame (l : Link) (kind tag : Byte) (body : List Byte) (p : Part) : Part :=
  if kind = 1 then
    if l = .PROTECTION then endEvent p (takeMeasurement body p)
    else send l (.answer (answerKind kind) tag .NOT_PERMITTED []) p
  else if !isRequestKind kind then send l (.answer 0xFF tag .MALFORMED []) p
  else
    match requestOf l kind body with
    | none => send l (.answer (answerKind kind) tag .MALFORMED []) p
    | some r => if unknownRead r then refuse l tag r .RANGE p else arrive l tag r p

/-- A link back in HUNTING, its gap timer stopped (R180). -/
def LinkRec.hunt (r : LinkRec) : LinkRec := { r with phase := .HUNTING, frame := [], gap := none }

/-- A complete frame on a link (R180, R181): sorted where its check agrees, discarded otherwise; a link without power takes
none. -/
def frameReceive (l : Link) (kind tag : Byte) (body : List Byte) (check : Half) (p : Part) : Part :=
  let r := p.li.get l
  if !r.powered then p
  else
    let q := { p with li := p.li.set l r.hunt }
    if body.length ≤ 96 ∧ check = frameCheck kind tag body then sortFrame l kind tag body q else q

/-- The bytes of a frame in collection, after its start byte, once they are whole: kind, tag, body and check (R203). -/
def wholeFrame (bs : List Byte) : Option (Byte × Byte × List Byte × Half) :=
  match bs with
  | kind :: tag :: n :: rest =>
    if rest.length = n.toNat + 2 then
      let c := rest.drop n.toNat
      some (kind, tag, rest.take n.toNat, half (c.getD 0 0) (c.getD 1 0))
    else none
  | _ => none

/-- Whether the length byte of a frame in collection states more than 96 (R180). -/
def tooLong (bs : List Byte) : Bool :=
  match bs with
  | [_, _, n] => decide (96 < n.toNat)
  | _ => false

/-- BYTE_RECEIVE (R180). -/
def byteReceive (l : Link) (b : Byte) (p : Part) : Part :=
  let r := p.li.get l
  if !r.powered then p
  else
    match r.phase with
    | .HUNTING =>
      if b = 0xC3 then
        { p with li := p.li.set l { r with phase := .IN_FRAME, frame := [], gap := some Config.gapTime } }
      else p
    | .IN_FRAME =>
      let bs := r.frame ++ [b]
      if tooLong bs then { p with li := p.li.set l r.hunt }
      else
        match wholeFrame bs with
        | some (kind, tag, body, check) => frameReceive l kind tag body check p
        | none => { p with li := p.li.set l { r with frame := bs, gap := some Config.gapTime } }

/-- GAP_TIMER_EXPIRY: the frame collected so far is discarded (R180). -/
def gapTimerExpiry (l : Link) (p : Part) : Part :=
  let r := p.li.get l
  match r.gap with
  | some _ => { p with li := p.li.set l r.hunt }
  | none => p

/-- Whether the Link Interface is to pass the front of a link's waiting list (R183, R198). -/
def Part.pumpDue (p : Part) (l : Link) : Bool :=
  let r := p.li.get l
  r.under.isNone && !r.waiting.isEmpty && p.restart.isNone

/-- The request at the front of a link's waiting list is passed (R183). -/
def pump (l : Link) (p : Part) : Part :=
  let r := p.li.get l
  match r.waiting with
  | w :: ws => pass l w { p with li := p.li.set l { r with waiting := ws } }
  | [] => p

end Sys2Proof.Machine
end

