-- ==== Sys2Proof/Machine/Sequence.lean ====
section
/-! DEFINITION. The Sequencer's timers as they run out: the dead timer (R53), the reclaim timer (R56), the energy wait limit
(R54, R213) and the open count (R62). -/

namespace Sys2Proof.Machine

/-- The lockout a pole meets when its dead timer expires (R53). -/
def expiryCause (p : Part) (x : Pole) : Option LockCause :=
  if ((p.dc.poles.get x).mechFail).isSome then some .MECH_FAIL else tagOrWearLock p x

/-- A record in CLOSE_WAIT (R53). -/
def SeqRec.closeWait (r : SeqRec) : SeqRec := { r with state := .CLOSE_WAIT, deadTimer := none, newValue := false }

/-- The lockouts of the poles whose dead timer expires: a gang with any member locked out goes whole, with cause GANG for
the others (R53). -/
def expiryLocks (s : PoleSet) (p : Part) : LockSet :=
  let own := LockSet.on s (expiryCause p)
  if own.poles.isEmpty then own else own.orElse (.of s .GANG)

/-- DEAD_TIMER_EXPIRY of a pole or of its gang (R6, R53, R123). A gang closes as one (R57, R125): where a member still awaits the end
of a trip, the timer stops, and that trip's end starts one for all (assumption 12). -/
def deadTimerExpiry (x : Pole) (p : Part) : Part :=
  if (p.seq x).state = .DEAD ∧ (p.seq x).deadTimer.isSome then
    let s := PoleSet.ofFun fun y => (p.unitOf x).has y && (p.seq y).state == .DEAD
    if (p.seq x).ganged && p.gangAwaits then mapSeq s (fun _ r => r.deadStopped) p
    else
      let locks := expiryLocks s p
      if locks.poles.isEmpty then placeEntries s (mapSeq s (fun _ r => r.closeWait) p) else enterLockout locks p
  else p

/-- A record reset at the expiry of the reclaim timer (R56). -/
def SeqRec.reset (r : SeqRec) : SeqRec :=
  { r with state := .CLOSED_IDLE, shot := 0, ganged := false, reclaim := .stopped }

/-- Whether a reclaim timer runs (R56). -/
def Reclaim.runs : Reclaim → Bool
  | .running _ => true
  | _ => false

/-- RECLAIM_TIMER_EXPIRY of a pole or of its gang (R56); quiescence is judged again (R72). -/
def reclaimTimerExpiry (x : Pole) (p : Part) : Part :=
  if (p.seq x).state = .RECLAIM ∧ (p.seq x).reclaim.runs then
    let s := PoleSet.ofFun fun y => (p.unitOf x).has y && (p.seq y).state == .RECLAIM
    enterReport .SEQ_RESET (some s) [] (judgeQuiescence (mapSeq s (fun _ r => r.reset) p))
  else p

/-- The lockouts at the energy wait limit, over the poles whose entry waits: the first takes NO_ENERGY, the others GANG (R54, R213;
assumption 60). -/
def limitLocks (s : PoleSet) : LockSet :=
  match s.members with
  | [] => .empty
  | x :: _ => (LockSet.of (.single x) .NO_ENERGY).orElse (.of s .GANG)

/-- ENERGY_WAIT_LIMIT of a pole or of its gang (R54, R59, R127, R213). -/
def energyWaitLimit (x : Pole) (p : Part) : Part :=
  if p.dc.seq.get x = some .WAIT_ENERGY then
    let s := PoleSet.ofFun fun y => (p.unitOf x).has y && p.dc.seq.get y == some .WAIT_ENERGY
    lockWithGang (limitLocks s) true p
  else p

/-- OPEN_COUNT_TICK: one more whole second a pole has shown OPEN (R62). -/
def openCountTick (x : Pole) (p : Part) : Part :=
  if p.showsOpen x then
    let r := p.seq x
    p.setSeq x { r with openCount := min 65535 (r.openCount + 1), openMs := 0 }
  else p

end Sys2Proof.Machine
end

