-- ==== Sys2Proof/Machine/Settle.lean ====
section
/-! DEFINITION. What the part does on its own as soon as it is due (assumption 1): the steps of the table that nothing
outside gives, and passing the requests that wait. And what a millisecond brings (assumption 2): the timers and their
expiries (R201). -/

namespace Sys2Proof.Machine

/-! ### Steps that are due -/

/-- A step the part takes on its own. -/
inductive Internal
  | heldSettings | tripFire | closeStart | testResume | periodicTest | reportSend | dormant | restartSequence
  | pump (l : Link)
  deriving DecidableEq, Repr

/-- Whether a step is due. -/
def isDue (p : Part) : Internal → Bool
  | .heldSettings => p.heldDue
  | .tripFire => p.tripDue
  | .closeStart => p.closeDue
  | .testResume => resumeDue p
  | .periodicTest => periodicDue p
  | .reportSend => p.ru.sendDue
  | .dormant => p.dormantDue
  | .restartSequence => p.restartDue
  | .pump l => p.pumpDue l

/-- The order in which due steps are taken (assumption 1). -/
def internalOrder : List Internal :=
  [.heldSettings, .tripFire, .closeStart, .testResume, .periodicTest, .reportSend, .dormant, .restartSequence,
    .pump .PROTECTION, .pump .RADIO, .pump .CREW]

/-- The first step that is due. -/
def nextInternal (p : Part) : Option Internal := internalOrder.find? (isDue p)

/-- A step of the part's own, with the judgements that follow it; a restart that begins so finds no image bad (assumption
6). -/
def runInternal (p : Part) : Internal → Part
  | .heldSettings => endEvent p (heldSettingsApply p)
  | .tripFire => endEvent p (tripFire p)
  | .closeStart => endEvent p (closeStart p)
  | .testResume => endEvent p (testResume p)
  | .periodicTest => endEvent p (periodicTestBegin p)
  | .reportSend => endEvent p (reportSend p)
  | .dormant => endEvent p (dormantEntry p)
  | .restartSequence => restartBegin [] p
  | .pump l => pump l p

/-- The steps that are due, one after another; `fuel` bounds their number. -/
def settleFor : Nat → Part → Part
  | 0, p => p
  | fuel + 1, p =>
    match nextInternal p with
    | some i => settleFor fuel (runInternal p i)
    | none => p

/-- The part once nothing is due (assumption 1). -/
def settle (p : Part) : Part := settleFor 100 p

/-! ### A millisecond -/

/-- A timer one millisecond later. -/
def countDown (t : Option Nat) : Option Nat := t.map fun n => n - 1

/-- A run one millisecond later. -/
def countUp (t : Option Nat) : Option Nat := t.map fun n => n + 1

/-- A sequence record one millisecond later (R44, R54, R56, R62). -/
def SeqRec.tick (r : SeqRec) (waits showsOpen : Bool) : SeqRec :=
  { r with
    deadTimer := countDown r.deadTimer
    reclaim := match r.reclaim with
      | .running t => .running (t - 1)
      | t => t
    energyWait := if waits then min Config.energyWaitLimit (r.energyWait + 1) else r.energyWait
    openMs := if showsOpen then r.openMs + 1 else r.openMs }

/-- A claim one millisecond later (R89). -/
def Claim.tick (c : Claim) : Claim :=
  match c.state with
  | .EDITING t => { c with state := .EDITING (t - 1) }
  | .COMMIT_WAIT _ => c

/-- The test record one millisecond later (R147, R148). -/
def TestRec.tick (t : TestRec) : TestRec :=
  { t with
    step := countDown t.step
    suspendedMs := if t.state = .SUSPENDED then min Config.suspendLimit (t.suspendedMs + 1) else t.suspendedMs }

/-- The Battery Controller one millisecond later (R137, R138, R143, R151, R153). -/
def Battery.tick (b : Battery) (measOk : Bool) : Battery :=
  { b with
    wait := b.wait.map fun w => { w with remaining := w.remaining - 1 }
    absorbTaper := countUp b.absorbTaper
    absorbTime := if measOk then countUp b.absorbTime else b.absorbTime
    floatLow := countUp b.floatLow
    taperRun := countUp b.taperRun
    socTimer := if b.partState = .RUN then b.socTimer - 1 else b.socTimer
    test := b.test.tick
    intervalMs := if b.intervalRuns then b.intervalMs + 1 else b.intervalMs }

/-- The Drive Controller one millisecond later: windows, the close delay, and the fire pulses over (assumption 11). -/
def Drive.tick (d : Drive) : Drive :=
  { d with
    flight := d.flight.map fun f => { f with window := f.window - 1 }
    crew := d.crew.map fun c => { c with delay := countDown c.delay }
    tripPulse := .empty
    closePulse := .empty }

/-- A link record one millisecond later (R180). -/
def LinkRec.tick (r : LinkRec) : LinkRec := { r with gap := countDown r.gap }

/-- Every timer one millisecond later (R201). -/
def advanceTimers (p : Part) : Part :=
  let q := mapSeq .full (fun x r => r.tick (p.dc.seq.get x == some .WAIT_ENERGY) (p.showsOpen x)) p
  { q with
    tb := p.tb.tick
    dc := p.dc.tick
    eu := { p.eu with lossTimer := countDown p.eu.lossTimer }
    pu := { p.pu with
      claim := p.pu.claim.map Claim.tick, coldLoad := countDown p.pu.coldLoad
      temporary := p.pu.temporary.map fun t => { t with timer := t.timer - 1 } }
    bc := p.bc.tick p.measOk
    ru := { p.ru with callTimer := countDown p.ru.callTimer, statusTimer := countDown p.ru.statusTimer }
    li := ⟨p.li.protection.tick, p.li.radio.tick, p.li.crew.tick⟩ }

/-- A timed expiry (R201). -/
inductive Expiry
  | window | closeDelay | loss
  | dead (x : Pole) | reclaim (x : Pole) | energyWait (x : Pole) | openCount (x : Pole)
  | claim | coldLoad | temporary | rosterTime
  | taper | soc | absorbTaper | absorbTime | floatLow | testStep | suspension | hour | exhaustion
  | callRepeat | status | gap (l : Link)
  deriving DecidableEq, Repr

/-- The order in which expiries of one millisecond are taken (assumption 2). -/
def expiryOrder : List Expiry :=
  [.window, .closeDelay, .loss, .dead .A, .dead .B, .dead .C, .reclaim .A, .reclaim .B, .reclaim .C,
    .energyWait .A, .energyWait .B, .energyWait .C, .openCount .A, .openCount .B, .openCount .C,
    .claim, .coldLoad, .temporary, .rosterTime, .taper, .soc, .absorbTaper, .absorbTime, .floatLow, .testStep,
    .suspension, .hour, .exhaustion, .callRepeat, .status, .gap .PROTECTION, .gap .RADIO, .gap .CREW]

/-- Whether a claim's timer has run out. -/
def Claim.over (c : Claim) : Bool := c.state == .EDITING 0

/-- Whether a timer has run out (R201). A VALID entry that a commanded restart restores with its valid-until already reached, the time
SET, is judged at the first millisecond after the restart, not in the start-up sequence (assumption 69). -/
def hasExpired (p : Part) : Expiry → Bool
  | .window => (p.dc.flight.map fun f => f.window) == some 0
  | .closeDelay => (p.dc.crew.bind fun c => c.delay) == some 0
  | .loss => p.eu.lossTimer == some 0
  | .dead x => (p.seq x).deadTimer == some 0
  | .reclaim x => (p.seq x).reclaim == .running 0
  | .energyWait x => p.dc.seq.get x == some .WAIT_ENERGY && decide (Config.energyWaitLimit ≤ (p.seq x).energyWait)
  | .openCount x => decide (1000 ≤ (p.seq x).openMs)
  | .claim => (p.pu.claim.map Claim.over).getD false
  | .coldLoad => p.pu.coldLoad == some 0
  | .temporary => (p.pu.temporary.map fun t => t.timer) == some 0
  | .rosterTime => p.tb.isSet && !(reached p.tb.secs p.tu.roster).isEmpty
  | .taper => (p.bc.taperRun.map fun n => decide (Config.taperRun ≤ n)).getD false
  | .soc => p.isRun && decide (p.bc.socTimer = 0)
  | .absorbTaper => (p.bc.absorbTaper.map fun n => decide (Config.absorbTaper ≤ n)).getD false
  | .absorbTime => (p.bc.absorbTime.map fun n => decide (Config.absorbTime ≤ n)).getD false
  | .floatLow => (p.bc.floatLow.map fun n => decide (Config.floatLow ≤ n)).getD false
  | .testStep => p.bc.testRunning && p.bc.test.step == some 0
  | .suspension =>
    p.bc.test.state == .SUSPENDED && decide (p.bc.test.suspendedMs = Config.suspendLimit) &&
      (decide (0 < p.bc.test.steps) || p.bc.test.before.isSome)
  | .hour => decide (Config.hour ≤ p.bc.intervalMs)
  | .exhaustion => (p.bc.wait.map fun w => decide (w.remaining = 0)).getD false
  | .callRepeat => p.ru.callTimer == some 0
  | .status => p.ru.statusTimer == some 0
  | .gap l => (p.li.get l).gap == some 0

/-- The end of the window the operation in flight stands in (R10, R11). -/
def windowExpiry (p : Part) : Part :=
  match p.dc.flight with
  | some f =>
    match f.phase with
    | .TRIP_WINDOW => tripWindowExpiry p
    | .RETRY_GAP => retryFire p
    | .RETRY_WINDOW => retryWindowExpiry p
    | .CLOSE_WINDOW => closeWindowExpiry p
  | none => p

/-- What an expiry brings. -/
def runExpiry (p : Part) : Expiry → Part
  | .window => windowExpiry p
  | .closeDelay => closeDelayExpiry p
  | .loss => lossTimerExpiry p
  | .dead x => deadTimerExpiry x p
  | .reclaim x => reclaimTimerExpiry x p
  | .energyWait x => energyWaitLimit x p
  | .openCount x => openCountTick x p
  | .claim => claimTimerExpiry p
  | .coldLoad => coldLoadExpiry p
  | .temporary => temporaryExpiry p
  | .rosterTime => judgeRoster p
  | .taper => taperResync p
  | .soc => socPeriodicWrite p
  | .absorbTaper => absorbTaperExpiry p
  | .absorbTime => absorbTimeExpiry p
  | .floatLow => floatLowExpiry p
  | .testStep => testStepComplete p
  | .suspension => testSuspendLimit p
  | .hour => testIntervalHour p
  | .exhaustion => exhaustionWaitExpiry p
  | .callRepeat => permitCallRepeatExpiry p
  | .status => statusIntervalExpiry p
  | .gap l => gapTimerExpiry l p

/-- One expiry of a millisecond, where its timer has run out: what is due before it is taken first, and may have stopped
the timer. -/
def expire (e : Expiry) (p : Part) : Part :=
  if hasExpired p e then
    let q := settle p
    if hasExpired q e then endEvent q (runExpiry q e) else q
  else p

/-- One millisecond passes (R201; assumption 2). -/
def tick (p : Part) : Part := applyAll expire expiryOrder (advanceTimers p)

/-- What the part does while no command waits: the steps that are due, or a millisecond where none is (assumption 2). -/
def idle (p : Part) : Part :=
  if !p.on then p
  else if (nextInternal p).isSome then settle p
  else tick p

end Sys2Proof.Machine
end

