-- ==== Sys2Proof/Machine/State.lean ====
section
/-! DEFINITION. The state of the machine: the queue of the commands that wait, and the eleven blocks of the part; the
reasons a step can stop, and the state after reset. -/

namespace Sys2Proof.Machine

/-- The machine: the commands that wait, first in first out, and the part (its records are those of
Machine/Records.lean). -/
structure State where
  pending : List Instr
  part : Part
  deriving DecidableEq, Repr

/-- Faults: there is none. The manual gives every command an effect in every state, be it that nothing changes
(assumption 28). -/
inductive Fault
  deriving DecidableEq, Repr

/-- Refusals. -/
inductive Refusal
  /-- Raised by an arm of `exec` whose command has no meaning yet; no arm raises it (assumption 28; safe). -/
  | notModelled (mnemonic : String)
  deriving DecidableEq, Repr

/-- The input lines of the part after reset: every pole shows CLOSED, the coils are healthy and the supply is PRESENT
(assumption 4). -/
def resetLines : Lines := ⟨⟨true, false⟩, ⟨true, false⟩, ⟨true, false⟩, ⟨false, false, false⟩, true⟩

/-- A part as it leaves the maker, without power: no image has ever been written (assumption 4). -/
def newPart : Part := offPart fun _ => .ABSENT

/-- The state after reset: a new part right after POWER_UP (R197, R200), with no command waiting. -/
def State.reset : State := ⟨[], powerUp resetLines [] newPart⟩

end Sys2Proof.Machine
end

