-- ==== Sys2Proof/Machine/Events.lean ====
section
/-! DEFINITION. How a command acts on the part: an event from outside, a request on a link, and a step of the part's own.
A part without power takes nothing but a POWER_UP (R197). -/

namespace Sys2Proof.Machine

/-- What one command answers. -/
abbrev Answer := Host.Outcome State Fault Refusal

/-- The state with the part changed; the queue stays as it is. -/
def State.onPart (f : Part → Part) (s : State) : State := { s with part := f s.part }

/-- A part that has power changes; one without stays as it is (R197). -/
def whileOn (f : Part → Part) (p : Part) : Part := if p.on then f p else p

/-- An event at the part: what is due before it is taken first, and the judgements that watch the records follow it
(assumption 1). -/
def atPart (f : Part → Part) (p : Part) : Part :=
  let q := settle p
  endEvent q (f q)

/-- A command that is an event (a contact, a timer, the end of a write). -/
def event (f : Part → Part) (s : State) : Answer := .next (s.onPart (whileOn (atPart f)))

/-- A command that brings bytes on a link: the judgements follow in the part that takes them (R180, R181). -/
def linkEvent (f : Part → Part) (s : State) : Answer := .next (s.onPart (whileOn fun p => f (settle p)))

/-- A command that is a request on a link (R181 steps 3 to 5). -/
def request (l : Link) (tag : Byte) (r : Request) (s : State) : Answer := linkEvent (arrive l tag r) s

/-- A command that is a step the part takes on its own as soon as it is due (assumption 1); nothing changes where it is
not due. -/
def ownStep (f : Part → Part) (s : State) : Answer := .next (s.onPart (whileOn fun p => endEvent p (f p)))

end Sys2Proof.Machine
end

