-- ==== Sys2Proof/Machine/PowerRows.lean ====
section
/-! DEFINITION. The commands that switch the part: POWER_UP, RESTART_SEQUENCE_BEGIN and POWER_LOSS. -/

namespace Sys2Proof.Machine

/-- POWER_UP (R200): the lines as the part finds them, and the images that disagree with their check value. -/
def execPowerUp (lines : Lines) (bad : List Item) (s : State) : Answer := .next (s.onPart (powerUp lines bad))

/-- RESTART_SEQUENCE_BEGIN (R197 to R199): the sequence of a taken restart, once it is due, with the images that disagree
with their check value. -/
def execRestartSequenceBegin (s : State) (bad : List Item := []) : Answer := .next (s.onPart (whileOn (restartBegin bad)))

/-- POWER_LOSS (R197). -/
def execPowerLoss (s : State) : Answer := .next (s.onPart (whileOn fun p => powerLoss (settle p)))

end Sys2Proof.Machine
end

