-- ==== Sys2Proof/Machine/LinkRows.lean ====
section
/-! DEFINITION. The commands of the links and the plain inputs: frames, bytes and their gap, messages that have left, measurements,
contacts and the supply sense. -/

namespace Sys2Proof.Machine

/-- FRAME_RECEIVE (R181). -/
def execFrameReceive (l : Link) (kind tag : Byte) (body : List Byte) (check : Half) (s : State) : Answer :=
  linkEvent (frameReceive l kind tag body check) s

/-- GAP_TIMER_EXPIRY (R180). -/
def execGapTimerExpiry (l : Link) (s : State) : Answer := linkEvent (gapTimerExpiry l) s

/-- MESSAGE_LEFT (R186). -/
def execMessageLeft (l : Link) (s : State) : Answer := event (messageLeft l) s

/-- MEASUREMENT (R42). -/
def execMeasurement (body : List Byte) (s : State) : Answer := event (takeMeasurement body) s

/-- CONTACT_CHANGE (R2; assumption 5 for the coil-check input). -/
def execContactChange (x : Pole) (aClosed bClosed coilOpen : Bool) (s : State) : Answer :=
  event (contactChange x aClosed bClosed coilOpen) s

/-- SUPPLY_SENSE_CHANGE (R141, R155). -/
def execSupplySenseChange (present : Bool) (s : State) : Answer := event (supplySenseChange present) s

/-- BYTE_RECEIVE (R180). -/
def execByteReceive (l : Link) (b : Byte) (s : State) : Answer := linkEvent (byteReceive l b) s

end Sys2Proof.Machine
end

