-- ==== Sys2Proof/Machine/RequestRows.lean ====
section
/-! DEFINITION. The requests of a link, but for the READ items (R206). -/

namespace Sys2Proof.Machine

/-- TRIP (R4). -/
def execTrip (l : Link) (tag poles flags : Byte) (crew : Option Half) (s : State) : Answer :=
  request l tag (.trip poles flags crew) s

/-- CLOSE (R5). -/
def execClose (l : Link) (tag poles : Byte) (crew : Half) (s : State) : Answer := request l tag (.close poles crew) s

/-- CLOSE CANCEL (R15). -/
def execCloseCancel (l : Link) (tag : Byte) (s : State) : Answer := request l tag .closeCancel s

/-- CLEAR MECH FAULT (R19). -/
def execClearMechFault (l : Link) (tag : Byte) (crew : Half) (poles : Byte) (s : State) : Answer :=
  request l tag (.clearMechFault crew poles) s

/-- RESET WEAR (R21). -/
def execResetWear (l : Link) (tag : Byte) (crew : Half) (poles : Byte) (s : State) : Answer :=
  request l tag (.resetWear crew poles) s

/-- HISTORY READ (R22). -/
def execHistoryRead (l : Link) (tag position : Byte) (s : State) : Answer := request l tag (.historyRead position) s

/-- TAG APPLY (R100). -/
def execTagApply (l : Link) (tag kind poles : Byte) (crew : Half) (note : List Byte) (s : State) : Answer :=
  request l tag (.tagApply kind poles crew note) s

/-- TAG REMOVE (R102, R103). -/
def execTagRemove (l : Link) (tag number : Byte) (crew : Half) (s : State) : Answer :=
  request l tag (.tagRemove number crew) s

/-- ROSTER PUT (R95): `presence` is the presence byte of the valid-until (R205). -/
def execRosterPut (l : Link) (tag : Byte) (crew : Half) (rights presence : Byte) (validUntil : Long) (s : State) :
    Answer :=
  request l tag (.rosterPut crew rights presence validUntil) s

/-- ROSTER DROP (R96). -/
def execRosterDrop (l : Link) (tag : Byte) (crew : Half) (s : State) : Answer := request l tag (.rosterDrop crew) s

/-- EDIT BEGIN (R84). -/
def execEditBegin (l : Link) (tag target : Byte) (s : State) : Answer := request l tag (.editBegin target) s

/-- EDIT PUT (R85, R208): the body is the run of items. -/
def execEditPut (l : Link) (tag : Byte) (body : List Byte) (s : State) : Answer := request l tag (.editPut body) s

/-- EDIT COMMIT (R86). -/
def execEditCommit (l : Link) (tag : Byte) (s : State) : Answer := request l tag .editCommit s

/-- EDIT DROP (R88). -/
def execEditDrop (l : Link) (tag : Byte) (s : State) : Answer := request l tag .editDrop s

/-- READ PENDING (R93). -/
def execReadPending (l : Link) (tag : Byte) (s : State) : Answer := request l tag .readPending s

/-- SELECT GROUP (R90). -/
def execSelectGroup (l : Link) (tag group : Byte) (s : State) : Answer := request l tag (.selectGroup group) s

/-- TEMPORARY GROUP (R82). -/
def execTemporaryGroup (l : Link) (tag group : Byte) (seconds : Long) (s : State) : Answer :=
  request l tag (.temporaryGroup group seconds) s

/-- TEMPORARY CANCEL (R82). -/
def execTemporaryCancel (l : Link) (tag : Byte) (s : State) : Answer := request l tag .temporaryCancel s

/-- BATTERY TEST (R146). -/
def execBatteryTest (l : Link) (tag : Byte) (s : State) : Answer := request l tag .batteryTest s

/-- PERMIT GRANT (R168). -/
def execPermitGrant (l : Link) (tag n : Byte) (s : State) : Answer := request l tag (.permitGrant n) s

/-- QUEUE POLL (R171). -/
def execQueuePoll (l : Link) (tag : Byte) (s : State) : Answer := request l tag .queuePoll s

/-- SET TIME (R202). -/
def execSetTime (l : Link) (tag : Byte) (seconds : Long) (millis : Half) (s : State) : Answer :=
  request l tag (.setTime seconds millis) s

/-- RESTART (R198). -/
def execRestart (l : Link) (tag : Byte) (crew : Half) (s : State) : Answer := request l tag (.restart crew) s

end Sys2Proof.Machine
end

