-- ==== Sys2Proof/Machine/ReadRows.lean ====
section
/-! DEFINITION. The READ items, each by its row in the table of R189; a READ of an item that takes no number carries 0. -/

namespace Sys2Proof.Machine

/-- READ POLES (R43). -/
def execReadPoles (l : Link) (tag : Byte) (s : State) : Answer := request l tag (.read 1 0) s

/-- READ SEQUENCE (R73). -/
def execReadSequence (l : Link) (tag part : Byte) (s : State) : Answer := request l tag (.read 2 part) s

/-- READ TAGS (R115). -/
def execReadTags (l : Link) (tag start : Byte) (s : State) : Answer := request l tag (.read 3 start) s

/-- READ ROSTER (R115). -/
def execReadRoster (l : Link) (tag start : Byte) (s : State) : Answer := request l tag (.read 4 start) s

/-- READ GROUP (R93). -/
def execReadGroup (l : Link) (tag group : Byte) (s : State) : Answer := request l tag (.read 5 group) s

/-- READ UNIT (R93). -/
def execReadUnit (l : Link) (tag : Byte) (s : State) : Answer := request l tag (.read 6 0) s

/-- READ OVERRIDES (R93). -/
def execReadOverrides (l : Link) (tag : Byte) (s : State) : Answer := request l tag (.read 7 0) s

/-- READ RESERVATIONS (R133). -/
def execReadReservations (l : Link) (tag : Byte) (s : State) : Answer := request l tag (.read 8 0) s

/-- READ BATTERY (R157). -/
def execReadBattery (l : Link) (tag : Byte) (s : State) : Answer := request l tag (.read 9 0) s

/-- READ TEST (R157). -/
def execReadTest (l : Link) (tag : Byte) (s : State) : Answer := request l tag (.read 10 0) s

/-- READ QUEUE (R172). -/
def execReadQueue (l : Link) (tag start : Byte) (s : State) : Answer := request l tag (.read 11 start) s

/-- READ TIME (R202). -/
def execReadTime (l : Link) (tag : Byte) (s : State) : Answer := request l tag (.read 12 0) s

end Sys2Proof.Machine
end

