-- ==== Sys2Proof/Machine/DriveRows.lean ====
section
/-! DEFINITION. The steps of the Drive Controller and the Sequencer: firing, the windows, the close delay, loss of measurement and the
sequence timers. -/

namespace Sys2Proof.Machine

/-- TRIP_FIRE (R9). -/
def execTripFire (s : State) : Answer := ownStep tripFire s

/-- CLOSE_START (R8). -/
def execCloseStart (s : State) : Answer := ownStep closeStart s

/-- TRIP_WINDOW_EXPIRY (R10). -/
def execTripWindowExpiry (s : State) : Answer := event tripWindowExpiry s

/-- RETRY_FIRE (R10). -/
def execRetryFire (s : State) : Answer := event retryFire s

/-- RETRY_WINDOW_EXPIRY (R10). -/
def execRetryWindowExpiry (s : State) : Answer := event retryWindowExpiry s

/-- CLOSE_WINDOW_EXPIRY (R11). -/
def execCloseWindowExpiry (s : State) : Answer := event closeWindowExpiry s

/-- CLOSE_DELAY_EXPIRY (R15). -/
def execCloseDelayExpiry (s : State) : Answer := event closeDelayExpiry s

/-- LOSS_TIMER_EXPIRY (R28). -/
def execLossTimerExpiry (s : State) : Answer := event lossTimerExpiry s

/-- DEAD_TIMER_EXPIRY (R53) of a pole, or of the gang it belongs to. -/
def execDeadTimerExpiry (x : Pole) (s : State) : Answer := event (deadTimerExpiry x) s

/-- RECLAIM_TIMER_EXPIRY (R56) of a pole, or of the gang it belongs to. -/
def execReclaimTimerExpiry (x : Pole) (s : State) : Answer := event (reclaimTimerExpiry x) s

/-- ENERGY_WAIT_LIMIT (R54) of a pole, or of the gang it belongs to. -/
def execEnergyWaitLimit (x : Pole) (s : State) : Answer := event (energyWaitLimit x) s

/-- OPEN_COUNT_TICK (R62): one more whole second the pole has shown OPEN. -/
def execOpenCountTick (x : Pole) (s : State) : Answer := event (openCountTick x) s

end Sys2Proof.Machine
end

