-- ==== Sys2Proof/Machine/TimerRows.lean ====
section
/-! DEFINITION. The timers of the Profile Unit and the Tag Unit, and the steps of the Battery Controller, the Report Unit and the
Retained Store. -/

namespace Sys2Proof.Machine

/-- CLAIM_TIMER_EXPIRY (R89). -/
def execClaimTimerExpiry (s : State) : Answer := event claimTimerExpiry s

/-- COLD_LOAD_EXPIRY (R81). -/
def execColdLoadExpiry (s : State) : Answer := event coldLoadExpiry s

/-- TEMPORARY_EXPIRY (R82). -/
def execTemporaryExpiry (s : State) : Answer := event temporaryExpiry s

/-- ROSTER_EXPIRY (R97) of a crew's entry. -/
def execRosterExpiry (crew : Half) (s : State) : Answer := event (rosterExpiry crew.toNat) s

/-- TAPER_RESYNC (R137). -/
def execTaperResync (s : State) : Answer := event taperResync s

/-- SOC_PERIODIC_WRITE (R138). -/
def execSocPeriodicWrite (s : State) : Answer := event socPeriodicWrite s

/-- ABSORB_TAPER_EXPIRY (R143). -/
def execAbsorbTaperExpiry (s : State) : Answer := event absorbTaperExpiry s

/-- ABSORB_TIME_EXPIRY (R143). -/
def execAbsorbTimeExpiry (s : State) : Answer := event absorbTimeExpiry s

/-- FLOAT_LOW_EXPIRY (R143). -/
def execFloatLowExpiry (s : State) : Answer := event floatLowExpiry s

/-- TEST_STEP_COMPLETE (R147). -/
def execTestStepComplete (s : State) : Answer := event testStepComplete s

/-- TEST_SUSPEND_LIMIT (R148). -/
def execTestSuspendLimit (s : State) : Answer := event testSuspendLimit s

/-- TEST_RESUME (R148). -/
def execTestResume (s : State) : Answer := ownStep testResume s

/-- TEST_INTERVAL_HOUR (R151). -/
def execTestIntervalHour (s : State) : Answer := event testIntervalHour s

/-- PERIODIC_TEST_BEGIN (R151). -/
def execPeriodicTestBegin (s : State) : Answer := ownStep periodicTestBegin s

/-- EXHAUSTION_WAIT_EXPIRY (R153). -/
def execExhaustionWaitExpiry (s : State) : Answer := event exhaustionWaitExpiry s

/-- DORMANT_ENTRY (R154). -/
def execDormantEntry (s : State) : Answer := ownStep dormantEntry s

/-- PERMIT_CALL_REPEAT_EXPIRY (R170). -/
def execPermitCallRepeatExpiry (s : State) : Answer := event permitCallRepeatExpiry s

/-- STATUS_INTERVAL_EXPIRY (R173). -/
def execStatusIntervalExpiry (s : State) : Answer := event statusIntervalExpiry s

/-- REPORT_SEND (R166). -/
def execReportSend (s : State) : Answer := ownStep reportSend s

/-- RETAINED_WRITE_END (R194): the write of an item ends, with success or failure. -/
def execRetainedWriteEnd (item : Item) (ok : Bool) (s : State) : Answer := event (writeEnd item ok) s

/-- HELD_SETTINGS_APPLY (R91). -/
def execHeldSettingsApply (s : State) : Answer := ownStep heldSettingsApply s

end Sys2Proof.Machine
end

