-- ==== Sys2Proof/Machine/Dispatch.lean ====
section
/-! DEFINITION. One arm for each command: the meaning it calls. -/

namespace Sys2Proof.Machine

/-- The effect of a command on everything but the queue. -/
def exec (i : Instr) (s : State) : Host.Outcome State Fault Refusal :=
  match i with
  | .powerUp lines bad => Sys2Proof.Machine.execPowerUp lines bad s
  | .restartSequenceBegin bad => Sys2Proof.Machine.execRestartSequenceBegin s bad
  | .frameReceive l kind tag body check => Sys2Proof.Machine.execFrameReceive l kind tag body check s
  | .gapTimerExpiry l => Sys2Proof.Machine.execGapTimerExpiry l s
  | .messageLeft l => Sys2Proof.Machine.execMessageLeft l s
  | .measurement body => Sys2Proof.Machine.execMeasurement body s
  | .contactChange x aClosed bClosed coilOpen => Sys2Proof.Machine.execContactChange x aClosed bClosed coilOpen s
  | .supplySenseChange present => Sys2Proof.Machine.execSupplySenseChange present s
  | .trip l tag poles flags crew => Sys2Proof.Machine.execTrip l tag poles flags crew s
  | .close l tag poles crew => Sys2Proof.Machine.execClose l tag poles crew s
  | .closeCancel l tag => Sys2Proof.Machine.execCloseCancel l tag s
  | .clearMechFault l tag crew poles => Sys2Proof.Machine.execClearMechFault l tag crew poles s
  | .resetWear l tag crew poles => Sys2Proof.Machine.execResetWear l tag crew poles s
  | .historyRead l tag position => Sys2Proof.Machine.execHistoryRead l tag position s
  | .tagApply l tag kind poles crew note => Sys2Proof.Machine.execTagApply l tag kind poles crew note s
  | .tagRemove l tag number crew => Sys2Proof.Machine.execTagRemove l tag number crew s
  | .rosterPut l tag crew rights presence validUntil => Sys2Proof.Machine.execRosterPut l tag crew rights presence validUntil s
  | .rosterDrop l tag crew => Sys2Proof.Machine.execRosterDrop l tag crew s
  | .editBegin l tag target => Sys2Proof.Machine.execEditBegin l tag target s
  | .editPut l tag body => Sys2Proof.Machine.execEditPut l tag body s
  | .editCommit l tag => Sys2Proof.Machine.execEditCommit l tag s
  | .editDrop l tag => Sys2Proof.Machine.execEditDrop l tag s
  | .readPending l tag => Sys2Proof.Machine.execReadPending l tag s
  | .selectGroup l tag group => Sys2Proof.Machine.execSelectGroup l tag group s
  | .temporaryGroup l tag group seconds => Sys2Proof.Machine.execTemporaryGroup l tag group seconds s
  | .temporaryCancel l tag => Sys2Proof.Machine.execTemporaryCancel l tag s
  | .batteryTest l tag => Sys2Proof.Machine.execBatteryTest l tag s
  | .permitGrant l tag n => Sys2Proof.Machine.execPermitGrant l tag n s
  | .queuePoll l tag => Sys2Proof.Machine.execQueuePoll l tag s
  | .setTime l tag seconds millis => Sys2Proof.Machine.execSetTime l tag seconds millis s
  | .restart l tag crew => Sys2Proof.Machine.execRestart l tag crew s
  | .readPoles l tag => Sys2Proof.Machine.execReadPoles l tag s
  | .readSequence l tag part => Sys2Proof.Machine.execReadSequence l tag part s
  | .readTags l tag start => Sys2Proof.Machine.execReadTags l tag start s
  | .readRoster l tag start => Sys2Proof.Machine.execReadRoster l tag start s
  | .readGroup l tag group => Sys2Proof.Machine.execReadGroup l tag group s
  | .readUnit l tag => Sys2Proof.Machine.execReadUnit l tag s
  | .readOverrides l tag => Sys2Proof.Machine.execReadOverrides l tag s
  | .readReservations l tag => Sys2Proof.Machine.execReadReservations l tag s
  | .readBattery l tag => Sys2Proof.Machine.execReadBattery l tag s
  | .readTest l tag => Sys2Proof.Machine.execReadTest l tag s
  | .readQueue l tag start => Sys2Proof.Machine.execReadQueue l tag start s
  | .readTime l tag => Sys2Proof.Machine.execReadTime l tag s
  | .tripFire => Sys2Proof.Machine.execTripFire s
  | .closeStart => Sys2Proof.Machine.execCloseStart s
  | .tripWindowExpiry => Sys2Proof.Machine.execTripWindowExpiry s
  | .retryFire => Sys2Proof.Machine.execRetryFire s
  | .retryWindowExpiry => Sys2Proof.Machine.execRetryWindowExpiry s
  | .closeWindowExpiry => Sys2Proof.Machine.execCloseWindowExpiry s
  | .closeDelayExpiry => Sys2Proof.Machine.execCloseDelayExpiry s
  | .lossTimerExpiry => Sys2Proof.Machine.execLossTimerExpiry s
  | .deadTimerExpiry x => Sys2Proof.Machine.execDeadTimerExpiry x s
  | .reclaimTimerExpiry x => Sys2Proof.Machine.execReclaimTimerExpiry x s
  | .energyWaitLimit x => Sys2Proof.Machine.execEnergyWaitLimit x s
  | .openCountTick x => Sys2Proof.Machine.execOpenCountTick x s
  | .claimTimerExpiry => Sys2Proof.Machine.execClaimTimerExpiry s
  | .coldLoadExpiry => Sys2Proof.Machine.execColdLoadExpiry s
  | .temporaryExpiry => Sys2Proof.Machine.execTemporaryExpiry s
  | .rosterExpiry crew => Sys2Proof.Machine.execRosterExpiry crew s
  | .taperResync => Sys2Proof.Machine.execTaperResync s
  | .socPeriodicWrite => Sys2Proof.Machine.execSocPeriodicWrite s
  | .absorbTaperExpiry => Sys2Proof.Machine.execAbsorbTaperExpiry s
  | .absorbTimeExpiry => Sys2Proof.Machine.execAbsorbTimeExpiry s
  | .floatLowExpiry => Sys2Proof.Machine.execFloatLowExpiry s
  | .testStepComplete => Sys2Proof.Machine.execTestStepComplete s
  | .testSuspendLimit => Sys2Proof.Machine.execTestSuspendLimit s
  | .testResume => Sys2Proof.Machine.execTestResume s
  | .testIntervalHour => Sys2Proof.Machine.execTestIntervalHour s
  | .periodicTestBegin => Sys2Proof.Machine.execPeriodicTestBegin s
  | .exhaustionWaitExpiry => Sys2Proof.Machine.execExhaustionWaitExpiry s
  | .dormantEntry => Sys2Proof.Machine.execDormantEntry s
  | .permitCallRepeatExpiry => Sys2Proof.Machine.execPermitCallRepeatExpiry s
  | .statusIntervalExpiry => Sys2Proof.Machine.execStatusIntervalExpiry s
  | .reportSend => Sys2Proof.Machine.execReportSend s
  | .retainedWriteEnd item ok => Sys2Proof.Machine.execRetainedWriteEnd item ok s
  | .heldSettingsApply => Sys2Proof.Machine.execHeldSettingsApply s
  | .byteReceive l b => Sys2Proof.Machine.execByteReceive l b s
  | .powerLoss => Sys2Proof.Machine.execPowerLoss s

end Sys2Proof.Machine
end

