-- ==== Sys2Proof/WellFormed.lean ====
section
/-! DEFINITION. The well-formed commands: those whose operands a link or the input lines can carry (R179, R206). -/

namespace Sys2Proof

/-- Whether a crew number stands where a link's body carries one: on the crew link only, and 0 elsewhere (R206). -/
def crewOperand (l : Link) (crew : Half) : Bool := l == .CREW || crew == 0

/-- Whether a command is well formed: a body of at most 96 bytes (R179), an EDIT PUT of 2 to 96 and a note of at most 16
(R206), a crew number only where the link's layout has one (R206), and no image named twice at a start-up. -/
def Instr.wf : Instr → Bool
  | .powerUp _ bad => decide bad.Nodup
  | .restartSequenceBegin bad => decide bad.Nodup
  | .frameReceive _ _ _ body _ => decide (body.length ≤ 96)
  | .measurement body => decide (body.length ≤ 96)
  | .trip l _ _ _ crew => l == .CREW || crew.isNone
  | .close l _ _ crew => crewOperand l crew
  | .tagApply _ _ _ _ _ note => decide (note.length ≤ 16)
  | .tagRemove l _ _ crew => crewOperand l crew
  | .editPut _ _ body => decide (2 ≤ body.length) && decide (body.length ≤ 96)
  | .restart l _ crew => crewOperand l crew
  | _ => true

end Sys2Proof
end

