-- ==== Sys2Proof/Safety.lean ====
section
/-! DEFINITION. The words the statements are made of: how a command finds the part, the request a command is, a link on which
a request is passed at once, what it means that a request was answered, and the capacities of the tables. -/

namespace Sys2Proof.Machine

/-- The part as a command finds it: the steps that are due have been taken (assumption 1). -/
def State.found (s : State) : Part := settle s.part

/-- The request a command is on a link, with its tag; none for a command that is no request. -/
def asRequest : Instr → Option (Link × Byte × Request)
  | .trip l tag poles flags crew => some (l, tag, .trip poles flags crew)
  | .close l tag poles crew => some (l, tag, .close poles crew)
  | .closeCancel l tag => some (l, tag, .closeCancel)
  | .clearMechFault l tag crew poles => some (l, tag, .clearMechFault crew poles)
  | .resetWear l tag crew poles => some (l, tag, .resetWear crew poles)
  | .historyRead l tag position => some (l, tag, .historyRead position)
  | .tagApply l tag kind poles crew note => some (l, tag, .tagApply kind poles crew note)
  | .tagRemove l tag number crew => some (l, tag, .tagRemove number crew)
  | .rosterPut l tag crew rights presence v => some (l, tag, .rosterPut crew rights presence v)
  | .rosterDrop l tag crew => some (l, tag, .rosterDrop crew)
  | .editBegin l tag target => some (l, tag, .editBegin target)
  | .editPut l tag body => some (l, tag, .editPut body)
  | .editCommit l tag => some (l, tag, .editCommit)
  | .editDrop l tag => some (l, tag, .editDrop)
  | .readPending l tag => some (l, tag, .readPending)
  | .selectGroup l tag group => some (l, tag, .selectGroup group)
  | .temporaryGroup l tag group seconds => some (l, tag, .temporaryGroup group seconds)
  | .temporaryCancel l tag => some (l, tag, .temporaryCancel)
  | .batteryTest l tag => some (l, tag, .batteryTest)
  | .permitGrant l tag n => some (l, tag, .permitGrant n)
  | .queuePoll l tag => some (l, tag, .queuePoll)
  | .setTime l tag seconds millis => some (l, tag, .setTime seconds millis)
  | .restart l tag crew => some (l, tag, .restart crew)
  | .readPoles l tag => some (l, tag, .read 1 0)
  | .readSequence l tag part => some (l, tag, .read 2 part)
  | .readTags l tag start => some (l, tag, .read 3 start)
  | .readRoster l tag start => some (l, tag, .read 4 start)
  | .readGroup l tag group => some (l, tag, .read 5 group)
  | .readUnit l tag => some (l, tag, .read 6 0)
  | .readOverrides l tag => some (l, tag, .read 7 0)
  | .readReservations l tag => some (l, tag, .read 8 0)
  | .readBattery l tag => some (l, tag, .read 9 0)
  | .readTest l tag => some (l, tag, .read 10 0)
  | .readQueue l tag start => some (l, tag, .read 11 start)
  | .readTime l tag => some (l, tag, .read 12 0)
  | _ => none

/-- A link on which the next request is passed at once (R183): it is powered, none is under answer or waits, and no restart
has been taken. -/
def Part.free (p : Part) (l : Link) : Prop :=
  (p.li.get l).powered = true ∧ (p.li.get l).under = none ∧ (p.li.get l).waiting = [] ∧ p.restart = none

/-- A request that a command brings reaches its owner at once: the part has power, the body length is admitted, the link may
send it and is free, and neither DORMANT nor a LOCAL_CONTROL tag refuses it (R181 to R184). -/
def State.taken (s : State) (l : Link) (r : Request) : Prop :=
  s.part.on = true ∧ arrive.admitted r = true ∧ linkMay l r = true ∧ s.found.free l ∧ passRefusal l r s.found = none

/-- A link's outbound list holds, beyond what it held before, an answer to a request (R185). -/
def answered (l : Link) (r : Request) (tag : Byte) (code : AnswerCode) (content : List Byte) (p q : Part) : Prop :=
  ∃ before after, (q.li.get l).outbound =
    (p.li.get l).outbound ++ before ++ [.answer (answerKind r.kindByte) tag code content] ++ after

/-- A request of a link waits for its answer (R183, R185): it is under answer. -/
def awaits (l : Link) (r : Request) (tag : Byte) (q : Part) : Prop :=
  (q.li.get l).under = some ⟨r.kindByte, tag⟩

/-- A block of the part, or a flag of its own. -/
inductive Block
  | on | dc | eu | sq | pu | tu | nu | bc | ru | rs | li | tb | restart
  deriving DecidableEq, Repr

/-- Whether a block is the same in two parts. -/
def Block.same (p q : Part) : Block → Prop
  | .on => q.on = p.on
  | .dc => q.dc = p.dc
  | .eu => q.eu = p.eu
  | .sq => q.sq = p.sq
  | .pu => q.pu = p.pu
  | .tu => q.tu = p.tu
  | .nu => q.nu = p.nu
  | .bc => q.bc = p.bc
  | .ru => q.ru = p.ru
  | .rs => q.rs = p.rs
  | .li => q.li = p.li
  | .tb => q.tb = p.tb
  | .restart => q.restart = p.restart

/-- The blocks that the judgements at the end of every event may touch (R71, R72, R120, R126, R130, R148): the drive's entries
that a grant makes ready, quiescence and the pole mode, the reservation list, a running test, an alarm and its call. -/
def Block.watch : List Block := [.dc, .sq, .nu, .bc, .ru, .li]

/-- Every block but those of a list is the same in two parts: the frame of a command. -/
def sameExcept (bs : List Block) (p q : Part) : Prop := ∀ b, b ∉ bs → b.same p q

/-- Whether an image holds no more than its table may (R94, R99). -/
def Image.bounded : Image → Bool
  | .tags ts _ => decide (ts.length ≤ Config.tagMax)
  | .roster es => decide (es.length ≤ Config.rosterMax)
  | _ => true

/-- Whether an image in storage holds no more than its table may. -/
def Stored.bounded : Stored → Bool
  | .good i => i.bounded
  | _ => true

/-- Whether both images of a write record hold no more than their table may. -/
def WriteRec.bounded (w : WriteRec) : Bool := w.stored.bounded && (w.writing.map Image.bounded).getD true

/-- The capacities of the manual: 32 report records (R160), 16 permits (R168), 8 tags (R99), 16 roster entries (R94), 16
history entries (R22), 3 waiting requests a link (R178); and the same for the images of the tables. -/
def Part.bounded (p : Part) : Bool :=
  decide (p.ru.queue.length ≤ Config.queueMax) && decide (p.ru.permits ≤ Config.permitMax) &&
    decide (p.tu.tags.length ≤ Config.tagMax) && decide (p.tu.roster.length ≤ Config.rosterMax) &&
    decide (p.dc.history.length ≤ Config.historyMax) && decide (p.li.protection.waiting.length ≤ Config.waitingMax) &&
    decide (p.li.radio.waiting.length ≤ Config.waitingMax) && decide (p.li.crew.waiting.length ≤ Config.waitingMax) &&
    allItems.all fun i => (p.rs.get i).bounded

/-- Whether a link record is as R180 and R191 leave it: nothing collected and no gap timer in HUNTING, and a link without
power hunts, holds no request and no message. -/
def LinkRec.sane (r : LinkRec) : Bool :=
  (r.phase == .IN_FRAME || (r.frame.isEmpty && r.gap.isNone)) &&
    (r.powered || (r.phase == .HUNTING && r.waiting.isEmpty && r.outbound.isEmpty))

/-- The link records as R178 to R192 leave them: each sane, and the crew link powered. -/
def Part.linksSane (p : Part) : Bool := p.li.protection.sane && p.li.radio.sane && p.li.crew.sane && p.li.crew.powered

/-- Whether an operation in flight is as R9 to R13 leave it: a CLOSE stands in the close window and a TRIP in another, its
fire set is of its poles, and what has moved, showed CLOSED or must leave OPEN is of its fire set. -/
def Flight.sane (f : Flight) : Bool :=
  (f.op.kind == .CLOSE) == (f.phase == .CLOSE_WINDOW) && f.fire.subset f.op.poles && f.moved.subset f.fire &&
    f.closedAtFire.subset f.fire && f.mustLeave.subset f.fire

/-- Whether a pole's motion is that of the operation in flight (R1, R9 to R11): a fired pole is CLOSING under a CLOSE, and
TRIPPING under a TRIP until it has moved; any other pole has motion NONE. -/
def Drive.motionFits (d : Drive) (x : Pole) : Bool :=
  let m := (d.poles.get x).motion
  match d.flight with
  | none => m == .NONE
  | some f =>
    if f.fire.has x then
      match f.op.kind with
      | .CLOSE => m == .CLOSING
      | .TRIP => m == .TRIPPING || (m == .NONE && f.moved.has x)
    else m == .NONE

/-- The drive as chapter 1 leaves it: a TRIP alone in the trip pending set with its closing poles among its poles, a CLOSE in
each link entry, the operation in flight sane, and every motion that of the operation in flight. -/
def Part.driveSane (p : Part) : Bool :=
  (p.dc.trip.map fun t => t.op.kind == .TRIP && t.closing.subset t.op.poles).getD true &&
    (p.dc.crew.map fun e => e.op.kind == .CLOSE).getD true && (p.dc.radio.map fun e => e.op.kind == .CLOSE).getD true &&
    (p.dc.flight.map Flight.sane).getD true && PoleSet.full.all p.dc.motionFits

/-- A sequencer entry as R6, R53 and R65 leave it: none on a pole in DEAD or TRIP_WAIT, on one with the superseded mark, or on
one of a reclose in flight; and neither of the two last stands in DEAD. -/
def Part.entrySane (p : Part) (x : Pole) : Bool :=
  let s := (p.seq x).state
  let fired := (p.dc.flight.map fun f => f.op.kind == .CLOSE && f.op.cause == .RECLOSE && f.op.poles.has x).getD false
  let gone := (p.seq x).superseded || fired
  ((p.dc.seq.get x).isNone || (s != .DEAD && s != .TRIP_WAIT && !gone)) && (s != .DEAD || !gone)

/-- The close entries as chapters 1, 3 and 6 leave them: a link's entry is no reclose (R3), each sequencer entry is sane, and the
units of the waiting order are of poles whose entries wait, no pole in two of them (R125). -/
def Part.entriesSane (p : Part) : Bool :=
  (p.dc.crew.map fun e => e.op.cause != .RECLOSE).getD true && (p.dc.radio.map fun e => e.op.cause != .RECLOSE).getD true &&
    PoleSet.full.all p.entrySane &&
    (p.nu.waiting.all fun u => u.all fun x => p.dc.seq.get x == some .WAIT_ENERGY) &&
    decide (p.nu.waiting.Pairwise fun u v => u.overlaps v = false)

/-- Quiescence as R14, R71 and R72 leave it: no step of the end of an operation is left open, and in a part that has power the
quiescence of the Sequencer is that of the poles' states and of the drive, with no pole mode pending where it is quiescent. -/
def Part.quiescenceSane (p : Part) : Bool :=
  !p.dc.ending && (!p.on || (p.sq.quiescent == p.isQuiescent && (!p.sq.quiescent || p.sq.pendingMode.isNone)))

end Sys2Proof.Machine
end

