-- ==== Sys2Proof/Certificates/Slice0/Obligations.lean ====
section
/-! DEFINITION. The statements for the provers. `s.found` is the part as a command finds it: the steps that were due have been
taken (assumption 1). -/

open Sys2Proof Sys2Proof.Machine

/-! ### The queue and the step -/

/-- A step runs the command at the front of the queue on the state with the queue's rest. -/
def Obligations.StepRunsFrontCommand : Prop :=
  ∀ (c : Instr) (rest : List Instr) (s : State),
    s.pending = c :: rest → step s = exec c { s with pending := rest }

/-- A step on an empty queue (the model's choice, assumption 2): a part without power stays as it is, a part with steps due
takes them, and otherwise a millisecond passes, in which the time base goes on by one before any expiry is taken. -/
def Obligations.StepWithoutCommand : Prop :=
  ∀ s : State, s.pending = [] →
    (s.part.on = false → step s = .next s) ∧
    (s.part.on = true → (nextInternal s.part).isSome = true → step s = .next { s with part := settle s.part }) ∧
    (s.part.on = true → nextInternal s.part = none →
      step s = .next { s with part := applyAll expire expiryOrder (advanceTimers s.part) }) ∧
    (advanceTimers s.part).tb = s.part.tb.tick

/-- Every command answers a next state and leaves the queue as it was: the model's choice (assumption 28). A part without power
takes nothing but a power-up: the model's reading (assumption 6). -/
def Obligations.EveryCommandAnswers : Prop :=
  ∀ (c : Instr) (s : State), (∃ t, exec c s = .next t ∧ t.pending = s.pending) ∧
    (s.part.on = false → (∀ lines bad, c ≠ .powerUp lines bad) → exec c s = .next s)

/-! ### Reset, power and restart -/

/-- The state after reset: a new part after its first power-up (R45, R76, R112, R116, R156, R178, R200; the input lines are
the model's choice, assumption 4). -/
def Obligations.ResetValues : Prop :=
  State.reset.pending = [] ∧ State.reset.part.on = true ∧ State.reset.part.tb = ⟨0, 0, false⟩ ∧
    State.reset.part.dc.nextOp = 0 ∧ State.reset.part.dc.history = [] ∧ State.reset.part.dc.flight = none ∧
    (∀ x, State.reset.part.position x = .CLOSED ∧ (State.reset.part.seq x).state = .CLOSED_IDLE ∧
      (State.reset.part.seq x).shot = 0) ∧
    State.reset.part.pu.groups = ⟨defaultGroup, defaultGroup, defaultGroup, defaultGroup⟩ ∧
    State.reset.part.pu.unit = defaultUnit ∧ State.reset.part.pu.selected = 1 ∧ State.reset.part.tu = ⟨[], [], 1⟩ ∧
    State.reset.part.eu.state = .WAITING ∧ State.reset.part.eu.latest = none ∧
    State.reset.part.nu.level = none ∧ State.reset.part.nu.tripReserve = 24 ∧
    State.reset.part.bc.health = .UNTESTED ∧ State.reset.part.bc.soc = 10000 ∧ State.reset.part.bc.level = .NORMAL ∧
    State.reset.part.ru.permits = 0 ∧ State.reset.part.li.crew = startLink

/-- POWER_UP (R1, R45, R76, R112, R156, R178, R197, R200): time, history and links at their start values, positions from the
lines, and every retained item from its image, or its start value where the image is absent or bad; such an item has its
fault flag set and is being written. `img` is an image as the power-up finds it (assumption 6). -/
def Obligations.PowerUpRestoresImages : Prop :=
  ∀ (lines : Lines) (bad : List Item) (s : State),
    let img := fun i => if i ∈ bad then ((s.part.rs.get i).image).spoil else (s.part.rs.get i).image
    ∃ t, exec (.powerUp lines bad) s = .next t ∧ t.part.on = true ∧ t.part.tb = ⟨0, 0, false⟩ ∧ t.part.restart = none ∧
      t.part.dc.history = [] ∧ t.part.li.protection = startLink ∧ t.part.li.crew = startLink ∧
      (∀ x, t.part.position x = positionOf (linePair lines x).aClosed (linePair lines x).bClosed ∧
        (t.part.dc.poles.get x).wear = ((wearFrom (img .WEAR)).get x).1 ∧
        (t.part.dc.poles.get x).count = ((wearFrom (img .WEAR)).get x).2 ∧ (t.part.seq x).shot = 0 ∧
        (t.part.position x = .CLOSED → (t.part.seq x).state = .CLOSED_IDLE ∧ (t.part.seq x).lockout = none) ∧
        (t.part.position x ≠ .CLOSED → (t.part.seq x).state = .LOCKOUT ∧
          (t.part.seq x).lockout = some (((lockoutFrom (img .LOCKOUT)).get x).getD .START))) ∧
      t.part.pu.groups = ⟨groupFrom (img .GROUP1), groupFrom (img .GROUP2), groupFrom (img .GROUP3),
        groupFrom (img .GROUP4)⟩ ∧
      t.part.pu.unit = unitFrom (img .UNIT) ∧ t.part.pu.selected = selectedFrom (img .SELECTED) ∧
      t.part.tu.tags = (tagsFrom (img .TAGS)).1 ∧ t.part.tu.nextTag = (tagsFrom (img .TAGS)).2 ∧
      t.part.tu.roster = withPlaceholders (tagsFrom (img .TAGS)).1 (rosterFrom (img .ROSTER)) ∧
      t.part.bc.health = healthFrom (img .HEALTH) ∧ t.part.bc.hours = hoursFrom (img .HOURS) ∧
      t.part.bc.capacity = (unitFrom (img .UNIT)).capacity ∧
      t.part.bc.soc = socFrom (unitFrom (img .UNIT)).capacity (img .SOC) ∧
      t.part.eu.state = .WAITING ∧ t.part.bc.partState = .RUN ∧
      ∀ i, (t.part.rs.get i).fault = ((img i).reason).isSome ∧
        (((img i).reason).isSome = true → (t.part.rs.get i).writing = some (imageOf t.part i))

/-- POWER_LOSS (R197): a write in progress completes and its image is whole; a further write is not made, and no answer
waits. -/
def Obligations.PowerLossKeepsImages : Prop :=
  ∀ s : State, s.part.on = true →
    ∃ t, exec .powerLoss s = .next t ∧ t.part.on = false ∧
      ∀ i, (t.part.rs.get i).writing = none ∧ (t.part.rs.get i).dirty = false ∧ (t.part.rs.get i).waiting = [] ∧
        ∀ image, (s.found.rs.get i).writing = some image → (t.part.rs.get i).stored = .good image

/-- RESTART_SEQUENCE_BEGIN once it is due (R193, R197, R198, R200): the time, the history and the links of the other masters
are kept, what is not retained starts afresh, and the UNIT record is taken from its image, or its default where the restart
finds the image bad (assumption 6). -/
def Obligations.RestartKeepsTimeAndHistory : Prop :=
  ∀ (bad : List Item) (s : State), s.part.on = true → s.part.restartDue = true →
    ∃ t, exec (.restartSequenceBegin bad) s = .next t ∧ t.part.restart = none ∧ t.part.tb = s.part.tb ∧
      t.part.dc.history = s.part.dc.history ∧ t.part.li.crew = s.part.li.crew ∧
      t.part.li.protection = s.part.li.protection ∧
      t.part.pu.unit = (if .UNIT ∈ bad then defaultUnit else unitFrom s.part.rs.unit.stored) ∧
      t.part.pu.claim = none ∧ t.part.pu.temporary = none ∧ t.part.dc.crew = none ∧ t.part.dc.radio = none ∧
      t.part.eu.state = .WAITING ∧ t.part.bc.test = idleTest

/-- RESTART on a free link (R198): refused on the crew check or while the drive or the store works; taken otherwise, with
every link close entry that holds a pole, held commit, held selection and open test ended. -/
def Obligations.RestartIsTaken : Prop :=
  ∀ (l : Link) (tag : Byte) (crew : Half) (s : State), s.taken l (.restart crew) →
    ∃ t, exec (.restart l tag crew) s = .next t ∧
      sameExcept (.restart :: .pu :: Block.watch) s.found t.part ∧
      (∀ c, restartRefusal l crew.toNat s.found = some c →
        answered l (.restart crew) tag c [] s.found t.part ∧ t.part.restart = none) ∧
      (restartRefusal l crew.toNat s.found = none →
        answered l (.restart crew) tag .DONE [] s.found t.part ∧ t.part.restart = some l ∧
          ((LinkClose.poles s.found.dc.crew).isEmpty = false → t.part.dc.crew = none) ∧
          ((LinkClose.poles s.found.dc.radio).isEmpty = false → t.part.dc.radio = none) ∧ t.part.pu.held = none ∧ t.part.pu.heldCommit = none ∧
          t.part.bc.testOpen = false)

/-! ### The links -/

/-- FRAME_RECEIVE (R180, R181): on a powered link a frame whose check disagrees is discarded, and any other is sorted. The model's
own readings: a link without power takes no frame (assumption 22); on a link that may not send a kind, the lengths of its
row are admitted (assumption 23); an unknown READ item is answered RANGE, with the item and the number, as it is sorted
(assumption 24); and an empty READ body, which R189 answers RANGE, is answered MALFORMED with no content (assumption 54). -/
def Obligations.FramesAreSorted : Prop :=
  ∀ (l : Link) (kind tag : Byte) (body : List Byte) (check : Half) (s : State), s.part.on = true →
    let p := { s.found with li := s.found.li.set l (s.found.li.get l).hunt }
    let ends := fun q => exec (.frameReceive l kind tag body check) s = .next { s with part := q }
    ((s.found.li.get l).powered = false → ends s.found) ∧
    ((s.found.li.get l).powered = true → check ≠ frameCheck kind tag body → ends p) ∧
    ((s.found.li.get l).powered = true → check = frameCheck kind tag body → body.length ≤ 96 →
      (kind = 1 → l = .PROTECTION → ends (endEvent p (takeMeasurement body p))) ∧
      (kind = 1 → l ≠ .PROTECTION → ends (send l (.answer (answerKind kind) tag .NOT_PERMITTED []) p)) ∧
      (kind ≠ 1 → isRequestKind kind = false → ends (send l (.answer 0xFF tag .MALFORMED []) p)) ∧
      (isRequestKind kind = true → requestOf l kind body = none →
        ends (send l (.answer (answerKind kind) tag .MALFORMED []) p)) ∧
      (isRequestKind kind = true → ∀ r, requestOf l kind body = some r →
        (∀ i n, r = .read i n → readItemKnown i = false → ends (answer l tag r .RANGE [i, n] p)) ∧
        ((∀ i n, r = .read i n → readItemKnown i = true) → linkMay l r = false →
          ends (answer l tag r .NOT_PERMITTED [] p)) ∧
        ((∀ i n, r = .read i n → readItemKnown i = true) → linkMay l r = true →
          ends (takeRequest l ⟨tag, r⟩ p))))

/-- BYTE_RECEIVE, byte for byte (R180, R203): on a powered link in HUNTING, the bytes of a frame taken one after another do
what the whole frame does, whatever its body of at most 96 bytes and whatever its check. -/
def Obligations.BytesCollectToFrame : Prop :=
  ∀ (l : Link) (kind tag : Byte) (body : List Byte) (check : Half) (p : Part), (p.li.get l).powered = true →
    (p.li.get l).phase = .HUNTING → body.length ≤ 96 →
    applyAll (byteReceive l) (frameBytes kind tag body check) p = frameReceive l kind tag body check p

/-- A well-formed request, laid out in its frame (R203 to R206) and taken byte by byte on a powered link in HUNTING with
nothing collected, arrives as that request with every operand as it was sent. -/
def Obligations.RequestFramesReadBack : Prop :=
  ∀ (c : Instr) (l : Link) (tag : Byte) (r : Request) (p : Part), c.wf = true → asRequest c = some (l, tag, r) →
    (p.li.get l).powered = true → (p.li.get l).phase = .HUNTING → (p.li.get l).frame = [] → (p.li.get l).gap = none →
    applyAll (byteReceive l)
      (frameBytes r.kindByte tag (requestBody l r) (frameCheck r.kindByte tag (requestBody l r))) p = arrive l tag r p

/-- BYTE_RECEIVE and GAP_TIMER_EXPIRY (R180): without power a byte changes nothing; in HUNTING the start byte begins a frame
with the gap timer at 5 ms and any other byte is ignored; a length byte above 96 discards the frame, and the link hunts
again; at the expiry the frame collected so far is discarded and the link hunts again. Nothing else changes. -/
def Obligations.HuntingAndGap : Prop :=
  ∀ (l : Link) (s : State), s.part.on = true →
    let r := s.found.li.get l
    let ends := fun (c : Instr) (q : LinkRec) =>
      exec c s = .next { s with part := { s.found with li := s.found.li.set l q } }
    (∀ b, r.powered = false → ends (.byteReceive l b) r) ∧
    (∀ b, r.powered = true → r.phase = .HUNTING → b ≠ 0xC3 → ends (.byteReceive l b) r) ∧
    (r.powered = true → r.phase = .HUNTING →
      ends (.byteReceive l 0xC3) { r with phase := .IN_FRAME, frame := [], gap := some 5 }) ∧
    (∀ b kind tag, r.powered = true → r.phase = .IN_FRAME → r.frame = [kind, tag] → 96 < b.toNat →
      ends (.byteReceive l b) { r with phase := .HUNTING, frame := [], gap := none }) ∧
    (r.gap.isSome = true → ends (.gapTimerExpiry l) { r with phase := .HUNTING, frame := [], gap := none }) ∧
    (r.gap = none → ends (.gapTimerExpiry l) r)

/-- MESSAGE_LEFT (R167, R186): the first message leaves the list, the others keep their order, and after a REPORT the sender
is IDLE. -/
def Obligations.MessageLeavesInOrder : Prop :=
  ∀ (l : Link) (m : Message) (ms : List Message) (s : State), s.part.on = true →
    (s.found.li.get l).outbound = m :: ms →
    ∃ t, exec (.messageLeft l) s = .next t ∧ (∃ later, (t.part.li.get l).outbound = ms ++ later) ∧
      (∀ r, m = .report r → t.part.ru.sending = false) ∧ sameExcept Block.watch s.found t.part ∧ t.part.pu = s.found.pu ∧
      t.part.rs = s.found.rs

/-- What a link does with a request that arrives (R182, R183, R209): a kind the link may not send is refused, a full waiting list
answers BUSY, with the item and the number of a READ after the code, a link at work lets it wait, and a free link passes it to its
owner. Every request row is meant. -/
def Obligations.RequestsAreTakenInOrder : Prop :=
  ∀ (c : Instr) (l : Link) (tag : Byte) (r : Request) (s : State), asRequest c = some (l, tag, r) → s.part.on = true →
    (s.found.li.get l).powered = true → arrive.admitted r = true →
    let w := (s.found.li.get l).waiting
    let named : List Byte := match r with
      | .read item number => [item, number]
      | _ => []
    (linkMay l r = false → exec c s = .next { s with part := answer l tag r .NOT_PERMITTED [] s.found }) ∧
    (linkMay l r = true → 3 ≤ w.length → exec c s = .next { s with part := answer l tag r .BUSY named s.found }) ∧
    (linkMay l r = true → w.length < 3 → ¬ s.found.free l →
      exec c s = .next { s with part := { s.found with
        li := s.found.li.set l { s.found.li.get l with waiting := w ++ [⟨tag, r⟩] } } }) ∧
    (linkMay l r = true → s.found.free l → passRefusal l r s.found = none →
      exec c s = .next { s with part := passToOwner l ⟨tag, r⟩ s.found })

/-- The two restrictions at passing (R109, R184): a crew request other than READ and HISTORY READ is answered DORMANT in
DORMANT, and a radio request not admitted under a LOCAL_CONTROL tag is answered NOT_PERMITTED; nothing else changes. -/
def Obligations.RestrictionsAtPassing : Prop :=
  ∀ (c : Instr) (l : Link) (tag : Byte) (r : Request) (s : State), asRequest c = some (l, tag, r) → s.part.on = true →
    arrive.admitted r = true → linkMay l r = true → s.found.free l →
    (l = .CREW → s.found.bc.partState = .DORMANT → (∀ i n, r ≠ .read i n) → (∀ n, r ≠ .historyRead n) →
      exec c s = .next { s with part := answer l tag r .DORMANT [] s.found }) ∧
    (l = .RADIO → (∃ g ∈ s.found.tu.tags, g.kind = .LOCAL_CONTROL) → underLocalControl r = false →
      exec c s = .next { s with part := answer l tag r .NOT_PERMITTED [] s.found })

/-! ### Reads -/

/-- The READ items (R43, R73, R93, R115, R133, R157, R172, R189, R202) on a free link: each is answered DONE with the item, its
number and its owner's records as they stand, or RANGE where the number is out of range, and nothing else changes but the
claim timer of R89. -/
def Obligations.ReadsAnswer : Prop :=
  ∀ (l : Link) (tag n : Byte) (s : State), s.part.on = true → s.found.free l →
    let ends := fun (code : AnswerCode) (content : List Byte) => (Host.Outcome.next
      { s with part := send l (.answer 0xC5 tag code content) (loadClaimTimer l s.found) } : Answer)
    exec (.readPoles l tag) s = ends .DONE (1 :: 0 :: readPolesContent s.found) ∧
    exec (.readUnit l tag) s = ends .DONE (6 :: 0 :: unitBytes s.found.pu.unit) ∧
    exec (.readOverrides l tag) s = ends .DONE (7 :: 0 :: readOverridesContent s.found) ∧
    exec (.readReservations l tag) s = ends .DONE (8 :: 0 :: readReservationsContent s.found) ∧
    exec (.readBattery l tag) s = ends .DONE (9 :: 0 :: readBatteryContent s.found) ∧
    exec (.readTest l tag) s = ends .DONE (10 :: 0 :: readTestContent s.found) ∧
    exec (.readTime l tag) s = ends .DONE (12 :: 0 :: stampBytes s.found.tb) ∧
    (∀ c, readSequenceContent n.toNat s.found = some c → exec (.readSequence l tag n) s = ends .DONE (2 :: n :: c)) ∧
    (1 < n.toNat → exec (.readSequence l tag n) s = ends .RANGE [2, n]) ∧
    (∀ c, readTagsContent n.toNat s.found = some c → exec (.readTags l tag n) s = ends .DONE (3 :: n :: c)) ∧
    (7 < n.toNat → exec (.readTags l tag n) s = ends .RANGE [3, n]) ∧
    (∀ c, readRosterContent n.toNat s.found = some c → exec (.readRoster l tag n) s = ends .DONE (4 :: n :: c)) ∧
    (15 < n.toNat → exec (.readRoster l tag n) s = ends .RANGE [4, n]) ∧
    (1 ≤ n.toNat → n.toNat ≤ 4 →
      exec (.readGroup l tag n) s = ends .DONE (5 :: n :: groupBytes (s.found.pu.groups.get n.toNat))) ∧
    (n.toNat = 0 ∨ 4 < n.toNat → exec (.readGroup l tag n) s = ends .RANGE [5, n]) ∧
    (∀ c, readQueueContent n.toNat s.found = some c → exec (.readQueue l tag n) s = ends .DONE (11 :: n :: c)) ∧
    (31 < n.toNat → exec (.readQueue l tag n) s = ends .RANGE [11, n])

/-- The READ TAGS answer carries each tag record in the layout of R211, in table order, from the start position, up to three
of them (R115, R212). -/
def Obligations.TagRecordLayout : Prop :=
  (∀ t : Tag, tagBytes t = [byte t.number, byte t.kind.code, byte t.poles.toNat] ++ two t.crew ++
      [byte (originCode t.byCrew)] ++ stampBytes t.applied ++ byte t.note.length :: t.note) ∧
  (∀ t : Tag, t.note.length ≤ 16 → 13 ≤ (tagBytes t).length ∧ (tagBytes t).length ≤ 29) ∧
  (∀ (n : Nat) (p : Part), n ≤ 7 → ∃ head, (readTagsContent n p) =
    some (head ++ ((p.tu.tags.drop n).take 3).flatMap tagBytes))

/-- HISTORY READ and READ PENDING on a free link that may send them (R22, R93): the entries at a position of 0 to 15 and up to
three older ones, newest first, and RANGE above 15; NOT_FOUND without a claim, and otherwise the claim and its pending set.
Nothing else changes but the claim timer of R89. -/
def Obligations.HistoryAndPendingAnswer : Prop :=
  ∀ (l : Link) (tag n : Byte) (s : State), s.part.on = true → s.found.free l →
    let p := loadClaimTimer l s.found
    let ends := fun (c : Instr) (kind : Byte) (code : AnswerCode) (content : List Byte) =>
      exec c s = .next { s with part := send l (.answer kind tag code content) p }
    (n.toNat ≤ 15 → ends (.historyRead l tag n) 0x95 .DONE
      (byte ((s.found.dc.history.drop n.toNat).take 4).length ::
        ((s.found.dc.history.drop n.toNat).take 4).flatMap historyBytes)) ∧
    (15 < n.toNat → ends (.historyRead l tag n) 0x95 .RANGE []) ∧
    (passRefusal l .readPending s.found = none → l ≠ .CREW →
      (s.found.pu.claim = none → ends (.readPending l tag) 0xB4 .NOT_FOUND []) ∧
      (∀ c, p.pu.claim = some c → ends (.readPending l tag) 0xB4 .DONE (pendingContent c)))

/-- QUEUE POLL on a free radio link, a LOCAL_CONTROL tag in force or not (R171): the highest class among the sendable records
or 0 for none, the number of records of each class, and the permit count; nothing else changes but the claim timer of
R89. -/
def Obligations.QueuePollAnswers : Prop :=
  ∀ (tag : Byte) (s : State), s.part.on = true → s.found.free .RADIO →
    ∃ highest : Byte,
      let content := highest :: (classCounts s.found.ru.queue).map byte ++ [byte s.found.ru.permits]
      exec (.queuePoll .RADIO tag) s =
        .next { s with part := send .RADIO (.answer 0xC2 tag .DONE content) (loadClaimTimer .RADIO s.found) } ∧
      ((∀ r ∈ s.found.ru.queue, s.found.ru.sendable r = false) → highest = 0) ∧
      (∀ r ∈ s.found.ru.queue, s.found.ru.sendable r = true → highest ≠ 0 ∧ highest.toNat ≤ r.kind.cls.code) ∧
      (highest ≠ 0 → ∃ r ∈ s.found.ru.queue, s.found.ru.sendable r = true ∧ r.kind.cls.code = highest.toNat)

/-! ### Requests to the drive -/

/-- A link TRIP taken in RUN (R4, R16): every named pole that shows CLOSED or UNKNOWN and is not being tripped already is in
the trip pending set, the link close entries it touches end, and the answer is STARTED; where every named pole shows OPEN and
nothing is in flight it is DONE; an empty set is refused RANGE. -/
def Obligations.LinkTripMerges : Prop :=
  ∀ (l : Link) (tag poles flags : Byte) (crew : Option Half) (s : State), s.taken l (.trip poles flags crew) →
    s.found.bc.partState = .RUN →
    ∃ t, exec (.trip l tag poles flags crew) s = .next t ∧ sameExcept (.pu :: .rs :: Block.watch) s.found t.part ∧
      (PoleSet.ofByteNonempty poles = none →
        answered l (.trip poles flags crew) tag .RANGE [] s.found t.part ∧ t.part.dc.trip = s.found.dc.trip) ∧
      (∀ ns, PoleSet.ofByteNonempty poles = some ns →
        (∀ x, ns.has x = true → s.found.position x ≠ .OPEN → s.found.dc.tripping.has x = false →
          t.part.dc.pendingPoles.has x = true ∧ answered l (.trip poles flags crew) tag .STARTED [] s.found t.part) ∧
        ((∀ x, ns.has x = true → s.found.position x = .OPEN) → s.found.dc.flight = none →
          answered l (.trip poles flags crew) tag .DONE [] s.found t.part) ∧
        ((LinkClose.poles s.found.dc.crew).overlaps ns = true → t.part.dc.crew = none) ∧
        ((LinkClose.poles s.found.dc.radio).overlaps ns = true → t.part.dc.radio = none))

/-- A link TRIP taken in RUN while the drive is free (R3, R4, R49): a command trip with nothing pending makes a record with the
next operation number, the named poles that do not show OPEN, and one requester entry with the link's tag; under a
protection-link TRIP with the sequence flag, every named pole in CLOSED_IDLE, TIMING or RECLAIM goes to TRIP_WAIT with its
reclaim timer stopped and its shot kept, and a named pole in DEAD with its timer running is left as it is, in a gang or not. -/
def Obligations.TripAtFreeDrive : Prop :=
  ∀ (l : Link) (tag poles flags : Byte) (crew : Option Half) (s : State) (ns : PoleSet),
    s.taken l (.trip poles flags crew) → s.found.bc.partState = .RUN → PoleSet.ofByteNonempty poles = some ns →
    s.found.dc.flight = none →
    ∃ t, exec (.trip l tag poles flags crew) s = .next t ∧ t.part.dc.poles = s.found.dc.poles ∧ t.part.bc.soc = s.found.bc.soc ∧
      t.part.pu = { s.found.pu with claim := t.part.pu.claim } ∧ sameExcept (.pu :: .rs :: Block.watch) s.found t.part ∧
      (¬ (l = .PROTECTION ∧ flags.getLsbD 0 = true) → s.found.dc.trip = none →
        (ns.inter s.found.notOpen).isEmpty = false →
        t.part.dc.trip = some ⟨⟨s.found.dc.nextOp, .TRIP, ns.inter s.found.notOpen, .COMMAND,
          [⟨requesterOf l, .COMMAND, ns, some tag⟩], .PENDING, none⟩, .empty⟩ ∧
        t.part.dc.nextOp = wrapNext s.found.dc.nextOp) ∧
      (l = .PROTECTION → flags.getLsbD 0 = true → ∀ x, ns.has x = true →
        (s.found.seq x).state = .CLOSED_IDLE ∨ (s.found.seq x).state = .TIMING ∨ (s.found.seq x).state = .RECLAIM →
        (t.part.seq x).state = .TRIP_WAIT ∧ (t.part.seq x).reclaim = .stopped ∧
          (t.part.seq x).shot = (s.found.seq x).shot) ∧
      (l = .PROTECTION → flags.getLsbD 0 = true → ∀ x, ns.has x = true → (s.found.seq x).state = .DEAD →
        (s.found.seq x).deadTimer.isSome = true → t.part.seq x = s.found.seq x)

/-- A CLOSE taken on the crew or the radio link (R3, R5, R15, R121): the entry over the poles that do not show CLOSED with the
next operation number and the poles asked for in its requester entry, DELAYED where the crew's close delay is above 0, its
reservation of 14 BU a pole, and the answer STARTED. -/
def Obligations.CloseIsTaken : Prop :=
  ∀ (l : Link) (tag poles : Byte) (crew : Half) (s : State) (asked : PoleSet), s.taken l (.close poles crew) →
    PoleSet.ofByteNonempty poles = some asked →
    (l = .CREW → s.found.tu.crewRefusal crew.toNat .LOCAL_OPERATE = none) → linkHasClose l s.found.dc = false →
    let set := asked.diff s.found.showsClosed
    set.isEmpty = false → closeRefusal set s.found = none →
    let delayed := l = .CREW ∧ 0 < s.found.pu.unit.closeDelayS
    let entry : LinkClose := ⟨⟨s.found.dc.nextOp, .CLOSE, set, .MANUAL_CLOSE,
      [⟨requesterOf l, .MANUAL_CLOSE, asked, some tag⟩], if delayed then .DELAYED else .PENDING, none⟩,
      if delayed then some (s.found.pu.unit.closeDelayS * 1000) else none⟩
    ∃ t, exec (.close l tag poles crew) s = .next t ∧
      (l = .CREW → t.part.dc.crew = some entry ∧ ⟨.CREW, 14 * set.count⟩ ∈ t.part.nu.closes) ∧
      (l = .RADIO → t.part.dc.radio = some entry ∧ ⟨.RADIO, 14 * set.count⟩ ∈ t.part.nu.closes) ∧
      t.part.dc.nextOp = wrapNext s.found.dc.nextOp ∧ answered l (.close poles crew) tag .STARTED [] s.found t.part ∧
      t.part.dc.poles = s.found.dc.poles ∧ t.part.dc.flight = s.found.dc.flight ∧ sameExcept (.pu :: .rs :: Block.watch) s.found t.part

/-- A CLOSE that a check of R5 refuses: RANGE for an empty set, the crew check, BUSY, DONE with no pole left, and then the
checks over the remaining poles in order; TAGGED comes before BLIND and BLIND before NO_ENERGY. No entry is made and no
number is used. -/
def Obligations.CloseIsRefused : Prop :=
  ∀ (l : Link) (tag poles : Byte) (crew : Half) (s : State), s.taken l (.close poles crew) →
    ∃ t, exec (.close l tag poles crew) s = .next t ∧
      let gives := fun c => answered l (.close poles crew) tag c [] s.found t.part ∧
        t.part.dc.nextOp = s.found.dc.nextOp ∧ t.part.dc.crew = s.found.dc.crew ∧
        t.part.dc.radio = s.found.dc.radio ∧ t.part.dc.poles = s.found.dc.poles ∧
        sameExcept (.pu :: Block.watch) s.found t.part
      (PoleSet.ofByteNonempty poles = none → gives .RANGE) ∧
      (∀ asked, PoleSet.ofByteNonempty poles = some asked →
        (∀ c, l = .CREW → s.found.tu.crewRefusal crew.toNat .LOCAL_OPERATE = some c → gives c) ∧
        ((l = .CREW → s.found.tu.crewRefusal crew.toNat .LOCAL_OPERATE = none) →
          (linkHasClose l s.found.dc = true → gives .BUSY) ∧
          (linkHasClose l s.found.dc = false →
            let set := asked.diff s.found.showsClosed
            (set.isEmpty = true → gives .DONE) ∧
            (set.isEmpty = false →
              (set.any s.found.closeBad = true → gives .BAD_STATE) ∧
              (set.any s.found.closeBad = false →
                (set.overlaps (s.found.dc.listed.union s.found.dc.firing) = true → gives .BUSY) ∧
                (set.overlaps (s.found.dc.listed.union s.found.dc.firing) = false →
                  ((∃ x, set.has x = true ∧ s.found.tu.closeForbidden x = true) → gives .TAGGED) ∧
                  ((∀ x, set.has x = true → s.found.tu.closeForbidden x = false) →
                    (s.found.eu.state ≠ .OK → gives .BLIND) ∧
                    (s.found.eu.state = .OK → s.found.closeFits set = false → gives .NO_ENERGY))))))))

/-- CLOSE_DELAY_EXPIRY, and CLOSE CANCEL on a free crew link (R15): when the delay expires the entry is PENDING with its timer
stopped; under a cancel an entry DELAYED or PENDING ends CANCELLED with its reservation released, its END message sent and the answer DONE;
without an entry the answer is BAD_STATE for a close in flight and NOT_FOUND otherwise. That the END message goes before the
answer DONE is the model's choice (assumption 46). -/
def Obligations.CloseDelayAndCancel : Prop :=
  (∀ (s : State) (e : LinkClose) (d : Nat), s.part.on = true → s.found.dc.crew = some e → e.delay = some d →
    ∃ t, exec .closeDelayExpiry s = .next t ∧ t.part.dc.crew = some ⟨{ e.op with state := .PENDING }, none⟩ ∧
      t.part.dc.radio = s.found.dc.radio ∧ t.part.dc.poles = s.found.dc.poles ∧ t.part.dc.flight = s.found.dc.flight ∧
      t.part.dc.trip = s.found.dc.trip ∧ sameExcept Block.watch s.found t.part) ∧
  ∀ (tag : Byte) (s : State), s.taken .CREW .closeCancel →
    ∃ t, exec (.closeCancel .CREW tag) s = .next t ∧ t.part.dc.crew = none ∧
      t.part.dc.radio = s.found.dc.radio ∧ t.part.dc.poles = s.found.dc.poles ∧ sameExcept (.pu :: Block.watch) s.found t.part ∧
      (∀ e tg c ps, s.found.dc.crew = some e → e.op.requesters = [⟨.CREW_LINK, c, ps, some tg⟩] →
        (∀ r ∈ t.part.nu.closes, r.entry ≠ .CREW) ∧
        ∃ after, (t.part.li.crew).outbound = s.found.li.crew.outbound ++
          [.endMsg tg (.operation .CANCELLED e.op.number), .answer 0x92 tag .DONE []] ++ after) ∧
      (s.found.dc.crew = none → linkHasClose .CREW s.found.dc = true →
        answered .CREW .closeCancel tag .BAD_STATE [] s.found t.part) ∧
      (s.found.dc.crew = none → linkHasClose .CREW s.found.dc = false →
        answered .CREW .closeCancel tag .NOT_FOUND [] s.found t.part)

/-- CLEAR MECH FAULT on a free crew link (R19): with every check passed, MECH_FAIL and HANDLE are clear on the named poles and
the answer is DONE; the other poles, every other field of a pole's record, and the sequence records are as they were. A refusal changes no pole. -/
def Obligations.ClearMechFaultClears : Prop :=
  ∀ (tag : Byte) (crew : Half) (poles : Byte) (s : State), s.taken .CREW (.clearMechFault crew poles) →
    ∃ t, exec (.clearMechFault .CREW tag crew poles) s = .next t ∧
      sameExcept (.pu :: Block.watch) s.found t.part ∧ t.part.sq.recs = s.found.sq.recs ∧
      let gives := fun c => answered .CREW (.clearMechFault crew poles) tag c [] s.found t.part
      (PoleSet.ofByteNonempty poles = none → gives .RANGE ∧ t.part.dc.poles = s.found.dc.poles) ∧
      (∀ ns, PoleSet.ofByteNonempty poles = some ns →
        (∀ c, s.found.tu.crewRefusal crew.toNat .SUPERVISE = some c → gives c ∧ t.part.dc.poles = s.found.dc.poles) ∧
        (s.found.tu.crewRefusal crew.toNat .SUPERVISE = none →
          (ns.overlaps s.found.dc.firing = true → gives .BUSY ∧ t.part.dc.poles = s.found.dc.poles) ∧
          (ns.overlaps s.found.dc.firing = false →
            ((∃ x, ns.has x = true ∧ s.found.position x = .UNKNOWN) →
              gives .BAD_STATE ∧ t.part.dc.poles = s.found.dc.poles) ∧
            ((∀ x, ns.has x = true → s.found.position x ≠ .UNKNOWN) →
              gives .DONE ∧ ∀ x, t.part.dc.poles.get x =
                if ns.has x then { s.found.dc.poles.get x with mechFail := none, handle := false }
                else s.found.dc.poles.get x))))

/-- RESET WEAR taken on a free crew link (R21): the wear of the named poles is 0 and the wear image is handed to the store;
the answer waits there for the write that covers the change, and the request stays under answer. -/
def Obligations.ResetWearWaitsForWrite : Prop :=
  ∀ (tag : Byte) (crew : Half) (poles : Byte) (s : State) (ns : PoleSet), s.taken .CREW (.resetWear crew poles) →
    PoleSet.ofByteNonempty poles = some ns → s.found.tu.crewRefusal crew.toNat .SUPERVISE = none →
    ns.overlaps s.found.dc.firing = false →
    ∃ t, exec (.resetWear .CREW tag crew poles) s = .next t ∧ awaits .CREW (.resetWear crew poles) tag t.part ∧
      sameExcept (.pu :: .rs :: Block.watch) s.found t.part ∧
      (∀ x, t.part.dc.poles.get x =
        if ns.has x then { s.found.dc.poles.get x with wear := 0 } else s.found.dc.poles.get x) ∧
      t.part.rs.wear.waiting = s.found.rs.wear.waiting ++ [⟨s.found.rs.wear.writing.isSome,
        .answer .CREW s.found.li.crew.wakes 0x94 tag []⟩] ∧
      (s.found.rs.wear.writing = none → t.part.rs.wear.writing.isSome = true ∧
        t.part.rs.wear.dirty = s.found.rs.wear.dirty) ∧
      (s.found.rs.wear.writing.isSome = true → t.part.rs.wear.dirty = true)

/-! ### The drive at work -/

/-- TRIP_FIRE with a trip pending and the drive free (R9, R13): with poles to fire, they are pulsed, TRIPPING, and copied their
phase current from the latest good message, and the first window is 50 ms; with none, since every pole of the trip has come to
show OPEN, the trip ends COMPLETE unfired (R14), its requesters are told, and the history does not take it. -/
def Obligations.TripFires : Prop :=
  ∀ (s : State) (pt : PendingTrip), s.part.on = true → s.part.dc.trip = some pt →
    s.part.dc.flight = none →
    let fire := (pt.op.poles.inter s.part.notOpen).union pt.closing
    (fire.isEmpty = false →
      ∃ t f, exec .tripFire s = .next t ∧ t.part.dc.trip = none ∧ t.part.dc.flight = some f ∧
        f.op = { pt.op with state := .IN_FLIGHT } ∧ f.fire = fire ∧ f.phase = .TRIP_WINDOW ∧ f.window = 50 ∧
        f.start = s.part.tb ∧ f.moved = .empty ∧ t.part.dc.tripPulse = s.part.dc.tripPulse.union fire ∧
        (∀ x, f.closedAtFire.has x = (fire.has x && s.part.position x == .CLOSED)) ∧
        (∀ x, t.part.dc.poles.get x =
          if fire.has x then { s.part.dc.poles.get x with
            motion := .TRIPPING, lastCurrent := s.part.eu.latest.map fun v => v.vals.phase.get x }
          else s.part.dc.poles.get x) ∧
        t.part.pu = s.part.pu ∧ sameExcept Block.watch s.part t.part ∧ t.part.eu = s.part.eu ∧ t.part.rs = s.part.rs) ∧
    (fire.isEmpty = true →
      ∃ t, exec .tripFire s = .next t ∧ t.part.dc.flight = none ∧ t.part.dc.history = s.part.dc.history ∧
        t.part.dc.tripPulse = s.part.dc.tripPulse ∧
        (∀ x, t.part.dc.poles.get x =
          if pt.op.poles.has x then { s.part.dc.poles.get x with motion := .NONE } else s.part.dc.poles.get x) ∧
        (∀ e ∈ pt.op.requesters, ∀ l tg, e.who.link = some l → e.tag = some tg → (s.part.li.get l).powered = true →
          .endMsg tg (.operation .COMPLETE pt.op.number) ∈ (t.part.li.get l).outbound) ∧
        sameExcept (.rs :: Block.watch) s.part t.part)

/-- TRIP_WINDOW_EXPIRY and RETRY_FIRE with a fired pole unmoved (R10): at the end of the first window the operation is RETRYING
for 20 ms, the moved poles have motion NONE and the others keep theirs; 20 ms later the unmoved poles are pulsed again and a
second window of 50 ms opens. The history, the settings, the tags and the store are as they were. That the flight record keeps
its fire set whole meanwhile is the model's reading (assumption 14). -/
def Obligations.UnmovedPolesAreRetried : Prop :=
  ∀ (s : State) (f : Flight), s.part.on = true → s.found.dc.flight = some f →
    let moved := f.moved.union (f.mustLeave.diff s.found.notOpen)
    let rest := fun (t : State) => t.part.dc.history = s.found.dc.history ∧ t.part.pu = s.found.pu ∧
      sameExcept Block.watch s.found t.part ∧ t.part.rs = s.found.rs
    (f.phase = .TRIP_WINDOW → f.fire.subset moved = false →
      ∃ t, exec .tripWindowExpiry s = .next t ∧ rest t ∧
        t.part.dc.flight = some { f with
          op := { f.op with state := .RETRYING }, phase := .RETRY_GAP, window := 20, moved := moved } ∧
        t.part.dc.tripPulse = s.found.dc.tripPulse ∧
        ∀ x, t.part.dc.poles.get x =
          if moved.has x then { s.found.dc.poles.get x with motion := .NONE } else s.found.dc.poles.get x) ∧
    (f.phase = .RETRY_GAP → (f.fire.diff f.moved).isEmpty = false →
      ∃ t, exec .retryFire s = .next t ∧ rest t ∧
        t.part.dc.flight = some { f with phase := .RETRY_WINDOW, window := 50 } ∧
        t.part.dc.tripPulse = s.found.dc.tripPulse.union (f.fire.diff f.moved) ∧ t.part.dc.poles = s.found.dc.poles)

/-- How a fired operation ends (R9 to R12, R14, R20, R22). RETRY_WINDOW_EXPIRY and CLOSE_WINDOW_EXPIRY: it ends PARTIAL where a
pole moved and FAILED where none did. CONTACT_CHANGE of a pole in motion that is the last to move: to OPEN in a trip, where a
closing pole that showed OPEN at the fire must have left OPEN before, and to CLOSED in a close; it ends COMPLETE. Then the
operation is the newest entry of the history ring, its fired poles have motion NONE, every unmoved pole has MECH_FAIL, with
cause NO_MOTION where it had none, counts and wear are those of `CountsAndWear`, and after a close that moved a pole HANDLE is
clear on its poles that show CLOSED.
The Sequencer at the end of a close that was not superseded, the drive free and the part in RUN (R55, R56, R59, R61, R62). A
pole that moved is in RECLAIM with a full reclaim time, running while measurement is OK and held otherwise, or in TIMING where
the pickup copy holds it or a member of its gang; after a manual close its shot is the operations to lockout less one and it has
no lockout cause. A pole that did not move is in LOCKOUT, for MECH_FAIL where it was not there before; after a reclose this is a
sequence lockout. A close that ended COMPLETE with a pole open for longer than the cold-load open time pushes the COLD_LOAD
frame. -/
def Obligations.WindowsEndOperations : Prop :=
  (∀ (s : State) (f : Flight), s.part.on = true → s.found.dc.flight = some f →
     let result : OpResult := if (f.fire.inter f.moved).isEmpty then .FAILED else .PARTIAL
     let ends := fun (f : Flight) (result : OpResult) (t : State) => t.part.dc.flight = none ∧
       (∃ h, t.part.dc.history = (h :: s.found.dc.history).take 16 ∧ h.op = { f.op with state := .ENDED, result := some result } ∧
         h.start = f.start) ∧
       (∀ x, f.fire.has x = true → (t.part.dc.poles.get x).motion = .NONE) ∧
       (∀ x, f.fire.has x = true → f.moved.has x = false →
         (t.part.dc.poles.get x).mechFail = some (((s.found.dc.poles.get x).mechFail).getD .NO_MOTION)) ∧
       (∀ x, (t.part.dc.poles.get x).count = ((countAndWear f s.found).dc.poles.get x).count ∧
         (t.part.dc.poles.get x).wear = ((countAndWear f s.found).dc.poles.get x).wear) ∧
       (∀ x, f.op.kind = .CLOSE → result ≠ .FAILED → f.op.poles.has x = true → t.part.position x = .CLOSED →
         (t.part.dc.poles.get x).handle = false) ∧
       sameExcept (.pu :: .rs :: Block.watch) s.found t.part ∧ t.part.eu = s.found.eu
     (f.phase = .RETRY_WINDOW → ∃ t, exec .retryWindowExpiry s = .next t ∧ ends f result t) ∧
     (f.phase = .CLOSE_WINDOW → ∃ t, exec .closeWindowExpiry s = .next t ∧ ends f result t) ∧
     (∀ (x : Pole) (a b coil : Bool),
       let g := { f with moved := f.moved.union (.single x) }
       (s.found.dc.poles.get x).motion ≠ .NONE → positionOf a b ≠ s.found.position x → f.phase ≠ .RETRY_GAP →
       f.fire.subset g.moved = true →
       (f.op.kind = .CLOSE ∧ positionOf a b = .CLOSED) ∨
         (f.op.kind = .TRIP ∧ positionOf a b = .OPEN ∧ (f.mustLeave.has x = false ∨ f.hasLeft.has x = true)) →
       ∃ t, exec (.contactChange x a b coil) s = .next t ∧ t.part.position x = positionOf a b ∧ ends g .COMPLETE t)) ∧
  ∀ (f : Flight) (result : OpResult) (p : Part), p.dc.flight = none → p.bc.partState = .RUN → f.op.kind = .CLOSE →
    let r := sqOperationEnd f result p
    let picked := fun (x : Pole) => p.sq.pickup.has x = true ∨
      ((p.seq x).ganged = true ∧ ∃ y, (p.seq y).ganged = true ∧ p.sq.pickup.has y = true)
    let reclaims := fun (x : Pole) =>
      (picked x → (r.seq x).state = .TIMING ∧ (r.seq x).reclaim = .stopped) ∧
      (¬ picked x → (r.seq x).state = .RECLAIM ∧ (r.seq x).reclaim =
        if p.sq.meas = .OK then .running (p.profile.reclaimS * 1000) else .held (p.profile.reclaimS * 1000))
    let failed := ∃ x, f.op.poles.has x = true ∧ f.moved.has x = false ∧ (p.seq x).state = .CLOSE_WAIT
    (f.op.cause = .RECLOSE →
      (∀ x, f.op.poles.has x = true → (p.seq x).state = .CLOSE_WAIT →
        (f.moved.has x = true → (¬ failed ∨ p.position x ≠ .OPEN) → reclaims x ∧ (r.seq x).shot = (p.seq x).shot) ∧
        (f.moved.has x = false → (r.seq x).state = .LOCKOUT ∧ (r.seq x).lockout = some .MECH_FAIL)) ∧
      (∀ x, (f.op.poles.has x = false ∨ (p.seq x).state ≠ .CLOSE_WAIT) → ¬ failed →
        (r.seq x).state = (p.seq x).state ∧ (r.seq x).shot = (p.seq x).shot ∧ (r.seq x).deadTimer = (p.seq x).deadTimer ∧
          (r.seq x).reclaim = (p.seq x).reclaim) ∧
      (failed → ∀ x, (p.seq x).state ≠ .LOCKOUT →
        ((p.seq x).state = .CLOSE_WAIT → f.op.poles.has x = true ∨ (p.dc.seq.get x).isSome = true) →
        (p.position x = .OPEN → (r.seq x).state = .LOCKOUT) ∧
        (p.position x ≠ .OPEN → (r.seq x).state = .LOCKOUT ∨ r.dc.pendingPoles.has x = true))) ∧
    (f.op.cause ≠ .RECLOSE →
      (∀ x, f.op.poles.has x = true →
        (f.moved.has x = true → reclaims x ∧ (r.seq x).shot = p.profile.opsToLockout - 1 ∧ (r.seq x).lockout = none) ∧
        (f.moved.has x = false → (r.seq x).state = .LOCKOUT ∧ (r.seq x).lockout =
          if (p.seq x).state = .LOCKOUT then (p.seq x).lockout else some .MECH_FAIL)) ∧
      (∀ x, f.op.poles.has x = false → (r.seq x).state = (p.seq x).state ∧ (r.seq x).shot = (p.seq x).shot ∧
        (r.seq x).deadTimer = (p.seq x).deadTimer ∧ (r.seq x).reclaim = (p.seq x).reclaim) ∧ r.dc.trip = p.dc.trip) ∧
    ((result = .COMPLETE ∧ 0 < p.pu.unit.coldOpenS ∧
        ∃ x, f.op.poles.has x = true ∧ p.pu.unit.coldOpenS < (p.seq x).departure) →
      r.pu = { p.pu with coldLoad := some (p.pu.selectedGroup.coldS * 1000) }) ∧
    (¬ (result = .COMPLETE ∧ 0 < p.pu.unit.coldOpenS ∧
        ∃ x, f.op.poles.has x = true ∧ p.pu.unit.coldOpenS < (p.seq x).departure) → r.pu = p.pu)

/-- Counts and wear of an ended operation (R20): every moved pole counts one, to at most 999999; a pole of a trip that showed
CLOSED at the fire and moved gains wear by its last interrupted current, to at most 1000; after a trip that changed a wear
or a count the image is handed to the store. -/
def Obligations.CountsAndWear : Prop :=
  ∀ (f : Flight) (p : Part),
    (∀ x, ((countAndWear f p).dc.poles.get x).count =
      if f.moved.has x then min 999999 ((p.dc.poles.get x).count + 1) else (p.dc.poles.get x).count) ∧
    (∀ x, ((countAndWear f p).dc.poles.get x).wear =
      if f.op.kind = .TRIP ∧ f.closedAtFire.has x = true ∧ f.moved.has x = true then
        min 1000 ((p.dc.poles.get x).wear + wearOf (p.dc.poles.get x).lastCurrent)
      else (p.dc.poles.get x).wear) ∧
    (∀ a, wearOf (some a) = if a < 1000 then 1 else if a ≤ 2999 then 3 else if a ≤ 5999 then 10
      else if a ≤ 9999 then 25 else 50) ∧
    wearOf none = 50 ∧
    (f.op.kind = .TRIP →
      (∃ x, ((countAndWear f p).dc.poles.get x).wear ≠ (p.dc.poles.get x).wear ∨
        ((countAndWear f p).dc.poles.get x).count ≠ (p.dc.poles.get x).count) →
      (countAndWear f p).rs.wear = p.rs.wear.hand (imageOf (countAndWear f p) .WEAR))

/-- CLOSE_START (R3, R6, R7, R8, R11, R65, R121, R124, R125). A crew entry that is ready, and a radio entry where neither it nor a
sequencer entry is, their link powered: it ends TAGGED where a close of a pole of it is forbidden, NO_ENERGY where the bank does not
cover the list, and otherwise fires: its poles are CLOSING and pulsed, and the window is 100 ms. A pole that shows CLOSED at the
fire has moved, and a close all of whose poles do ends COMPLETE at once (R11, R14, R20, R22, R23; that an entry is a CLOSE is of
`Part.driveSane`, which every step keeps): it is the newest entry of the history ring, its requesters are told, and its poles have
motion NONE, HANDLE clear and one operation more; that it counts from the fire on is the model's reading (assumption 71). Sequencer
entries that are ready, the crew entry not: they fire as one RECLOSE with the next operation number, and where that ends at once
their reservations are released and their poles are in RECLAIM or TIMING; where the bank does not cover the list they return to
WAIT_ENERGY without their reservations, as units at the back of the waiting order, and are not granted again at once; and those a
tag forbids are withdrawn and lock out, with the rest of the gang where one of its members is among them; no entry stands on a pole
in DEAD (R6; `Part.entriesSane`, which every step keeps with `Part.driveSane`). That the number is used even where the combined
close then splits back, or is wholly tagged out, is the model's reading (assumption 32). -/
def Obligations.CrewCloseStarts : Prop :=
  ∀ s : State, s.part.on = true → s.part.closeDue = true →
    let p := closeStart s.part
    let frame := fun (t : State) => t.part.dc.history = s.part.dc.history ∧ sameExcept Block.watch s.part t.part
    let fires := fun (t : State) (op : OpRec) => t.part.dc.closePulse = s.part.dc.closePulse.union op.poles ∧
      ((∃ x, op.poles.has x = true ∧ s.part.position x ≠ .CLOSED) → frame t ∧
        ∃ f, t.part.dc.flight = some f ∧ f.op = { op with state := .IN_FLIGHT } ∧
          f.fire = op.poles ∧ f.phase = .CLOSE_WINDOW ∧ f.window = 100 ∧ f.start = s.part.tb ∧
          (∀ x, f.moved.has x = true ↔ op.poles.has x = true ∧ s.part.position x = .CLOSED) ∧
          ∀ x, t.part.dc.poles.get x =
            if op.poles.has x then { s.part.dc.poles.get x with motion := .CLOSING } else s.part.dc.poles.get x) ∧
      (op.kind = .CLOSE → (∀ x, op.poles.has x = true → s.part.position x = .CLOSED) → t.part.dc.flight = none ∧
        (∃ h, t.part.dc.history = (h :: s.part.dc.history).take 16 ∧
          h.op = { op with state := .ENDED, result := some .COMPLETE } ∧ h.start = s.part.tb) ∧
        (∀ x, op.poles.has x = true → (t.part.dc.poles.get x).motion = .NONE ∧ (t.part.dc.poles.get x).handle = false ∧
          (t.part.dc.poles.get x).count = min 999999 ((s.part.dc.poles.get x).count + 1)) ∧
        (∀ x, op.poles.has x = false → t.part.dc.poles.get x = s.part.dc.poles.get x) ∧
        ∀ e ∈ op.requesters, ∀ l tg, e.who.link = some l → e.tag = some tg → (s.part.li.get l).powered = true →
          .endMsg tg (.operation .COMPLETE op.number) ∈ (t.part.li.get l).outbound)
    let stays := fun (t : State) => frame t ∧ t.part.dc.flight = none ∧ t.part.dc.poles = s.part.dc.poles ∧
      t.part.dc.closePulse = s.part.dc.closePulse
    let link := fun (t : State) (l : Link) (name : EntryName) (e : LinkClose) =>
      ((s.part.forbidden e.op.poles).isEmpty = true → s.part.startFits = true → fires t e.op) ∧
      ((s.part.forbidden e.op.poles).isEmpty = false ∨ s.part.startFits = false →
        stays t ∧ (∀ r ∈ t.part.nu.closes, r.entry ≠ name) ∧
          ∀ c ps tg, e.op.requesters = [⟨requesterOf l, c, ps, some tg⟩] → (s.part.li.get l).powered = true →
            .endMsg tg (.operation (if (s.part.forbidden e.op.poles).isEmpty then .NO_ENERGY else .TAGGED) e.op.number) ∈
              (t.part.li.get l).outbound)
    (∀ e, s.part.dc.crew = some e → e.op.state = .PENDING →
      ∃ t, exec .closeStart s = .next t ∧ t.part.dc.crew = none ∧ sameExcept (.pu :: .rs :: Block.watch) s.part t.part ∧
        link t .CREW .CREW e) ∧
    (linkReady s.part.dc.crew = false → s.part.dc.readySeq.isEmpty = true →
      ∀ e, s.part.dc.radio = some e →
        ∃ t, exec .closeStart s = .next t ∧ t.part.dc.radio = none ∧ t.part.dc.crew = s.part.dc.crew ∧
          sameExcept (.pu :: .rs :: Block.watch) s.part t.part ∧ link t .RADIO .RADIO e) ∧
    (linkReady s.part.dc.crew = false → s.part.dc.readySeq.isEmpty = false →
      let ready := s.part.dc.readySeq
      ∃ t, exec .closeStart s = .next t ∧ t.part = endEvent s.part p ∧ sameExcept (.pu :: .rs :: Block.watch) s.part t.part ∧
        t.part.dc.nextOp = wrapNext s.part.dc.nextOp ∧
        t.part.dc.crew = s.part.dc.crew ∧ t.part.dc.radio = s.part.dc.radio ∧
        ((∀ x, ready.has x = true → s.part.position x ≠ .CLOSED) →
          t.part.dc.history = s.part.dc.history ∧ t.part.pu = s.part.pu) ∧
        ((s.part.forbidden ready).isEmpty = true → s.part.startFits = true →
          fires t ⟨s.part.dc.nextOp, .CLOSE, ready, .RECLOSE,
            ready.members.map fun x => ⟨.SEQUENCER, .RECLOSE, .single x, none⟩, .PENDING, none⟩ ∧
          ((∃ x, ready.has x = true ∧ s.part.position x ≠ .CLOSED) → p.nu = s.part.nu) ∧
          ((∀ x, ready.has x = true → s.part.position x = .CLOSED) → ∀ x, ready.has x = true →
            (∀ r ∈ p.nu.closes, r.entry ≠ .SEQ x) ∧
            ((s.part.seq x).state = .CLOSE_WAIT → (t.part.seq x).state = .RECLAIM ∨ (t.part.seq x).state = .TIMING)) ∧
          ∀ x, p.dc.seq.get x = if ready.has x then none else s.part.dc.seq.get x) ∧
        ((s.part.forbidden ready).isEmpty = true → s.part.startFits = false →
          stays t ∧ (∀ x, p.dc.seq.get x = if ready.has x then some .WAIT_ENERGY else s.part.dc.seq.get x) ∧
          (∀ x, ready.has x = true → t.part.dc.seq.get x = some .WAIT_ENERGY) ∧
          p.nu.waiting = s.part.nu.waiting ++ splitUnits ready s.part ∧
          (∀ x, ready.has x = true → ∀ r ∈ p.nu.closes, r.entry ≠ .SEQ x)) ∧
        ((∀ x, ready.has x = true → (s.part.seq x).state = .CLOSE_WAIT) →
          (∀ x, (s.part.seq x).state = .DEAD → s.part.dc.seq.get x = none) →
          (∀ x, ready.has x = true → s.part.tu.closeForbidden x = true →
            p.dc.seq.get x = none ∧ (p.seq x).state = .LOCKOUT ∧
              (p.seq x).lockout = some (if s.part.tu.hotLine then .HOT_LINE else .RECLOSE_BLOCK)) ∧
          (∀ x y, ready.has x = true → s.part.tu.closeForbidden x = true → (s.part.seq x).ganged = true →
            (s.part.seq y).ganged = true → s.part.waitingPoles.has y = true →
            (ready.has y && s.part.tu.closeForbidden y) = false →
            p.dc.seq.get y = none ∧ (p.seq y).state = .LOCKOUT ∧ (p.seq y).lockout = some .GANG)))

/-- CONTACT_CHANGE (R2, R17, R18, R66): the contact pair and the position are those of the inputs; a pole with motion NONE that
comes to show OPEN gets HANDLE set and one operation, and is in LOCKOUT, but where HANDLE is set and the pole has only been
UNKNOWN since it last showed OPEN: then none of this is repeated, while CLOSED and then OPEN is counted and locked out anew, as
`closedSince` tells (both the model's reading, assumption 36); one that comes to show CLOSED has HANDLE cleared and one
operation, is in CLOSED_IDLE, or in TIMING where the pickup copy holds it, and the close entries that cover it are gone. The
drive is as chapter 1 leaves it (`Part.driveSane`; R1, R4, R9 to R11, R13): a fired pole is CLOSING under a CLOSE in flight, and
TRIPPING under a TRIP until it has moved, every other pole has motion NONE, and what has moved is of the fire set. Every step
keeps it so, and it is so after reset. A pole of a waiting unit has an entry (R125; `Part.entriesSane`, which every step keeps with
`Part.driveSane`). -/
def Obligations.ContactsSetPosition : Prop :=
  (∀ (x : Pole) (a b coil : Bool) (s : State), s.part.on = true → s.found.driveSane = true →
     ∃ t, exec (.contactChange x a b coil) s = .next t ∧ t.part.position x = positionOf a b ∧
       sameExcept (.rs :: .pu :: Block.watch) s.found t.part ∧
       (t.part.dc.poles.get x).aClosed = a ∧ (t.part.dc.poles.get x).bClosed = b ∧
       (t.part.dc.poles.get x).closedSince = (match positionOf a b with
         | .CLOSED => true
         | .OPEN => false
         | .UNKNOWN => (s.found.dc.poles.get x).closedSince) ∧
       (s.found.position x ≠ .OPEN → positionOf a b = .OPEN → (s.found.dc.poles.get x).motion = .NONE →
         (s.found.dc.poles.get x).handle = true → s.found.position x = .UNKNOWN →
         (s.found.dc.poles.get x).closedSince = false →
         (t.part.dc.poles.get x).handle = true ∧ (t.part.dc.poles.get x).count = (s.found.dc.poles.get x).count ∧
           (t.part.seq x).state = (s.found.seq x).state ∧ t.part.dc.flight = s.found.dc.flight ∧
           t.part.dc.history = s.found.dc.history) ∧
       (s.found.position x ≠ .OPEN → positionOf a b = .OPEN → (s.found.dc.poles.get x).motion = .NONE →
         ((s.found.dc.poles.get x).handle = false ∨ s.found.position x = .CLOSED ∨
           (s.found.dc.poles.get x).closedSince = true) →
         (t.part.dc.poles.get x).handle = true ∧
           (t.part.dc.poles.get x).count = min 999999 ((s.found.dc.poles.get x).count + 1) ∧
           (t.part.seq x).state = .LOCKOUT ∧ t.part.dc.flight = s.found.dc.flight ∧ t.part.dc.history = s.found.dc.history) ∧
       (s.found.position x ≠ .CLOSED → positionOf a b = .CLOSED → (s.found.dc.poles.get x).motion = .NONE →
         (t.part.dc.poles.get x).handle = false ∧ (t.part.dc.poles.get x).mechFail = (s.found.dc.poles.get x).mechFail ∧
           (t.part.dc.poles.get x).count = min 999999 ((s.found.dc.poles.get x).count + 1) ∧
           (t.part.seq x).state = (if s.found.sq.pickup.has x then .TIMING else .CLOSED_IDLE) ∧
           (t.part.seq x).shot = 0 ∧
           ((∀ u ∈ s.found.nu.waiting, ∀ y, u.has y = true → (s.found.dc.seq.get y).isSome = true) →
             t.part.dc.seq.get x = none) ∧
           (s.found.tu.hotLine = false → t.part.dc.history = s.found.dc.history ∧ t.part.dc.flight = s.found.dc.flight) ∧
           ((LinkClose.poles s.found.dc.crew).has x = true → t.part.dc.crew = none) ∧
           ((LinkClose.poles s.found.dc.radio).has x = true → t.part.dc.radio = none))) ∧
  (∀ s t : State, s.part.driveSane = true → step s = .next t → t.part.driveSane = true) ∧
  State.reset.part.driveSane = true

/-! ### Measurement and the elements -/

/-- MEASUREMENT (R24, R25, R27, R29, R117, R136, R139, R145). A good message in RUN replaces the latest values, restarts the loss
timer at 60 ms and gives its bank level to the Energy Unit, FRESH where measurement is OK. Measurement that is OK stays so; where
it is not, the message counts to the recovery run, and the third of a run makes it OK and tells the Sequencer. The charge of the
message is counted, in mA·ms beyond whole mAh, and the SoC clamped to 0 to capacity; where the per-mille SoC changes, the energy
level is that of the thresholds, capped by the health. The heater is judged while measurement is OK. A message out of range, of
another length, or in DORMANT leaves the latest values, the timer, the state, the elements, the bank level and the charge, and
breaks a recovery run. -/
def Obligations.MeasurementIsTaken : Prop :=
  ∀ (body : List Byte) (s : State), s.part.on = true →
    ∃ t, exec (.measurement body) s = .next t ∧ sameExcept (.eu :: .rs :: Block.watch) s.found t.part ∧
      (∀ v, readMeasurement body = some v → s.found.bc.partState = .RUN →
        let b := s.found.bc
        let total : Int := (b.soc : Int) * 3600000 + b.rem + v.current * v.interval
        let whole := total / 3600000
        let u := s.found.pu.unit
        let bySoc : EnergyLevel := if u.conserve ≤ t.part.bc.permille then .NORMAL
          else if u.reserve ≤ t.part.bc.permille then .CONSERVE
          else if u.cutoff ≤ t.part.bc.permille then .RESERVE
          else .EXHAUSTED
        t.part.eu.latest = some ⟨v, s.found.tb⟩ ∧ t.part.eu.lossTimer = some 60 ∧ t.part.nu.level = some v.bank ∧
          (t.part.nu.fresh = true ↔ t.part.eu.state = .OK) ∧
          (s.found.eu.state = .OK → t.part.eu.state = .OK ∧ t.part.eu.run = s.found.eu.run) ∧
          (s.found.eu.state ≠ .OK → s.found.eu.run < 2 → t.part.eu.state = s.found.eu.state ∧
            t.part.eu.run = s.found.eu.run + 1 ∧ t.part.eu.phase = s.found.eu.phase ∧ t.part.eu.ground = s.found.eu.ground) ∧
          (s.found.eu.state ≠ .OK → 2 ≤ s.found.eu.run →
            t.part.eu.state = .OK ∧ t.part.eu.run = 0 ∧ t.part.sq.meas = .OK) ∧
          (whole < 0 → t.part.bc.soc = 0 ∧ t.part.bc.rem = 0) ∧
          ((b.capacity : Int) < whole → t.part.bc.soc = b.capacity ∧ t.part.bc.rem = 0) ∧
          (0 ≤ whole → whole ≤ b.capacity → (t.part.bc.soc : Int) = whole ∧ (t.part.bc.rem : Int) = total % 3600000) ∧
          (t.part.bc.permille = b.permille → t.part.bc.level = b.level) ∧
          (t.part.bc.permille ≠ b.permille → t.part.bc.level =
            match b.health with
            | .WEAK => if bySoc = .NORMAL then .CONSERVE else bySoc
            | .FAILED => if bySoc = .EXHAUSTED then .EXHAUSTED else .RESERVE
            | _ => bySoc) ∧
          (s.found.eu.state = .OK →
            (t.part.bc.heater = true ↔ (b.supply = true ∨ t.part.bc.level = .NORMAL) ∧
              if b.heater then v.temp < -5 else v.temp < -10))) ∧
      (readMeasurement body = none ∨ s.found.bc.partState = .DORMANT → t.part.eu.latest = s.found.eu.latest ∧
        t.part.eu.lossTimer = s.found.eu.lossTimer ∧ t.part.eu.state = s.found.eu.state ∧
        t.part.eu.phase = s.found.eu.phase ∧ t.part.eu.ground = s.found.eu.ground ∧
        t.part.nu.level = s.found.nu.level ∧ t.part.bc.soc = s.found.bc.soc ∧ t.part.bc.rem = s.found.bc.rem ∧
        t.part.bc.vals = s.found.bc.vals ∧ t.part.bc.heater = s.found.bc.heater ∧
        (s.found.eu.state ≠ .OK → t.part.eu.run = 0))

/-- LOSS_TIMER_EXPIRY with the timer running (R28, R29): OK becomes LOST, the bank level goes stale and no close entry of a
link that holds a pole is left; a state that is not OK stays, with the recovery run at 0. -/
def Obligations.LossMakesMeasurementLost : Prop :=
  ∀ s : State, s.part.on = true → s.found.eu.lossTimer.isSome = true →
    ∃ t, exec .lossTimerExpiry s = .next t ∧ sameExcept (.eu :: .rs :: Block.watch) s.found t.part ∧
      t.part.eu.run = 0 ∧ t.part.eu.lossTimer = none ∧
      t.part.eu.phase = s.found.eu.phase ∧ t.part.eu.ground = s.found.eu.ground ∧
      (s.found.eu.state = .OK → t.part.eu.state = .LOST ∧ t.part.sq.meas = .LOST ∧ t.part.nu.fresh = false ∧
        ((LinkClose.poles s.found.dc.crew).isEmpty = false → t.part.dc.crew = none) ∧
        ((LinkClose.poles s.found.dc.radio).isEmpty = false → t.part.dc.radio = none)) ∧
      (s.found.eu.state ≠ .OK → t.part.eu.state = s.found.eu.state ∧ t.part.dc.crew = s.found.dc.crew)

/-- The ground element while it is disabled (R33): IDLE with its accumulator at 0, adding no pole to the pickup set and taking
no part in the trip decision; enabled again, it is evaluated from IDLE. -/
def Obligations.DisabledGroundStaysIdle : Prop :=
  ∀ (p : Part) (g : Group) (v : Values),
    (g.groundEnabled = false →
      (p.groundStep g v).state = .IDLE ∧ (p.groundStep g v).acc = 0 ∧
        { p.eu with ground := p.groundStep g v }.covered = { p.eu with ground := p.groundStep g v }.phasesUp ∧
        { p.eu with ground := p.groundStep g v }.groundReached = false) ∧
    (g.groundEnabled = true → p.eu.ground.state = .IDLE →
      (p.groundStep g v).state = if g.groundPickup ≤ v.ground then .PICKED_UP else .IDLE)

/-- The pole set of an ask (R40, R41): every armed pole in GANGED mode, and in SINGLE mode with two or more phase elements
PICKED_UP or HELD, where the ask is multi-phase and the Sequencer gangs the poles; with fewer, the pole of the one phase
element that reached 10000, or for G alone the armed pole with the highest current, the first of those that tie. An empty
set makes no ask; the accumulators are cleared all the same. The mode is the one the Sequencer holds. -/
def Obligations.AskPoleSet : Prop :=
  ∀ (u : ElementUnit) (v : Values),
    (∀ x, (askOf .GANGED u v).1.has x = (u.phase.get x).armed) ∧ (askOf .GANGED u v).2 = false ∧
    (2 ≤ u.phasesUp.count →
      (∀ x, (askOf .SINGLE u v).1.has x = (u.phase.get x).armed) ∧ (askOf .SINGLE u v).2 = true) ∧
    (u.phasesUp.count < 2 →
      (askOf .SINGLE u v).2 = false ∧ (∀ x, u.reached = .single x → (askOf .SINGLE u v).1 = .single x) ∧
      (u.reached.isEmpty = true →
        ((∀ x, (u.phase.get x).armed = false) → (askOf .SINGLE u v).1 = .empty) ∧
        (∀ x, (u.phase.get x).armed = true →
          (∀ y, (u.phase.get y).armed = true → v.phase.get y ≤ v.phase.get x) →
          (∀ y, (u.phase.get y).armed = true → v.phase.get y = v.phase.get x → Pole.all.idxOf x ≤ Pole.all.idxOf y) →
          (askOf .SINGLE u v).1 = .single x))) ∧
    (∀ (p : Part) (multi : Bool), protectiveAsk .empty multi p = p) ∧
    (∀ (p : Part) (set : PoleSet) (x : Pole), p.bc.partState = .RUN → set.has x = true →
      (p.seq x).state = .CLOSED_IDLE ∨ (p.seq x).state = .TIMING ∨ (p.seq x).state = .RECLAIM →
      ((protectiveAsk set true p).seq x).state = .TRIP_WAIT ∧ ((protectiveAsk set true p).seq x).ganged = true) ∧
    (∀ p : Part, p.eu.reached.isEmpty = false ∨ p.eu.groundReached = true →
      tripDecision v p = protectiveAsk (askOf p.sq.mode p.eu v).1 (askOf p.sq.mode p.eu v).2 { p with eu := p.eu.cleared })

/-- An element at a message (R32, R34, R35, R37). It is PICKED_UP from its pickup up, HELD at 95 percent of it unless it was IDLE,
and IDLE below. Its accumulator stays at most 10000; it is 0 where the element is IDLE or not armed; it rises only while
PICKED_UP and armed: to 10000 at the high-set multiple or at an operate time of 0, and otherwise by 10000 times the interval
over the operate time, rounded up. The operate time is that of the curve's point with the largest multiple not above the
measured one, or of its first point. A phase element is armed on a pole that does not show OPEN, is in no trip and not in
TRIP_WAIT; its curve is FAST up to the fast operations, and element G's is FAST where that of an armed pole is. -/
def Obligations.ElementAccumulates : Prop :=
  (∀ (e : Element) (g : Group) (armed : Bool) (c : Curve) (i pickup interval : Nat), e.acc ≤ 10000 →
    let r := e.step g armed c i pickup interval
    let curve := match c with | .FAST => g.fast | .DELAYED => g.delayed
    let m := 10 * i / pickup
    r.acc ≤ 10000 ∧ r.armed = armed ∧ r.curve = c ∧
      (r.state = .IDLE ∨ armed = false → r.acc = 0) ∧
      (r.state = .HELD → armed = true → r.acc = e.acc) ∧
      (r.state = .PICKED_UP → armed = true → e.acc ≤ r.acc) ∧
      (r.state = .PICKED_UP → armed = true → ∀ h, g.highSet = some h → h ≤ m → r.acc = 10000) ∧
      (pickup ≤ i ↔ r.state = .PICKED_UP) ∧
      (r.state = .HELD ↔ i < pickup ∧ 95 * pickup ≤ 100 * i ∧ e.state ≠ .IDLE) ∧
      (r.state = .PICKED_UP → armed = true → (∀ h, g.highSet = some h → m < h) → ascending curve = true →
        ∀ q ∈ curve,
          (q.multiple ≤ m ∧ ∀ o ∈ curve, o.multiple ≤ m → o.multiple ≤ q.multiple) ∨
            (curve.head? = some q ∧ m < q.multiple) →
          r.acc = if q.time = 0 then 10000 else min 10000 (e.acc + (10000 * interval + q.time - 1) / q.time))) ∧
  ∀ (p : Part) (g : Group) (v : Values),
    let next := fun (x : Pole) => if (p.seq x).shot + 1 ≤ g.fastOps then Curve.FAST else .DELAYED
    (∀ x, (p.phaseSteps g v).get x =
        (p.eu.phase.get x).step g (p.armed x) (next x) (v.phase.get x) g.phasePickup v.interval ∧
      (p.armed x = true ↔ p.position x ≠ .OPEN ∧ p.dc.pendingPoles.has x = false ∧ p.dc.tripping.has x = false ∧
        (p.seq x).state ≠ .TRIP_WAIT)) ∧
    ((∃ x, p.armed x = true ∧ next x = .FAST) → (p.groundStep g v).curve = .FAST) ∧
    ((∃ x, p.armed x = true) → (∀ x, p.armed x = true → next x = .DELAYED) → (p.groundStep g v).curve = .DELAYED) ∧
    ((∀ x, p.armed x = false) → (p.groundStep g v).curve = p.eu.ground.curve)

/-! ### The Sequencer -/

/-- DEAD_TIMER_EXPIRY and RECLAIM_TIMER_EXPIRY (R6, R53, R56, R57, R121, R123, R125): a pole in DEAD outside any gang locks out
on MECH_FAIL, a tag or wear 1000, in that order, and otherwise is in CLOSE_WAIT with an entry placed. The members of a gang in
DEAD go together: while a member of it awaits the end of a trip, they stay in DEAD with the timer stopped and no entry
(assumption 12); otherwise, with none so locked out, all are in CLOSE_WAIT and their entries in one state, PENDING with a
reservation each where the bank covers them all; with one locked out, all are in LOCKOUT, the others with cause GANG, and no
entry is placed. A pole in RECLAIM, or every member of its gang in RECLAIM, is in CLOSED_IDLE at shot 0, out of the gang, with
the timer stopped. -/
def Obligations.SequenceTimersEnd : Prop :=
  ∀ (x : Pole) (s : State), s.part.on = true →
    ((s.found.seq x).state = .DEAD → (s.found.seq x).deadTimer.isSome = true → (s.found.seq x).ganged = false →
      ∃ t, exec (.deadTimerExpiry x) s = .next t ∧ (t.part.seq x).deadTimer = none ∧
        (t.part.seq x).shot = (s.found.seq x).shot ∧ sameExcept (.rs :: Block.watch) s.found t.part ∧ t.part.dc.poles = s.found.dc.poles ∧
        (∀ c, expiryCause s.found x = some c →
          (t.part.seq x).state = .LOCKOUT ∧ (t.part.seq x).lockout = some c) ∧
        (expiryCause s.found x = none →
          (t.part.seq x).state = .CLOSE_WAIT ∧ (t.part.dc.seq.get x).isSome = true ∧ t.part.rs = s.found.rs)) ∧
    ((s.found.seq x).state = .DEAD → (s.found.seq x).deadTimer.isSome = true → (s.found.seq x).ganged = true →
      let gang := PoleSet.ofFun fun y => (s.found.seq y).ganged && (s.found.seq y).state == .DEAD
      (∀ u ∈ s.found.nu.waiting, u.overlaps gang = false) →
      ∃ t, exec (.deadTimerExpiry x) s = .next t ∧ sameExcept (.rs :: Block.watch) s.found t.part ∧
        t.part.dc.poles = s.found.dc.poles ∧
        (∀ y, gang.has y = true → (t.part.seq y).deadTimer = none ∧ (t.part.seq y).shot = (s.found.seq y).shot) ∧
        (s.found.gangAwaits = true → t.part.rs = s.found.rs ∧ ∀ y, gang.has y = true →
          (t.part.seq y).state = .DEAD ∧ (t.part.seq y).ganged = true ∧ t.part.dc.seq.get y = s.found.dc.seq.get y) ∧
        (s.found.gangAwaits = false → (∀ y, gang.has y = true → expiryCause s.found y = none) → t.part.rs = s.found.rs ∧
          ∀ y, gang.has y = true → (t.part.seq y).state = .CLOSE_WAIT ∧ (t.part.seq y).ganged = true ∧
            (t.part.dc.seq.get y).isSome = true ∧ t.part.dc.seq.get y = t.part.dc.seq.get x ∧
            (s.found.closeFits gang = true →
              t.part.dc.seq.get y = some .PENDING ∧ ⟨.SEQ y, 14⟩ ∈ t.part.nu.closes)) ∧
        (s.found.gangAwaits = false → (∃ y, gang.has y = true ∧ expiryCause s.found y ≠ none) → ∀ y, gang.has y = true →
          (t.part.seq y).state = .LOCKOUT ∧ (t.part.seq y).lockout = some ((expiryCause s.found y).getD .GANG) ∧
            (t.part.seq y).ganged = false ∧ t.part.dc.seq.get y = s.found.dc.seq.get y)) ∧
    (∀ ms, (s.found.seq x).state = .RECLAIM → (s.found.seq x).reclaim = .running ms →
      ∃ t, exec (.reclaimTimerExpiry x) s = .next t ∧ t.part.dc.poles = s.found.dc.poles ∧ sameExcept Block.watch s.found t.part ∧
        ∀ y, t.part.seq y =
          if (s.found.unitOf x).has y = true ∧ (s.found.seq y).state = .RECLAIM then
            { s.found.seq y with state := .CLOSED_IDLE, shot := 0, ganged := false, reclaim := .stopped }
          else s.found.seq y)

/-- ENERGY_WAIT_LIMIT and OPEN_COUNT_TICK (R54, R59, R62, R213): a pole whose entry waits for energy is in LOCKOUT with its
energy wait at 0, for NO_ENERGY outside a gang. In a gang every member whose entry waits goes with it in one event, its entry
withdrawn, the first of them in the order A, B, C for NO_ENERGY and the others for GANG; in a gang or not, every other pole that
shows OPEN locks out for GANG in that event, unless its reclose is in flight. Which member takes NO_ENERGY where another has no
waiting entry is assumption 60, and that a pole a trip in flight has opened is among the others is assumption 64. The open count
of a pole that shows OPEN rises by one, to at most 65535, and another pole keeps it. -/
def Obligations.WaitAndOpenCounts : Prop :=
  ∀ (x : Pole) (s : State), s.part.on = true →
    (s.found.dc.seq.get x = some .WAIT_ENERGY → (s.found.seq x).state = .CLOSE_WAIT →
      ∃ t, exec (.energyWaitLimit x) s = .next t ∧ (t.part.seq x).state = .LOCKOUT ∧ (t.part.seq x).energyWait = 0 ∧
        ((s.found.seq x).ganged = false → (t.part.seq x).lockout = some .NO_ENERGY) ∧ sameExcept (.rs :: Block.watch) s.found t.part ∧
        let go := PoleSet.ofFun fun y =>
          (y == x || (s.found.seq x).ganged && (s.found.seq y).ganged) && s.found.dc.seq.get y == some .WAIT_ENERGY
        ((∀ y, go.has y = true → (s.found.seq y).state = .CLOSE_WAIT) →
          (∀ y, go.has y = true → (t.part.seq y).state = .LOCKOUT ∧ (t.part.seq y).energyWait = 0 ∧
            (t.part.seq y).lockout = some (if go.members.head? = some y then .NO_ENERGY else .GANG) ∧
            t.part.dc.seq.get y = none) ∧
          (∀ y, go.has y = false → s.found.position y = .OPEN → (s.found.seq y).state ≠ .LOCKOUT →
            ((s.found.seq y).state = .CLOSE_WAIT → (s.found.dc.seq.get y).isSome = true) →
            (t.part.seq y).state = .LOCKOUT ∧ (t.part.seq y).lockout = some .GANG))) ∧
    (∃ t, exec (.openCountTick x) s = .next t ∧
      (s.found.position x = .OPEN → (t.part.seq x).openCount = min 65535 ((s.found.seq x).openCount + 1)) ∧
      (s.found.position x ≠ .OPEN → (t.part.seq x).openCount = (s.found.seq x).openCount) ∧
      (∀ y, y ≠ x → t.part.seq y = s.found.seq y) ∧ t.part.dc.poles = s.found.dc.poles ∧ sameExcept Block.watch s.found t.part)

/-- Poles entering LOCKOUT (R46): a pole already there keeps its record; another has the cause, both timers stopped, no energy
wait, no gang, mark or note, and its shot. At the end of an event, one LOCKOUT report names the poles that have entered and are
in no report of it yet, with the cause and the shot of each, and stands at the end of a queue with room; the lockout image is
handed on where a pole entered or left. What one event is, and where the report is made in mid-event, is assumption 19.
The Sequencer at the end of a trip, the drive free and the part in RUN (R50, R51, R52, R59, R60). A pole in TRIP_WAIT, or in
CLOSE_WAIT with the superseded mark, is settled: shots rise where they count, for the gang by its highest; then it locks out by
its end note or by the first of the conditions of R51, and otherwise goes to DEAD with the dead time of its shot, the gang's
members that go there on one timer once no member awaits another trip. A pole of the trip that is not settled locks out by its
note or for not moving, or is OPEN. A lockout that is not by a note is a sequence lockout: every other pole that shows OPEN locks
out, and the others are tripped. What the gang's timer waits for is assumption 12. -/
def Obligations.LockoutRecords : Prop :=
  (∀ (causes : LockSet) (p : Part) (x : Pole),
    ((p.seq x).state = .LOCKOUT → (enterLockout causes p).seq x = p.seq x) ∧
    (causes.get x = none → (enterLockout causes p).seq x = p.seq x) ∧
    (∀ c, (p.seq x).state ≠ .LOCKOUT → causes.get x = some c →
      ((enterLockout causes p).seq x).state = .LOCKOUT ∧ ((enterLockout causes p).seq x).lockout = some c ∧
      ((enterLockout causes p).seq x).deadTimer = none ∧ ((enterLockout causes p).seq x).reclaim = .stopped ∧
      ((enterLockout causes p).seq x).energyWait = 0 ∧ ((enterLockout causes p).seq x).ganged = false ∧
      ((enterLockout causes p).seq x).superseded = false ∧ ((enterLockout causes p).seq x).endNote = none ∧
      ((enterLockout causes p).seq x).shot = (p.seq x).shot)) ∧
  (∀ (f : Part → Part) (s : State), s.part.on = true →
    event f s = .next { s with part := endEvent s.found (f s.found) }) ∧
  (∀ b a : Part,
     let q := reportLockouts b a
     let entered := PoleSet.ofFun fun x => (a.seq x).state == .LOCKOUT && (b.seq x).state != .LOCKOUT && !a.sq.told.has x
     endEvent b a = refresh q ∧ q.sq.recs = a.sq.recs ∧
     (entered.isEmpty = true → q.ru = a.ru) ∧
     (entered.isEmpty = false → a.ru.queue.length < 32 →
       q.ru.queue = a.ru.queue ++ [⟨a.ru.nextNumber, .LOCKOUT, some entered, a.tb, a.tb, 1, false,
         entered.members.flatMap fun x => [optCode LockCause.code (a.seq x).lockout, byte (a.seq x).shot]⟩]) ∧
     ((∀ x, (a.seq x).state = .LOCKOUT ↔ (b.seq x).state = .LOCKOUT) → q.rs = a.rs) ∧
     ((∃ x, ¬ ((a.seq x).state = .LOCKOUT ↔ (b.seq x).state = .LOCKOUT)) →
       q.rs.lockout = a.rs.lockout.hand (imageOf a .LOCKOUT))) ∧
  ∀ (f : Flight) (p : Part), p.dc.flight = none → p.bc.partState = .RUN →
    let r := sqTripEnd f p
    let settled := fun (x : Pole) => f.op.poles.has x = true ∧
      ((p.seq x).state = .TRIP_WAIT ∨ ((p.seq x).state = .CLOSE_WAIT ∧ (p.seq x).superseded = true))
    let counts := fun (x : Pole) => settled x ∧ (∃ e ∈ f.op.requesters, e.cause = .PROTECTIVE) ∧
      (f.closedAtFire.has x = true ∨ (p.seq x).superseded = true)
    let cause := fun (x : Pole) => (
      if f.fire.has x = true ∧ f.moved.has x = false then some .MECH_FAIL
      else if (p.dc.poles.get x).mechFail = some .COIL_OPEN then some .MECH_FAIL
      else if ∃ g ∈ p.tu.tags, g.kind = .HOT_LINE then some .HOT_LINE
      else if ∃ g ∈ p.tu.tags, (g.kind = .RECLOSE_BLOCK ∨ g.kind = .CLEARANCE) ∧ g.poles.has x = true then some .RECLOSE_BLOCK
      else if 1000 ≤ (p.dc.poles.get x).wear then some .WEAR
      else if p.profile.opsToLockout ≤ (r.seq x).shot then some .SHOTS
      else if p.sq.meas ≠ .OK then some .BLIND
      else none : Option LockCause)
    let sequence := ∃ x, settled x ∧ (p.seq x).endNote = none ∧ cause x ≠ none
    (∀ x, (p.seq x).ganged = false →
      (counts x → (r.seq x).shot = min 4 ((p.seq x).shot + 1)) ∧ (¬ counts x → (r.seq x).shot = (p.seq x).shot)) ∧
    (∀ x, (p.seq x).ganged = true →
      (∀ y, (p.seq y).ganged = true → (∀ z, (p.seq z).ganged = true → (p.seq z).shot ≤ (p.seq y).shot) →
        (∃ z, (p.seq z).ganged = true ∧ counts z) → (r.seq x).shot = min 4 ((p.seq y).shot + 1)) ∧
      ((∀ z, (p.seq z).ganged = true → ¬ counts z) → (r.seq x).shot = (p.seq x).shot)) ∧
    (∀ x, (r.seq x).lastTrip = if f.moved.has x then some f.op.cause else (p.seq x).lastTrip) ∧
    (∀ x, settled x →
      (∀ n, (p.seq x).endNote = some n → (r.seq x).state = .LOCKOUT ∧ (r.seq x).lockout = some n.cause) ∧
      ((p.seq x).endNote = none → ∀ c, cause x = some c → (r.seq x).state = .LOCKOUT ∧ (r.seq x).lockout = some c) ∧
      ((p.seq x).endNote = none → cause x = none → ¬ sequence →
        (r.seq x).state = .DEAD ∧ (r.seq x).energyWait = 0 ∧ (r.seq x).newValue = false ∧ (r.seq x).superseded = false ∧
        ((p.seq x).ganged = false ∨ (p.dc.trip = none ∧ (∃ z, (p.seq z).ganged = true ∧ counts z) ∧
            ∀ y, (p.seq y).ganged = true → (p.seq y).state = .TRIP_WAIT → f.op.poles.has y = true) →
          (r.seq x).deadTimer = some (deadTimeOf p.profile (r.seq x).shot) ∧
            (r.seq x).deadLength = deadTimeOf p.profile (r.seq x).shot))) ∧
    (∀ x, f.op.poles.has x = true → ¬ settled x → (p.seq x).state ≠ .LOCKOUT →
      (∀ n, f.moved.has x = true → (p.seq x).endNote = some n →
        (r.seq x).state = .LOCKOUT ∧ (r.seq x).lockout = some n.cause) ∧
      (f.fire.has x = true → f.moved.has x = false →
        (r.seq x).state = .LOCKOUT ∧ (r.seq x).lockout = some .MECH_FAIL) ∧
      (f.moved.has x = true → (p.seq x).endNote = none → ¬ sequence →
        (p.seq x).state = .CLOSED_IDLE ∨ (p.seq x).state = .TIMING ∨ (p.seq x).state = .RECLAIM →
        (r.seq x).state = .OPEN ∧ (r.seq x).reclaim = .stopped ∧ (r.seq x).ganged = false)) ∧
    (∀ x, (p.seq x).state = .LOCKOUT → (r.seq x).state = .LOCKOUT ∧ (r.seq x).lockout = (p.seq x).lockout) ∧
    (sequence → ∀ x, (p.seq x).state ≠ .LOCKOUT →
      ((p.seq x).state = .CLOSE_WAIT → settled x ∨ (p.dc.seq.get x).isSome = true) →
      (p.position x = .OPEN → (r.seq x).state = .LOCKOUT ∧
        (f.op.poles.has x = false → (p.seq x).ganged = false → (r.seq x).lockout = some .GANG)) ∧
      (p.position x ≠ .OPEN → (r.seq x).state = .LOCKOUT ∨ r.dc.pendingPoles.has x = true)) ∧
    (¬ sequence → r.dc.trip = p.dc.trip ∧ ∀ x, f.op.poles.has x = false → f.moved.has x = false →
      (p.seq x).ganged = false → r.seq x = p.seq x)

/-! ### Operating energy -/

/-- The judgement of the Energy Unit at the end of an event (R119, R120, R121, R124, R125, R126, R130), where every pole of a waiting
unit has an entry: the trip reserve is 8 BU for each pole it counts; a first unit whose 14 BU a pole fit a FRESH level is granted,
its entries PENDING, its reservations in the list and its place in the order given up; a first unit that does not fit, or that has
split back with no claim released since, holds back the whole waiting order; a level that is absent or STALE grants nothing
and judges no deficit; and the deficit flag becomes SET below the trip reserve and ARMED again at 8 BU above it. How the model
knows a unit that has split back is assumption 42. -/
def Obligations.EnergyIsJudged : Prop :=
  ∀ p : Part, (∀ u ∈ p.nu.waiting, ∀ x, u.has x = true → (p.dc.seq.get x).isSome = true) →
    let q := refresh p
    q.nu.tripReserve = 8 * q.counted.count ∧
    let barred := fun (u : PoleSet) => u.overlaps p.nu.split = true ∧ p.nu.tripReserve ≤ 8 * p.counted.count
    (∀ u us, p.nu.waiting = u :: us → barred u ∨ p.nu.freshCovers (p.listSum + 14 * u.count) = false →
      q.nu.waiting = p.nu.waiting ∧ q.nu.closes = p.nu.closes ∧ q.dc.seq = p.dc.seq) ∧
    (∀ u us, p.nu.waiting = u :: us → ¬ barred u → p.nu.freshCovers (p.listSum + 14 * u.count) = true →
      (∀ x, u.has x = true → q.dc.seq.get x = some .PENDING ∧ ⟨.SEQ x, 14⟩ ∈ q.nu.closes) ∧
        (∀ r ∈ p.nu.closes, r ∈ q.nu.closes) ∧ ∃ after, us = after ++ q.nu.waiting) ∧
    (p.nu.level = none ∨ p.nu.fresh = false →
      q.nu.waiting = p.nu.waiting ∧ q.nu.closes = p.nu.closes ∧ q.nu.deficit = p.nu.deficit) ∧
    (∀ l, p.nu.level = some l → p.nu.fresh = true →
      (p.nu.deficit = false → (q.nu.deficit = true ↔ l < q.nu.tripReserve)) ∧
      (p.nu.deficit = true → (q.nu.deficit = false ↔ q.nu.tripReserve + 8 ≤ l)))

/-! ### Settings -/

/-- EDIT BEGIN on a free link that may send it (R84): a target outside 1 to 5 is refused RANGE; without a claim, or with the
link's own in EDITING, the link holds the claim with the target's applied values and 300 s on the timer; the other link's
claim is LOCKED and its own held commit BUSY, and neither changes. -/
def Obligations.EditBeginTakesClaim : Prop :=
  ∀ (l : Link) (tag target : Byte) (s : State), s.taken l (.editBegin target) →
    ∃ t, exec (.editBegin l tag target) s = .next t ∧ t.part.pu = { s.found.pu with claim := t.part.pu.claim } ∧
      sameExcept (.pu :: Block.watch) s.found t.part ∧ t.part.rs = s.found.rs ∧ t.part.dc.poles = s.found.dc.poles ∧
      let gives := fun c => answered l (.editBegin target) tag c [] s.found t.part
      (targetOf target.toNat s.found.pu = none ↔ target.toNat = 0 ∨ 5 < target.toNat) ∧
      (target.toNat = 0 ∨ 5 < target.toNat → gives .RANGE) ∧
      (∀ q, targetOf target.toNat s.found.pu = some q →
        ((1 ≤ target.toNat ∧ target.toNat ≤ 4 ∧ q = .group target.toNat (s.found.pu.groups.get target.toNat)) ∨
          (target.toNat = 5 ∧ q = .unit s.found.pu.unit)) ∧
        (s.found.pu.claim = none → gives .DONE ∧ t.part.pu.claim = some ⟨l, q, .EDITING 300000⟩) ∧
        (∀ c, s.found.pu.claim = some c →
          (c.holder ≠ l → gives .LOCKED ∧ t.part.pu.claim = some c) ∧
          (∀ n, c.holder = l → c.state = .EDITING n → gives .DONE ∧ t.part.pu.claim = some ⟨l, q, .EDITING 300000⟩) ∧
          (∀ tg, c.holder = l → c.state = .COMMIT_WAIT tg → gives .BUSY ∧ t.part.pu.claim = some c)))

/-- EDIT PUT on a free link that may send it (R85, R208): every item is written into the pending set, or none is and the
answer RANGE names the first that fails, by its position in the body from 1 and then its field number (R208, R209; the order of
those two bytes is the model's reading, assumption 21); the claim timer is at 300 s either way. Without the claim the answer is NOT_FOUND
or LOCKED, and BUSY for a held commit. -/
def Obligations.EditPutWritesItems : Prop :=
  ∀ (l : Link) (tag : Byte) (body : List Byte) (s : State), s.taken l (.editPut body) →
    ∃ t, exec (.editPut l tag body) s = .next t ∧ t.part.pu = { s.found.pu with claim := t.part.pu.claim } ∧
      sameExcept (.pu :: Block.watch) s.found t.part ∧ t.part.rs = s.found.rs ∧ t.part.dc.poles = s.found.dc.poles ∧
      let gives := fun c content => answered l (.editPut body) tag c content s.found t.part
      (s.found.pu.claim = none → gives .NOT_FOUND [] ∧ t.part.pu.claim = none) ∧
      (∀ c, s.found.pu.claim = some c →
        (c.holder ≠ l → gives .LOCKED [] ∧ t.part.pu.claim = some c) ∧
        (∀ tg, c.holder = l → c.state = .COMMIT_WAIT tg → gives .BUSY [] ∧ t.part.pu.claim = some c) ∧
        (∀ n, c.holder = l → c.state = .EDITING n →
          (∀ q, putItems body c.pending = .ok q →
            gives .DONE [] ∧ t.part.pu.claim = some ⟨l, q, .EDITING 300000⟩) ∧
          (∀ k f, putItems body c.pending = .error (k, f) →
            gives .RANGE [byte k, byte f] ∧ t.part.pu.claim = some ⟨l, c.pending, .EDITING 300000⟩)))

/-- EDIT COMMIT and EDIT DROP by the holder on a free link (R86, R88). COMMIT in EDITING: a failing check is refused RANGE with
its position; a group in use while the Sequencer is not quiescent is held; any other group, and a UNIT record, is applied,
the claim released, and the answer waits for the write. DROP releases the claim; a held commit's END CANCELLED goes before
the answer DONE, and the groups keep their values. -/
def Obligations.CommitAndDropEndClaim : Prop :=
  ∀ (l : Link) (tag : Byte) (s : State) (c : Claim), s.found.pu.claim = some c → c.holder = l →
    (∀ n, c.state = .EDITING n → s.taken l .editCommit →
      ∃ t, exec (.editCommit l tag) s = .next t ∧ sameExcept (.pu :: .rs :: Block.watch) s.found t.part ∧
        (∀ k, c.pending.firstFailing = some k → answered l .editCommit tag .RANGE [byte k] s.found t.part ∧
          t.part.pu = { s.found.pu with claim := some { c with state := .EDITING 300000 } }) ∧
        (c.pending.firstFailing = none →
          (∀ u, c.pending = .unit u → t.part.pu = { s.found.pu with unit := u, claim := none } ∧
            awaits l .editCommit tag t.part ∧ t.part.bc.capacity = u.capacity ∧ t.part.rs.unit.busy = true) ∧
          (∀ k g, c.pending = .group k g → s.found.pu.inUse k = true → s.found.sq.quiescent = false →
            answered l .editCommit tag .STARTED [] s.found t.part ∧
              t.part.pu = { s.found.pu with claim := some { c with state := .COMMIT_WAIT tag } }) ∧
          (∀ k g, c.pending = .group k g → s.found.pu.inUse k = false ∨ s.found.sq.quiescent = true →
            awaits l .editCommit tag t.part ∧ (t.part.rs.get (groupItem k)).busy = true ∧ t.part.dc.poles = s.found.dc.poles ∧
              t.part.pu = { s.found.pu with groups := s.found.pu.groups.set k g, claim := none }))) ∧
    (s.taken l .editDrop →
      ∃ t, exec (.editDrop l tag) s = .next t ∧ t.part.pu = { s.found.pu with claim := none } ∧ t.part.rs = s.found.rs ∧
        (∀ n, c.state = .EDITING n → answered l .editDrop tag .DONE [] s.found t.part) ∧
        (∀ tg, c.state = .COMMIT_WAIT tg → ∃ after, (t.part.li.get l).outbound = (s.found.li.get l).outbound ++
          [.endMsg tg (.settings .CANCELLED), .answer 0xB3 tag .DONE []] ++ after))

/-- SELECT GROUP on a free link that may send it (R90): RANGE outside 1 to 4; the selected group is DONE at once; another is
applied while the Sequencer is quiescent, its answer waiting for the write, and is held otherwise, answered STARTED. No
other selection is held afterwards. -/
def Obligations.SelectGroupAppliesOrHolds : Prop :=
  ∀ (l : Link) (tag group : Byte) (s : State), s.taken l (.selectGroup group) →
    ∃ t, exec (.selectGroup l tag group) s = .next t ∧ t.part.pu.groups = s.found.pu.groups ∧ sameExcept (.pu :: .rs :: Block.watch) s.found t.part ∧
      let n := group.toNat
      let gives := fun c => answered l (.selectGroup group) tag c [] s.found t.part
      (n = 0 ∨ 4 < n → gives .RANGE ∧ t.part.pu.selected = s.found.pu.selected ∧ t.part.pu.held = s.found.pu.held) ∧
      (1 ≤ n → n ≤ 4 →
        (n = s.found.pu.selected → gives .DONE ∧ t.part.pu.selected = n ∧ t.part.pu.held = none) ∧
        (n ≠ s.found.pu.selected → s.found.sq.quiescent = true → awaits l (.selectGroup group) tag t.part ∧
          t.part.pu.selected = n ∧ t.part.pu.held = none ∧ t.part.rs.selected.busy = true) ∧
        (n ≠ s.found.pu.selected → s.found.sq.quiescent = false → gives .STARTED ∧
          t.part.pu.selected = s.found.pu.selected ∧ t.part.pu.held = some ⟨n, l, tag⟩))

/-- The override frames and the claim timer (R81, R82, R89): TEMPORARY GROUP in range enters or replaces the frame with its
whole duration, out of range it is refused; TEMPORARY CANCEL and the expiry take it away; COLD_LOAD_EXPIRY takes the
COLD_LOAD frame away; CLAIM_TIMER_EXPIRY releases a claim in EDITING and leaves one in COMMIT_WAIT. The effective profile (R78,
R79): HOT_LINE stands before TEMPORARY, that before COLD_LOAD, and the selected group is in force without a frame; each frame's
settings are those of the groups, changed as R78 tables. Where one of those commands changes the effective profile, the Sequencer
judges its running dead timers against it (R52), and its pole mode is in force at once where every pole rests and the drive holds
nothing (`Part.isQuiescent`), and otherwise is the pending mode, or drops it (R71, R72). A PROFILE_CHANGE record gives the source and
the selected group (the group byte of a source that names no group is assumption 20); where none changes, there is no such record.
A pending mode is taken in the middle of a message too (R38, R47, R71, R72): once the pickups and the dropouts of a message have reached
the Sequencer, and once the return of measurement to OK has emptied the pickup set, it is in force where every pole then rests and
the drive holds nothing, and still pending otherwise; the trip decision of the message is made after that. -/
def Obligations.FramesAndClaimEnd : Prop :=
  (∀ (tag group : Byte) (seconds : Long) (s : State), s.part.on = true →
    let tells := fun (t : State) =>
      let e := t.part.pu.effective
      let selected := byte s.found.pu.selected
      (e = s.found.pu.effective → (∀ x, (t.part.seq x).newValue = (s.found.seq x).newValue) ∧
        ∀ r ∈ t.part.ru.queue, r.kind = .PROFILE_CHANGE → r ∈ s.found.ru.queue) ∧
      (e ≠ s.found.pu.effective →
        (∀ x, (t.part.seq x).newValue = true ↔
          (t.part.seq x).deadTimer.isSome = true ∧ (t.part.seq x).deadLength ≠ deadTimeOf e.set (t.part.seq x).shot) ∧
        (s.found.isQuiescent = true → t.part.sq.mode = e.set.mode ∧ t.part.sq.pendingMode = none) ∧
        (s.found.isQuiescent = false → t.part.sq.mode = s.found.sq.mode ∧
          t.part.sq.pendingMode = if e.set.mode = s.found.sq.mode then none else some e.set.mode) ∧
        (s.found.ru.queue.length < 31 → ∃ r ∈ t.part.ru.queue, r.kind = .PROFILE_CHANGE ∧ r.last = s.found.tb ∧
          r.body = match e.source with
            | .GROUP n => [1, byte n, selected]
            | .HOT_LINE => [2, 0, selected]
            | .TEMPORARY n => [3, byte n, selected]
            | .COLD_LOAD => [4, 0, selected]))
    (s.taken .RADIO (.temporaryGroup group seconds) →
      ∃ t, exec (.temporaryGroup .RADIO tag group seconds) s = .next t ∧ tells t ∧ sameExcept (.pu :: .rs :: Block.watch) s.found t.part ∧
        (1 ≤ group.toNat → group.toNat ≤ 4 → 60 ≤ seconds.toNat → seconds.toNat ≤ 86400 →
          answered .RADIO (.temporaryGroup group seconds) tag .DONE [] s.found t.part ∧
            t.part.pu.temporary = some ⟨group.toNat, seconds.toNat * 1000⟩) ∧
        (¬ (1 ≤ group.toNat ∧ group.toNat ≤ 4 ∧ 60 ≤ seconds.toNat ∧ seconds.toNat ≤ 86400) →
          answered .RADIO (.temporaryGroup group seconds) tag .RANGE [] s.found t.part ∧
            t.part.pu.temporary = s.found.pu.temporary)) ∧
    (s.taken .RADIO .temporaryCancel →
      ∃ t, exec (.temporaryCancel .RADIO tag) s = .next t ∧ tells t ∧ t.part.pu.temporary = none ∧
        sameExcept (.pu :: .rs :: Block.watch) s.found t.part ∧
        answered .RADIO .temporaryCancel tag (if s.found.pu.temporary.isSome then .DONE else .NOT_FOUND) [] s.found t.part) ∧
    (∃ t, exec .temporaryExpiry s = .next t ∧ tells t ∧ t.part.pu.temporary = none ∧ t.part.pu.selected = s.found.pu.selected ∧
      sameExcept (.pu :: .rs :: Block.watch) s.found t.part) ∧
    (∃ t, exec .coldLoadExpiry s = .next t ∧ tells t ∧ t.part.pu = { s.found.pu with coldLoad := none } ∧
      sameExcept (.pu :: Block.watch) s.found t.part) ∧
    (∃ t, exec .claimTimerExpiry s = .next t ∧ t.part.rs = s.found.rs ∧ sameExcept (.pu :: Block.watch) s.found t.part ∧
      (∀ c n, s.found.pu.claim = some c → c.state = .EDITING n → t.part.pu = { s.found.pu with claim := none }) ∧
      (∀ c tg, s.found.pu.claim = some c → c.state = .COMMIT_WAIT tg → t.part.pu = s.found.pu))) ∧
  (∀ u : ProfileUnit,
    let g := u.groups.get u.selected
    (u.hotLine = true → u.effective =
      ⟨.HOT_LINE, { g with fast := [⟨10, 0⟩], delayed := [⟨10, 0⟩], opsToLockout := 1, fastOps := 1 }⟩) ∧
    (u.hotLine = false → ∀ f, u.temporary = some f → u.effective = ⟨.TEMPORARY f.group, u.groups.get f.group⟩) ∧
    (u.hotLine = false → u.temporary = none → u.coldLoad.isSome = true → u.effective =
      ⟨.COLD_LOAD, { g with
        phasePickup := g.phasePickup * g.coldMult / 10, groundPickup := g.groundPickup * g.coldMult / 10 }⟩) ∧
    (u.hotLine = false → u.temporary = none → u.coldLoad = none → u.effective = ⟨.GROUP u.selected, g⟩)) ∧
  ∀ p : Part,
    (∀ q : Part, q = formPickups p ∨ q = recover p →
      (q.isQuiescent = true → q.sq.mode = p.sq.pendingMode.getD p.sq.mode ∧ q.sq.pendingMode = none) ∧
      (q.isQuiescent = false → q.sq.mode = p.sq.mode ∧ q.sq.pendingMode = p.sq.pendingMode)) ∧
    ∀ v : Values, evaluate v p = tripDecision v (formPickups { p with
      eu := { p.eu with phase := p.phaseSteps p.profile v, ground := p.groundStep p.profile v } })

/-- HELD_SETTINGS_APPLY at quiescence (R87, R91): the held commit's group takes its pending set and the claim is released, the
held selection is in force, and each END message waits for its own write. -/
def Obligations.HeldSettingsTakeForce : Prop :=
  ∀ s : State, s.part.on = true → s.part.heldDue = true →
    ∃ t, exec .heldSettingsApply s = .next t ∧ t.part.pu.held = none ∧ t.part.pu.heldCommit = none ∧ sameExcept (.pu :: .rs :: Block.watch) s.part t.part ∧
      t.part.dc.poles = s.part.dc.poles ∧
      (∀ h, s.part.pu.held = some h → t.part.pu.selected = h.group ∧ t.part.rs.selected.waiting =
        s.part.rs.selected.waiting ++ [⟨s.part.rs.selected.writing.isSome, .settings h.link h.tag⟩]) ∧
      (∀ l tg n g, s.part.pu.heldCommit = some (l, tg, n, g) → t.part.pu.groups = s.part.pu.groups.set n g ∧
        t.part.pu.claim = none ∧ (t.part.rs.get (groupItem n)).waiting = (s.part.rs.get (groupItem n)).waiting ++
          [⟨(s.part.rs.get (groupItem n)).writing.isSome, .settings l tg⟩])

/-! ### Tags, the roster and the time -/

/-- TAG APPLY and TAG REMOVE that pass their checks on a free link (R100 to R104): the record stands at the end of the table
with the next number, or is out of it; the first HOT_LINE tag brings the HOT_LINE frame and the last takes it away; the
answer waits for the table's write. -/
def Obligations.TagsAreAppliedAndRemoved : Prop :=
  (∀ (l : Link) (tag kind poles : Byte) (crew : Half) (note : List Byte) (s : State) (k : TagKind) (ps : PoleSet),
    s.taken l (.tagApply kind poles crew note) → TagKind.ofCode kind.toNat = some k → note.length ≤ 16 →
    note.all printable = true → tagPoles k poles = some ps → tagRefusal l k ps crew.toNat s.found = none →
    ∃ t, exec (.tagApply l tag kind poles crew note) s = .next t ∧
      sameExcept (.pu :: .tu :: .rs :: Block.watch) s.found t.part ∧
      t.part.tu.tags = s.found.tu.tags ++ [⟨s.found.tu.nextTag, k, ps, crew.toNat, l == .CREW, s.found.tb, note⟩] ∧
      t.part.tu.roster = s.found.tu.roster ∧ (k ≠ .HOT_LINE → t.part.dc.poles = s.found.dc.poles) ∧
      awaits l (.tagApply kind poles crew note) tag t.part ∧
      t.part.rs.tags.waiting = s.found.rs.tags.waiting ++ [⟨s.found.rs.tags.writing.isSome,
        .answer l (s.found.li.get l).wakes 0xA0 tag [byte s.found.tu.nextTag]⟩] ∧
      (k = .HOT_LINE → s.found.tu.hotLine = false → t.part.pu.hotLine = true) ∧
      (k ≠ .HOT_LINE → t.part.pu.hotLine = s.found.pu.hotLine) ∧
      (k = .HOT_LINE → (LinkClose.poles s.found.dc.crew).isEmpty = false → t.part.dc.crew = none)) ∧
  (∀ (l : Link) (tag number : Byte) (crew : Half) (s : State) (g : Tag) (who : Remover),
    s.taken l (.tagRemove number crew) → tagRemoval l number.toNat crew.toNat s.found.tu = .ok (g, who) →
    ∃ t, exec (.tagRemove l tag number crew) s = .next t ∧
      sameExcept (.pu :: .tu :: .rs :: Block.watch) s.found t.part ∧
      t.part.tu = { s.found.tu with tags := s.found.tu.tags.filter fun h => h.number != number.toNat } ∧
      t.part.dc.poles = s.found.dc.poles ∧
      (∀ x, (t.part.seq x).state = (s.found.seq x).state ∧ (t.part.seq x).lockout = (s.found.seq x).lockout) ∧
      awaits l (.tagRemove number crew) tag t.part ∧ t.part.rs.tags.busy = true ∧
      (g.kind = .HOT_LINE → t.part.tu.hotLine = false → t.part.pu.hotLine = false))

/-- ROSTER PUT and ROSTER DROP taken on a free radio link, and ROSTER_EXPIRY (R95, R96, R97): the crew's entry is VALID with the
rights and the valid-until given, or gone, its answer waiting for the write; at the expiry it is EXPIRED. No tag changes. -/
def Obligations.RosterChanges : Prop :=
  ∀ (tag : Byte) (crew : Half) (s : State), s.part.on = true →
    (∀ (rights presence : Byte) (v : Long) (r : Rights) (u : Option Nat),
      s.taken .RADIO (.rosterPut crew rights presence v) → Rights.ofByte rights = some r →
      validUntilOf presence v = some u → 1 ≤ crew.toNat → crew.toNat ≤ 9999 → pastValidUntil u s.found.tb = false →
      (s.found.tu.entry crew.toNat).isSome = true ∨ s.found.tu.roster.length < 16 →
      ∃ t, exec (.rosterPut .RADIO tag crew rights presence v) s = .next t ∧
        sameExcept (.pu :: .tu :: .rs :: Block.watch) s.found t.part ∧
        t.part.tu.entry crew.toNat = some ⟨crew.toNat, r, u, true⟩ ∧ t.part.tu.tags = s.found.tu.tags ∧
        (∀ d, d ≠ crew.toNat → t.part.tu.entry d = s.found.tu.entry d) ∧
        awaits .RADIO (.rosterPut crew rights presence v) tag t.part ∧ t.part.rs.roster.busy = true) ∧
    (s.taken .RADIO (.rosterDrop crew) → 1 ≤ crew.toNat → crew.toNat ≤ 9999 →
      (s.found.tu.entry crew.toNat).isSome = true → s.found.tu.held crew.toNat = 0 →
      ∃ t, exec (.rosterDrop .RADIO tag crew) s = .next t ∧
        sameExcept (.pu :: .tu :: .rs :: Block.watch) s.found t.part ∧ t.part.tu.entry crew.toNat = none ∧
        t.part.tu.tags = s.found.tu.tags ∧ (∀ d, d ≠ crew.toNat → t.part.tu.entry d = s.found.tu.entry d) ∧
        awaits .RADIO (.rosterDrop crew) tag t.part ∧ t.part.rs.roster.busy = true) ∧
    (∀ e, s.found.tu.entry crew.toNat = some e → e.valid = true → e.validUntil.isSome = true → s.found.tb.isSet = true →
      ∃ t, exec (.rosterExpiry crew) s = .next t ∧ sameExcept (.tu :: .rs :: Block.watch) s.found t.part ∧
        t.part.tu.entry crew.toNat = some { e with valid := false } ∧
        t.part.tu.tags = s.found.tu.tags ∧ (∀ d, d ≠ crew.toNat → t.part.tu.entry d = s.found.tu.entry d) ∧
        t.part.rs.roster.busy = true)

/-- SET TIME on a free radio link (R97, R202): milliseconds above 999 are refused RANGE; otherwise the count and SET are in force
in one event, the answer is DONE, and no entry whose valid-until the count has reached is still VALID. -/
def Obligations.SetTimeJudgesRoster : Prop :=
  ∀ (tag : Byte) (seconds : Long) (millis : Half) (s : State), s.taken .RADIO (.setTime seconds millis) →
    ∃ t, exec (.setTime .RADIO tag seconds millis) s = .next t ∧
      sameExcept (.pu :: .tu :: .tb :: .rs :: Block.watch) s.found t.part ∧ t.part.tu.tags = s.found.tu.tags ∧
      t.part.dc.poles = s.found.dc.poles ∧
      (999 < millis.toNat → answered .RADIO (.setTime seconds millis) tag .RANGE [] s.found t.part ∧
        t.part.tb = s.found.tb ∧ t.part.tu = s.found.tu) ∧
      (millis.toNat ≤ 999 → answered .RADIO (.setTime seconds millis) tag .DONE [] s.found t.part ∧
        t.part.tb = ⟨seconds.toNat, millis.toNat, true⟩ ∧
        ∀ e ∈ t.part.tu.roster, e.valid = true → ∀ v, e.validUntil = some v → seconds.toNat < v)

/-! ### The battery -/

/-- SUPPLY_SENSE_CHANGE (R141, R142, R155, R192): the supply field follows the input; at a loss in any part state a test ends and
the charger is OFF; at a return in RUN the charger takes its mode by the per-mille SoC and a wait ends; at a return in
DORMANT the part wakes with both links powered and the charger in BULK. -/
def Obligations.SupplyIsFollowed : Prop :=
  ∀ (present : Bool) (s : State), s.part.on = true →
    ∃ t, exec (.supplySenseChange present) s = .next t ∧ t.part.bc.supply = present ∧ sameExcept (.rs :: Block.watch) s.found t.part ∧
      t.part.pu = s.found.pu ∧
      (s.found.bc.supply = true → present = false →
        t.part.bc.mode = .OFF ∧ t.part.bc.testOpen = false ∧ t.part.bc.partState = s.found.bc.partState) ∧
      (s.found.bc.supply = false → present = true → s.found.bc.partState = .RUN → s.found.bc.testRunning = false →
        t.part.bc.wait = none ∧
        t.part.bc.mode = if s.found.bc.soc * 1000 / s.found.bc.capacity < 900 then .BULK else .FLOAT) ∧
      (s.found.bc.supply = false → present = true → s.found.bc.partState = .DORMANT → s.found.bc.testRunning = false →
        t.part.bc.partState = .RUN ∧ t.part.bc.procPower = true ∧ t.part.bc.mode = .BULK ∧
        t.part.li.radio.powered = true ∧ t.part.li.protection.powered = true ∧ t.part.li.radio.under = none ∧
        t.part.li.radio.waiting = [] ∧ t.part.li.protection.waiting = [])

/-- The timers of the charger and of the charge count (R137, R138, R142, R143, R147): a taper run that has lasted sets the SoC to
capacity; the periodic write hands the SoC on; ABSORB moves to FLOAT at the end of either of its timers and FLOAT to BULK at
the end of the low run: on the lines while no test runs, and with a test running, which no cause suspends, the mode to
restore moves and the lines stay. -/
def Obligations.ChargerTimersAct : Prop :=
  ∀ s : State, s.part.on = true →
    let moves := fun (m : ChargerMode) (t : State) => t.part.bc.soc = s.found.bc.soc ∧
      (s.found.bc.testRunning = false → t.part.bc.mode = m ∧ t.part.bc.test = s.found.bc.test) ∧
      (s.found.bc.testRunning = true → testCause s.found = false → s.found.nu.waiting = [] →
        t.part.bc.mode = s.found.bc.mode ∧ t.part.bc.test = { s.found.bc.test with restore := some m }) ∧
      sameExcept Block.watch s.found t.part
    let floats := fun (t : State) => t.part.bc.absorbTime = none ∧ t.part.bc.absorbTaper = none ∧ moves .FLOAT t
    (s.found.bc.taperRun.isSome = true → ∃ t, exec .taperResync s = .next t ∧ t.part.bc.soc = s.found.bc.capacity ∧
      t.part.bc.rem = 0 ∧ t.part.bc.taperRun = some 0 ∧ sameExcept (.rs :: Block.watch) s.found t.part) ∧
    (s.found.bc.partState = .RUN → ∃ t, exec .socPeriodicWrite s = .next t ∧ t.part.bc.socTimer = 600000 ∧
      t.part.rs.soc.busy = true ∧ t.part.bc.soc = s.found.bc.soc ∧ sameExcept (.rs :: Block.watch) s.found t.part) ∧
    (s.found.bc.absorbTaper.isSome = true → s.found.bc.inForce = .ABSORB →
      ∃ t, exec .absorbTaperExpiry s = .next t ∧ floats t) ∧
    (s.found.bc.absorbTime.isSome = true → s.found.eu.state = .OK → s.found.bc.inForce = .ABSORB →
      ∃ t, exec .absorbTimeExpiry s = .next t ∧ floats t) ∧
    (s.found.bc.floatLow.isSome = true → s.found.bc.inForce = .FLOAT →
      ∃ t, exec .floatLowExpiry s = .next t ∧ t.part.bc.floatLow = none ∧ moves .BULK t)

/-- The battery test (R146 to R151), where no unit waits for energy: BATTERY TEST is refused by the first check that fails, or
STARTED and RUNNING with the load on and the charger OFF where no cause holds; a suspended test resumes and a posted one
begins in the same way; a step counts one, and the tenth judges the drop to the least voltage; the limit of a suspension discards
the progress; an hour raises the count. -/
def Obligations.BatteryTestRuns : Prop :=
  ∀ (l : Link) (tag : Byte) (s : State), s.part.on = true → s.found.nu.waiting = [] → s.part.nu.waiting = [] →
    let runs := fun (t : State) => t.part.bc.test.state = .RUNNING ∧ t.part.bc.load = true ∧ t.part.bc.mode = .OFF
    (s.taken l .batteryTest →
      ∃ t, exec (.batteryTest l tag) s = .next t ∧ sameExcept (.pu :: Block.watch) s.found t.part ∧
        (∀ c, testRefusal s.found = some c → answered l .batteryTest tag c [] s.found t.part ∧
          t.part.bc.test.origin = s.found.bc.test.origin) ∧
        (testRefusal s.found = none → answered l .batteryTest tag .STARTED [] s.found t.part ∧
          t.part.bc.test.tag = some tag ∧ t.part.bc.test.steps = 0 ∧
          (testCause s.found = false → runs t ∧ t.part.bc.test.restore = some s.found.bc.mode) ∧
          (testCause s.found = true → t.part.bc.test.state = .SUSPENDED ∧ t.part.bc.test.before = none ∧
            t.part.bc.mode = s.found.bc.mode))) ∧
    (resumeDue s.part = true → ∃ t, exec .testResume s = .next t ∧ runs t ∧ t.part.bc.test.steps = s.part.bc.test.steps ∧
      t.part.bc.test.restore = some s.part.bc.mode ∧ sameExcept Block.watch s.part t.part) ∧
    (periodicDue s.part = true → ∃ t, exec .periodicTestBegin s = .next t ∧ runs t ∧ t.part.bc.test.origin = some .PERIODIC ∧
      t.part.bc.test.steps = 0 ∧ sameExcept Block.watch s.part t.part) ∧
    (s.found.bc.testRunning = true → ∃ t, exec .testStepComplete s = .next t ∧
      t.part.bc.test.steps = s.found.bc.test.steps + 1 ∧ sameExcept (.rs :: Block.watch) s.found t.part ∧
      (s.found.bc.test.steps = 9 → ∀ b m v, s.found.bc.test.before = some b → s.found.bc.test.minimum = some m →
        s.found.bc.vals.map (fun w => w.voltage) = some v →
        let drop := b - min m v
        let res : TestResult := if s.found.pu.unit.failedDrop ≤ drop then .FAILED
          else if s.found.pu.unit.weakDrop ≤ drop then .WEAK else .GOOD
        t.part.bc.test.state = .DONE res ∧ t.part.bc.test.drop = some drop ∧ t.part.bc.health = res.health ∧
          t.part.bc.load = false ∧ t.part.bc.hours = 0 ∧ t.part.bc.posted = false)) ∧
    (s.found.bc.test.state = .SUSPENDED → ∃ t, exec .testSuspendLimit s = .next t ∧
      t.part.bc.test = { s.found.bc.test with steps := 0, before := none, minimum := none, suspendedMs := 600000 } ∧
      sameExcept Block.watch s.found t.part) ∧
    (s.found.bc.supply = true → s.found.bc.partState = .RUN → ∃ t, exec .testIntervalHour s = .next t ∧
      t.part.bc.hours = min 720 (s.found.bc.hours + 1) ∧ t.part.bc.intervalMs = 0 ∧ t.part.rs.hours.busy = true ∧
      (t.part.bc.posted = true ↔ s.found.bc.posted = true ∨ s.found.pu.unit.testHours ≤ min 720 (s.found.bc.hours + 1)) ∧
      sameExcept (.rs :: Block.watch) s.found t.part)

/-- EXHAUSTION_WAIT_EXPIRY and DORMANT_ENTRY (R131, R153, R154, R175, R191): the wait has no time left; once it is complete the
part is DORMANT, the processors and their links without power and their lists empty, no permit, call, claim or held request
is left, and measurement is WAITING. -/
def Obligations.ExhaustionEndsInDormant : Prop :=
  ∀ s : State, s.part.on = true →
    (∀ w, s.found.bc.wait = some w → ∃ t, exec .exhaustionWaitExpiry s = .next t ∧
      t.part.bc.wait = some { w with remaining := 0 } ∧ t.part.bc.partState = s.found.bc.partState ∧ sameExcept Block.watch s.found t.part) ∧
    (s.part.dormantDue = true → ∃ t, exec .dormantEntry s = .next t ∧ t.part.bc.partState = .DORMANT ∧
      t.part.bc.procPower = false ∧ t.part.bc.wait = none ∧ t.part.li.radio = s.part.li.radio.unpowered ∧
      t.part.li.protection = s.part.li.protection.unpowered ∧ t.part.ru.permits = 0 ∧ t.part.ru.used = 0 ∧
      t.part.ru.statusTimer = none ∧ t.part.ru.sending = false ∧ t.part.ru.called = false ∧ t.part.eu.state = .WAITING ∧
      t.part.pu.claim = none ∧ t.part.pu.held = none ∧ t.part.nu.fresh = false ∧ t.part.nu.charger = false ∧
      sameExcept (.eu :: .pu :: .rs :: .restart :: Block.watch) s.part t.part ∧ t.part.dc.poles = s.part.dc.poles ∧ t.part.restart = none)

/-! ### Reports, permits and the store -/

/-- Permits and calls (R168, R170, R173): PERMIT GRANT of 1 to 16 gives the lesser of the sum and 16 and answers it, the use
count starts again, and another number is refused RANGE; at the repeat timer's expiry the block ends, and a call sent again
has the timer at 30 s; at the status interval's expiry the counter starts again and a snapshot stands in a queue with
room. -/
def Obligations.PermitsAndCalls : Prop :=
  ∀ (tag n : Byte) (s : State), s.part.on = true →
    (s.taken .RADIO (.permitGrant n) → ∃ t, exec (.permitGrant .RADIO tag n) s = .next t ∧ sameExcept (.pu :: Block.watch) s.found t.part ∧
      (1 ≤ n.toNat → n.toNat ≤ 16 → t.part.ru.permits = min 16 (s.found.ru.permits + n.toNat) ∧ t.part.ru.used = 0 ∧
        answered .RADIO (.permitGrant n) tag .DONE [byte (min 16 (s.found.ru.permits + n.toNat))] s.found t.part) ∧
      (n.toNat = 0 ∨ 16 < n.toNat → t.part.ru.permits = s.found.ru.permits ∧
        answered .RADIO (.permitGrant n) tag .RANGE [] s.found t.part)) ∧
    (s.found.ru.called = true → ∃ t, exec .permitCallRepeatExpiry s = .next t ∧ t.part.ru.permits = s.found.ru.permits ∧
      (t.part.ru.called = true → t.part.ru.callTimer = some 30000) ∧
      (t.part.ru.called = false → t.part.ru.callTimer = none) ∧
      ({ s.found.ru with called := false }.callDue s.found.pu.unit.callThreshold = true → t.part.ru.called = true) ∧
      sameExcept Block.watch s.found t.part) ∧
    (s.found.ru.statusTimer.isSome = true → ∃ t, exec .statusIntervalExpiry s = .next t ∧
      t.part.ru.statusTimer = some (s.found.pu.unit.statusMin * 60000) ∧ sameExcept Block.watch s.found t.part ∧
      (s.found.ru.queue.length < 31 →
        ∃ r ∈ t.part.ru.queue, r.kind = .SNAPSHOT ∧ r.body = snapshotBody s.found ∧ r.last = s.found.tb))

/-- REPORT_SEND where it is due (R165, R166): one record leaves the queue as a REPORT message, flagged where a gap was pending;
one permit is used, the use count rises and the sender is TRANSMITTING. The oldest EXHAUSTION record goes first, and otherwise
the oldest record of the highest class that is sent at the energy level.
A report as it is entered (R160 to R163). An ENERGY or STATUS report merges into the record of its kind and pole set, which keeps
its number, its first time and its place; another joins the end of a queue with room under the next number. At a full queue the
oldest record of the lowest class present makes room where that class is lower; where all are ALARM, the oldest that is not
EXHAUSTION makes room for EXHAUSTION; otherwise the new record is discarded. Either way a gap is pending. -/
def Obligations.ReportIsSent : Prop :=
  (∀ s : State, s.part.on = true → s.part.ru.sendDue = true →
    ∃ t r, exec .reportSend s = .next t ∧ r ∈ s.part.ru.queue ∧ t.part.ru.permits + 1 = s.part.ru.permits ∧
      t.part.ru.used = s.part.ru.used + 1 ∧ t.part.ru.sending = true ∧
      (s.part.li.radio.powered = true → .report { r with gap := s.part.ru.gapPending } ∈ t.part.li.radio.outbound) ∧
      (reportSend s.part).ru.queue = s.part.ru.queue.erase r ∧
      (∀ e ∈ s.part.ru.queue, e.kind = .EXHAUSTION → s.part.ru.queue.find? (fun q => q.kind == .EXHAUSTION) = some r) ∧
      ((∀ e ∈ s.part.ru.queue, e.kind ≠ .EXHAUSTION) →
        s.part.ru.queue.find? (fun q => q.kind.cls == r.kind.cls) = some r ∧ classSent s.part.ru.level r.kind.cls = true ∧
        ∀ e ∈ s.part.ru.queue, classSent s.part.ru.level e.kind.cls = true → r.kind.cls.code ≤ e.kind.cls.code) ∧
      sameExcept Block.watch s.part t.part ∧ t.part.dc.poles = s.part.dc.poles) ∧
  ∀ (kind : ReportKind) (poles : Option PoleSet) (body : List Byte) (p : Part),
    let q := enterReport kind poles body p
    let queue := p.ru.queue
    let new : Report := ⟨p.ru.nextNumber, kind, poles, p.tb, p.tb, 1, false, body⟩
    let next := if p.ru.nextNumber < 65535 then p.ru.nextNumber + 1 else 0
    let matching := fun (e : Report) => (kind.cls = .ENERGY ∨ kind.cls = .STATUS) ∧ e.kind = kind ∧ e.poles = poles
    let full := 32 ≤ queue.length ∧ ∀ e ∈ queue, ¬ matching e
    let replaces := fun (i : Nat) => q.ru.queue = queue.eraseIdx i ++ [new] ∧ q.ru.nextNumber = next ∧ q.ru.gapPending = true
    sameExcept [.ru, .li] p q ∧ q.ru.permits = p.ru.permits ∧ q.ru.used = p.ru.used ∧ q.ru.sending = p.ru.sending ∧
    (∀ i r, queue[i]? = some r → matching r → (∀ e ∈ queue.take i, ¬ matching e) →
      q.ru.queue = queue.set i { r with count := min 255 (r.count + 1), last := p.tb, body := body } ∧
        q.ru.nextNumber = p.ru.nextNumber ∧ q.ru.gapPending = p.ru.gapPending) ∧
    (queue.length < 32 → (∀ e ∈ queue, ¬ matching e) →
      q.ru.queue = queue ++ [new] ∧ q.ru.nextNumber = next ∧ q.ru.gapPending = p.ru.gapPending) ∧
    (full → ∀ i r, queue[i]? = some r → kind.cls.code < r.kind.cls.code →
      (∀ e ∈ queue, e.kind.cls.code ≤ r.kind.cls.code) → (∀ e ∈ queue.take i, e.kind.cls ≠ r.kind.cls) → replaces i) ∧
    (full → kind = .EXHAUSTION → (∀ e ∈ queue, e.kind.cls = .ALARM) → ∀ i r, queue[i]? = some r →
      r.kind ≠ .EXHAUSTION → (∀ e ∈ queue.take i, e.kind = .EXHAUSTION) → replaces i) ∧
    (full → (∀ e ∈ queue, e.kind.cls.code ≤ kind.cls.code) → (kind = .EXHAUSTION → ∀ e ∈ queue, e.kind = .EXHAUSTION) →
      q.ru.queue = queue ∧ q.ru.nextNumber = p.ru.nextNumber ∧ q.ru.gapPending = true)

/-- RETAINED_WRITE_END (R194 to R196): the image is in storage where the write succeeded and the fault flag is set where it
failed; a further write begins with the owner's image where dirty was set; the answers marked for this write are handed on,
DONE or DONE_NOT_RETAINED, but for those of a request that a wake has dropped (R192; how the model knows them is assumption
27), and the others wait for the further write. Without a write in progress nothing is written. -/
def Obligations.WritesEnd : Prop :=
  ∀ (i : Item) (ok : Bool) (s : State), s.part.on = true →
    ∃ t, exec (.retainedWriteEnd i ok) s = .next t ∧ sameExcept (.rs :: Block.watch) s.found t.part ∧ t.part.pu = s.found.pu ∧
      t.part.dc.poles = s.found.dc.poles ∧
      let w := s.found.rs.get i
      (w.writing = none → t.part.rs = s.found.rs) ∧
      (∀ image, w.writing = some image →
        (t.part.rs.get i).writing = (if w.dirty then some (imageOf s.found i) else none) ∧
        (t.part.rs.get i).dirty = false ∧ (t.part.rs.get i).fault = !ok ∧
        (t.part.rs.get i).stored = (if ok then .good image else w.stored) ∧
        (t.part.rs.get i).waiting = (w.waiting.filter fun a => a.further).map (fun a => { a with further := false }) ∧
        (∀ j, j ≠ i → t.part.rs.get j = s.found.rs.get j) ∧
        (∀ l n k tg c, ⟨false, .answer l n k tg c⟩ ∈ w.waiting → (s.found.li.get l).powered = true →
          n = (s.found.li.get l).wakes → (t.part.li.get l).under = none ∧
            .answer k tg (if ok then .DONE else .DONE_NOT_RETAINED) c ∈ (t.part.li.get l).outbound) ∧
        (∀ l, (∀ n k tg c, ⟨false, .answer l n k tg c⟩ ∈ w.waiting → n ≠ (s.found.li.get l).wakes) →
          (t.part.li.get l).under = (s.found.li.get l).under ∧ ∀ k tg code c,
            .answer k tg code c ∈ (t.part.li.get l).outbound → .answer k tg code c ∈ (s.found.li.get l).outbound))

/-! ### What every step keeps -/

/-- Every step keeps the capacities of the manual (`Part.bounded`): 32 report records, 16 permits, 8 tags, 16 roster entries, 16
history entries, 3 waiting requests a link, and the images of the tables. -/
def Obligations.CapacitiesAreKept : Prop :=
  ∀ s t : State, s.part.bounded = true → step s = .next t → t.part.bounded = true

/-- Every step keeps the link records as R178 to R192 leave them (`Part.linksSane`): nothing collected and no gap timer in
HUNTING, a link without power idle and empty, and the crew link powered. -/
def Obligations.LinksStaySane : Prop :=
  ∀ s t : State, s.part.linksSane = true → step s = .next t → t.part.linksSane = true

/-- Both hold of the state after reset, and so do two further invariants: the close entries as chapters 1, 3 and 6 leave them
(`Part.entriesSane`; R3, R6, R53, R65, R125), which every step keeps where the drive is sane (`Part.driveSane`, which every step keeps:
`ContactsSetPosition`), and quiescence as the poles' states and the drive give it (`Part.quiescenceSane`; R14, R71, R72), which every
step keeps. No sequencer entry stands on a pole in DEAD or TRIP_WAIT, on one with the superseded mark
or on one of a reclose in flight, and the units of the waiting order are of poles whose entries wait, no pole in two of them. No
step of the end of an operation is left open (`ending`, a field of the model's own: assumption 70), the quiescence of a part that
has power is that of its records, and no pole mode is pending where the Sequencer is quiescent. -/
def Obligations.InvariantsAtReset : Prop :=
  State.reset.part.bounded = true ∧ State.reset.part.linksSane = true ∧ State.reset.part.entriesSane = true ∧
    State.reset.part.quiescenceSane = true ∧
    (∀ s t : State, s.part.driveSane = true → s.part.entriesSane = true → step s = .next t → t.part.entriesSane = true) ∧
    ∀ s t : State, s.part.quiescenceSane = true → step s = .next t → t.part.quiescenceSane = true
end

