-- ==== Sys2Proof/Laws/Bytes.lean ====
section
/-! SUPPORT. Fields of two and four bytes read back as they were written (R205). -/

namespace Sys2Proof.Machine

/-- The number in a two-byte field. -/
theorem half_toNat (a b : Byte) : (half a b).toNat = a.toNat + 256 * b.toNat := by
  have h := a.isLt
  simp only [half, BitVec.toNat_append]
  rw [← Nat.shiftLeft_add_eq_or_of_lt (by omega)]
  simp only [Nat.shiftLeft_eq]
  omega

/-- A four-byte field is two fields of two bytes. -/
theorem long_eq_halves (a b c d : Byte) : long a b c d = half c d ++ half a b := rfl

/-- The number in a four-byte field. -/
theorem long_toNat (a b c d : Byte) :
    (long a b c d).toNat = a.toNat + 256 * b.toNat + 65536 * c.toNat + 16777216 * d.toNat := by
  have h := (half a b).isLt
  have e1 := half_toNat a b
  have e2 := half_toNat c d
  rw [long_eq_halves, BitVec.toNat_append, ← Nat.shiftLeft_add_eq_or_of_lt (by omega), Nat.shiftLeft_eq]
  omega

/-- A two-byte field reads back. -/
theorem half_two (c : Half) : half (byte c.toNat) (byte (c.toNat / 256)) = c := by
  apply BitVec.eq_of_toNat_eq
  have h := c.isLt
  rw [half_toNat]
  simp only [byte, BitVec.toNat_ofNat]
  omega

/-- A four-byte field reads back. -/
theorem long_four (v : Long) :
    long (byte v.toNat) (byte (v.toNat / 256)) (byte (v.toNat / 65536)) (byte (v.toNat / 16777216)) = v := by
  apply BitVec.eq_of_toNat_eq
  have h := v.isLt
  rw [long_toNat]
  simp only [byte, BitVec.toNat_ofNat]
  omega

end Sys2Proof.Machine
end

