-- ==== Sys2Proof/Laws/State.lean ====
section
/-! SUPPORT. One lemma per field per update of the state's records: what each named update leaves and what it sets. -/

namespace Sys2Proof.Machine

/-! ### The state -/

@[simp] theorem State.onPart_pending (f : Part → Part) (s : State) : (s.onPart f).pending = s.pending := rfl

@[simp] theorem State.onPart_part (f : Part → Part) (s : State) : (s.onPart f).part = f s.part := rfl

theorem whileOn_of_on {f : Part → Part} {p : Part} (h : p.on = true) : whileOn f p = f p := by simp [whileOn, h]

theorem whileOn_of_off {f : Part → Part} {p : Part} (h : p.on = false) : whileOn f p = p := by simp [whileOn, h]

/-! ### One thing for each pole -/

@[simp] theorem PerPole.get_ofFun {α : Type} (g : Pole → α) (x : Pole) : (PerPole.ofFun g).get x = g x := by
  cases x <;> rfl

@[simp] theorem PerPole.get_const {α : Type} (v : α) (x : Pole) : (PerPole.const v).get x = v := by cases x <;> rfl

theorem PerPole.get_set {α : Type} (f : PerPole α) (x y : Pole) (v : α) :
    (f.set x v).get y = if y = x then v else f.get y := by simp [PerPole.set]

@[simp] theorem PerPole.get_set_self {α : Type} (f : PerPole α) (x : Pole) (v : α) : (f.set x v).get x = v := by
  simp [PerPole.get_set]

theorem PerPole.get_mapOn {α : Type} (f : PerPole α) (s : PoleSet) (g : Pole → α → α) (x : Pole) :
    (f.mapOn s g).get x = if s.has x then g x (f.get x) else f.get x := by simp [PerPole.mapOn]

@[simp] theorem PoleSet.has_ofFun (f : Pole → Bool) (x : Pole) : (PoleSet.ofFun f).has x = f x := by cases x <;> rfl

@[simp] theorem PoleSet.has_union (s t : PoleSet) (x : Pole) : (s.union t).has x = (s.has x || t.has x) := by
  simp [PoleSet.union]

@[simp] theorem PoleSet.has_inter (s t : PoleSet) (x : Pole) : (s.inter t).has x = (s.has x && t.has x) := by
  simp [PoleSet.inter]

@[simp] theorem PoleSet.has_diff (s t : PoleSet) (x : Pole) : (s.diff t).has x = (s.has x && !t.has x) := by
  simp [PoleSet.diff]

@[simp] theorem PoleSet.has_single (x y : Pole) : (PoleSet.single x).has y = (y == x) := by simp [PoleSet.single]

@[simp] theorem PoleSet.has_empty (x : Pole) : PoleSet.empty.has x = false := by cases x <;> rfl

@[simp] theorem PoleSet.has_full (x : Pole) : PoleSet.full.has x = true := by cases x <;> rfl

/-- Two pole sets with the same poles are equal. -/
theorem PoleSet.ext_has {s t : PoleSet} (h : ∀ x, s.has x = t.has x) : s = t := by
  obtain ⟨a, b, c⟩ := s
  obtain ⟨d, e, f⟩ := t
  have ha := h .A
  have hb := h .B
  have hc := h .C
  simp only [PoleSet.has] at ha hb hc
  simp [ha, hb, hc]

/-- A pole of a set is among its members. -/
@[simp] theorem PoleSet.mem_members (s : PoleSet) (x : Pole) : x ∈ s.members ↔ s.has x = true := by
  cases x <;> simp [PoleSet.members, Pole.all, PoleSet.has]

/-- A set is empty where it has no pole. -/
theorem PoleSet.isEmpty_iff (s : PoleSet) : s.isEmpty = true ↔ ∀ x, s.has x = false := by
  obtain ⟨a, b, c⟩ := s
  constructor
  · intro h x
    cases a <;> cases b <;> cases c <;> first | (cases x <;> rfl) | (simp [PoleSet.isEmpty] at h)
  · intro h
    have ha := h .A
    have hb := h .B
    have hc := h .C
    simp only [PoleSet.has] at ha hb hc
    simp [PoleSet.isEmpty, ha, hb, hc]

/-! ### The link records and the write records -/

@[simp] theorem LinkInterface.get_set_self (i : LinkInterface) (l : Link) (r : LinkRec) : (i.set l r).get l = r := by
  cases l <;> rfl

theorem LinkInterface.get_set (i : LinkInterface) (l m : Link) (r : LinkRec) :
    (i.set l r).get m = if m = l then r else i.get m := by cases l <;> cases m <;> rfl

@[simp] theorem LinkInterface.set_get (i : LinkInterface) (l : Link) : i.set l (i.get l) = i := by cases l <;> rfl

@[simp] theorem LinkInterface.set_set (i : LinkInterface) (l : Link) (r q : LinkRec) :
    (i.set l r).set l q = i.set l q := by cases l <;> rfl

@[simp] theorem Store.get_set_self (s : Store) (i : Item) (w : WriteRec) : (s.set i w).get i = w := by cases i <;> rfl

theorem Store.get_set (s : Store) (i j : Item) (w : WriteRec) :
    (s.set i w).get j = if j = i then w else s.get j := by cases i <;> cases j <;> rfl

@[simp] theorem Store.get_mapItems (s : Store) (f : Item → WriteRec → WriteRec) (i : Item) :
    (s.mapItems f).get i = f i (s.get i) := by cases i <;> rfl

/-! ### A pole's drive record -/

@[simp] theorem Part.setPole_on (p : Part) (x : Pole) (r : PoleRec) : (p.setPole x r).on = p.on := (rfl)

@[simp] theorem Part.setPole_eu (p : Part) (x : Pole) (r : PoleRec) : (p.setPole x r).eu = p.eu := (rfl)

@[simp] theorem Part.setPole_sq (p : Part) (x : Pole) (r : PoleRec) : (p.setPole x r).sq = p.sq := (rfl)

@[simp] theorem Part.setPole_pu (p : Part) (x : Pole) (r : PoleRec) : (p.setPole x r).pu = p.pu := (rfl)

@[simp] theorem Part.setPole_tu (p : Part) (x : Pole) (r : PoleRec) : (p.setPole x r).tu = p.tu := (rfl)

@[simp] theorem Part.setPole_nu (p : Part) (x : Pole) (r : PoleRec) : (p.setPole x r).nu = p.nu := (rfl)

@[simp] theorem Part.setPole_bc (p : Part) (x : Pole) (r : PoleRec) : (p.setPole x r).bc = p.bc := (rfl)

@[simp] theorem Part.setPole_ru (p : Part) (x : Pole) (r : PoleRec) : (p.setPole x r).ru = p.ru := (rfl)

@[simp] theorem Part.setPole_rs (p : Part) (x : Pole) (r : PoleRec) : (p.setPole x r).rs = p.rs := (rfl)

@[simp] theorem Part.setPole_li (p : Part) (x : Pole) (r : PoleRec) : (p.setPole x r).li = p.li := (rfl)

@[simp] theorem Part.setPole_tb (p : Part) (x : Pole) (r : PoleRec) : (p.setPole x r).tb = p.tb := (rfl)

@[simp] theorem Part.setPole_restart (p : Part) (x : Pole) (r : PoleRec) : (p.setPole x r).restart = p.restart := (rfl)

/-! ### A pole's sequence record -/

@[simp] theorem Part.setSeq_on (p : Part) (x : Pole) (r : SeqRec) : (p.setSeq x r).on = p.on := (rfl)

@[simp] theorem Part.setSeq_dc (p : Part) (x : Pole) (r : SeqRec) : (p.setSeq x r).dc = p.dc := (rfl)

@[simp] theorem Part.setSeq_eu (p : Part) (x : Pole) (r : SeqRec) : (p.setSeq x r).eu = p.eu := (rfl)

@[simp] theorem Part.setSeq_pu (p : Part) (x : Pole) (r : SeqRec) : (p.setSeq x r).pu = p.pu := (rfl)

@[simp] theorem Part.setSeq_tu (p : Part) (x : Pole) (r : SeqRec) : (p.setSeq x r).tu = p.tu := (rfl)

@[simp] theorem Part.setSeq_nu (p : Part) (x : Pole) (r : SeqRec) : (p.setSeq x r).nu = p.nu := (rfl)

@[simp] theorem Part.setSeq_bc (p : Part) (x : Pole) (r : SeqRec) : (p.setSeq x r).bc = p.bc := (rfl)

@[simp] theorem Part.setSeq_ru (p : Part) (x : Pole) (r : SeqRec) : (p.setSeq x r).ru = p.ru := (rfl)

@[simp] theorem Part.setSeq_rs (p : Part) (x : Pole) (r : SeqRec) : (p.setSeq x r).rs = p.rs := (rfl)

@[simp] theorem Part.setSeq_li (p : Part) (x : Pole) (r : SeqRec) : (p.setSeq x r).li = p.li := (rfl)

@[simp] theorem Part.setSeq_tb (p : Part) (x : Pole) (r : SeqRec) : (p.setSeq x r).tb = p.tb := (rfl)

@[simp] theorem Part.setSeq_restart (p : Part) (x : Pole) (r : SeqRec) : (p.setSeq x r).restart = p.restart := (rfl)

/-! ### Sequence records of a set -/

@[simp] theorem mapSeq_on (s : PoleSet) (f : Pole → SeqRec → SeqRec) (p : Part) : (mapSeq s f p).on = p.on := (rfl)

@[simp] theorem mapSeq_dc (s : PoleSet) (f : Pole → SeqRec → SeqRec) (p : Part) : (mapSeq s f p).dc = p.dc := (rfl)

@[simp] theorem mapSeq_eu (s : PoleSet) (f : Pole → SeqRec → SeqRec) (p : Part) : (mapSeq s f p).eu = p.eu := (rfl)

@[simp] theorem mapSeq_pu (s : PoleSet) (f : Pole → SeqRec → SeqRec) (p : Part) : (mapSeq s f p).pu = p.pu := (rfl)

@[simp] theorem mapSeq_tu (s : PoleSet) (f : Pole → SeqRec → SeqRec) (p : Part) : (mapSeq s f p).tu = p.tu := (rfl)

@[simp] theorem mapSeq_nu (s : PoleSet) (f : Pole → SeqRec → SeqRec) (p : Part) : (mapSeq s f p).nu = p.nu := (rfl)

@[simp] theorem mapSeq_bc (s : PoleSet) (f : Pole → SeqRec → SeqRec) (p : Part) : (mapSeq s f p).bc = p.bc := (rfl)

@[simp] theorem mapSeq_ru (s : PoleSet) (f : Pole → SeqRec → SeqRec) (p : Part) : (mapSeq s f p).ru = p.ru := (rfl)

@[simp] theorem mapSeq_rs (s : PoleSet) (f : Pole → SeqRec → SeqRec) (p : Part) : (mapSeq s f p).rs = p.rs := (rfl)

@[simp] theorem mapSeq_li (s : PoleSet) (f : Pole → SeqRec → SeqRec) (p : Part) : (mapSeq s f p).li = p.li := (rfl)

@[simp] theorem mapSeq_tb (s : PoleSet) (f : Pole → SeqRec → SeqRec) (p : Part) : (mapSeq s f p).tb = p.tb := (rfl)

@[simp] theorem mapSeq_restart (s : PoleSet) (f : Pole → SeqRec → SeqRec) (p : Part) : (mapSeq s f p).restart = p.restart := (rfl)

/-! ### Drive records of a set -/

@[simp] theorem mapPoles_on (s : PoleSet) (f : Pole → PoleRec → PoleRec) (p : Part) : (mapPoles s f p).on = p.on := (rfl)

@[simp] theorem mapPoles_eu (s : PoleSet) (f : Pole → PoleRec → PoleRec) (p : Part) : (mapPoles s f p).eu = p.eu := (rfl)

@[simp] theorem mapPoles_sq (s : PoleSet) (f : Pole → PoleRec → PoleRec) (p : Part) : (mapPoles s f p).sq = p.sq := (rfl)

@[simp] theorem mapPoles_pu (s : PoleSet) (f : Pole → PoleRec → PoleRec) (p : Part) : (mapPoles s f p).pu = p.pu := (rfl)

@[simp] theorem mapPoles_tu (s : PoleSet) (f : Pole → PoleRec → PoleRec) (p : Part) : (mapPoles s f p).tu = p.tu := (rfl)

@[simp] theorem mapPoles_nu (s : PoleSet) (f : Pole → PoleRec → PoleRec) (p : Part) : (mapPoles s f p).nu = p.nu := (rfl)

@[simp] theorem mapPoles_bc (s : PoleSet) (f : Pole → PoleRec → PoleRec) (p : Part) : (mapPoles s f p).bc = p.bc := (rfl)

@[simp] theorem mapPoles_ru (s : PoleSet) (f : Pole → PoleRec → PoleRec) (p : Part) : (mapPoles s f p).ru = p.ru := (rfl)

@[simp] theorem mapPoles_rs (s : PoleSet) (f : Pole → PoleRec → PoleRec) (p : Part) : (mapPoles s f p).rs = p.rs := (rfl)

@[simp] theorem mapPoles_li (s : PoleSet) (f : Pole → PoleRec → PoleRec) (p : Part) : (mapPoles s f p).li = p.li := (rfl)

@[simp] theorem mapPoles_tb (s : PoleSet) (f : Pole → PoleRec → PoleRec) (p : Part) : (mapPoles s f p).tb = p.tb := (rfl)

@[simp] theorem mapPoles_restart (s : PoleSet) (f : Pole → PoleRec → PoleRec) (p : Part) : (mapPoles s f p).restart = p.restart := (rfl)

/-! ### A reservation that leaves -/

@[simp] theorem EnergyUnit.release_level (e : EntryName) (u : EnergyUnit) : (u.release e).level = u.level := (rfl)

@[simp] theorem EnergyUnit.release_fresh (e : EntryName) (u : EnergyUnit) : (u.release e).fresh = u.fresh := (rfl)

@[simp] theorem EnergyUnit.release_deficit (e : EntryName) (u : EnergyUnit) : (u.release e).deficit = u.deficit := (rfl)

@[simp] theorem EnergyUnit.release_tripReserve (e : EntryName) (u : EnergyUnit) : (u.release e).tripReserve = u.tripReserve := (rfl)

@[simp] theorem EnergyUnit.release_waiting (e : EntryName) (u : EnergyUnit) : (u.release e).waiting = u.waiting := (rfl)

@[simp] theorem EnergyUnit.release_charger (e : EntryName) (u : EnergyUnit) : (u.release e).charger = u.charger := (rfl)

@[simp] theorem EnergyUnit.release_closes (e : EntryName) (u : EnergyUnit) :
    (u.release e).closes = u.closes.filter fun r => r.entry != e := (rfl)

@[simp] theorem releaseEntry_on (e : EntryName) (p : Part) : (releaseEntry e p).on = p.on := (rfl)

@[simp] theorem releaseEntry_dc (e : EntryName) (p : Part) : (releaseEntry e p).dc = p.dc := (rfl)

@[simp] theorem releaseEntry_eu (e : EntryName) (p : Part) : (releaseEntry e p).eu = p.eu := (rfl)

@[simp] theorem releaseEntry_sq (e : EntryName) (p : Part) : (releaseEntry e p).sq = p.sq := (rfl)

@[simp] theorem releaseEntry_pu (e : EntryName) (p : Part) : (releaseEntry e p).pu = p.pu := (rfl)

@[simp] theorem releaseEntry_tu (e : EntryName) (p : Part) : (releaseEntry e p).tu = p.tu := (rfl)

@[simp] theorem releaseEntry_bc (e : EntryName) (p : Part) : (releaseEntry e p).bc = p.bc := (rfl)

@[simp] theorem releaseEntry_ru (e : EntryName) (p : Part) : (releaseEntry e p).ru = p.ru := (rfl)

@[simp] theorem releaseEntry_rs (e : EntryName) (p : Part) : (releaseEntry e p).rs = p.rs := (rfl)

@[simp] theorem releaseEntry_li (e : EntryName) (p : Part) : (releaseEntry e p).li = p.li := (rfl)

@[simp] theorem releaseEntry_tb (e : EntryName) (p : Part) : (releaseEntry e p).tb = p.tb := (rfl)

@[simp] theorem releaseEntry_restart (e : EntryName) (p : Part) : (releaseEntry e p).restart = p.restart := (rfl)

/-! ### A sequencer entry that leaves -/

@[simp] theorem dropSeq_on (x : Pole) (p : Part) : (dropSeq x p).on = p.on := (rfl)

@[simp] theorem dropSeq_eu (x : Pole) (p : Part) : (dropSeq x p).eu = p.eu := (rfl)

@[simp] theorem dropSeq_sq (x : Pole) (p : Part) : (dropSeq x p).sq = p.sq := (rfl)

@[simp] theorem dropSeq_pu (x : Pole) (p : Part) : (dropSeq x p).pu = p.pu := (rfl)

@[simp] theorem dropSeq_tu (x : Pole) (p : Part) : (dropSeq x p).tu = p.tu := (rfl)

@[simp] theorem dropSeq_bc (x : Pole) (p : Part) : (dropSeq x p).bc = p.bc := (rfl)

@[simp] theorem dropSeq_ru (x : Pole) (p : Part) : (dropSeq x p).ru = p.ru := (rfl)

@[simp] theorem dropSeq_rs (x : Pole) (p : Part) : (dropSeq x p).rs = p.rs := (rfl)

@[simp] theorem dropSeq_li (x : Pole) (p : Part) : (dropSeq x p).li = p.li := (rfl)

@[simp] theorem dropSeq_tb (x : Pole) (p : Part) : (dropSeq x p).tb = p.tb := (rfl)

@[simp] theorem dropSeq_restart (x : Pole) (p : Part) : (dropSeq x p).restart = p.restart := (rfl)

/-! ### A hand-off to the store -/

@[simp] theorem retain_on (i : Item) (p : Part) : (retain i p).on = p.on := (rfl)

@[simp] theorem retain_dc (i : Item) (p : Part) : (retain i p).dc = p.dc := (rfl)

@[simp] theorem retain_eu (i : Item) (p : Part) : (retain i p).eu = p.eu := (rfl)

@[simp] theorem retain_sq (i : Item) (p : Part) : (retain i p).sq = p.sq := (rfl)

@[simp] theorem retain_pu (i : Item) (p : Part) : (retain i p).pu = p.pu := (rfl)

@[simp] theorem retain_tu (i : Item) (p : Part) : (retain i p).tu = p.tu := (rfl)

@[simp] theorem retain_nu (i : Item) (p : Part) : (retain i p).nu = p.nu := (rfl)

@[simp] theorem retain_bc (i : Item) (p : Part) : (retain i p).bc = p.bc := (rfl)

@[simp] theorem retain_ru (i : Item) (p : Part) : (retain i p).ru = p.ru := (rfl)

@[simp] theorem retain_li (i : Item) (p : Part) : (retain i p).li = p.li := (rfl)

@[simp] theorem retain_tb (i : Item) (p : Part) : (retain i p).tb = p.tb := (rfl)

@[simp] theorem retain_restart (i : Item) (p : Part) : (retain i p).restart = p.restart := (rfl)

/-! ### A hand-off an answer waits on -/

@[simp] theorem retainFor_on (i : Item) (h : Held) (p : Part) : (retainFor i h p).on = p.on := (rfl)

@[simp] theorem retainFor_dc (i : Item) (h : Held) (p : Part) : (retainFor i h p).dc = p.dc := (rfl)

@[simp] theorem retainFor_eu (i : Item) (h : Held) (p : Part) : (retainFor i h p).eu = p.eu := (rfl)

@[simp] theorem retainFor_sq (i : Item) (h : Held) (p : Part) : (retainFor i h p).sq = p.sq := (rfl)

@[simp] theorem retainFor_pu (i : Item) (h : Held) (p : Part) : (retainFor i h p).pu = p.pu := (rfl)

@[simp] theorem retainFor_tu (i : Item) (h : Held) (p : Part) : (retainFor i h p).tu = p.tu := (rfl)

@[simp] theorem retainFor_nu (i : Item) (h : Held) (p : Part) : (retainFor i h p).nu = p.nu := (rfl)

@[simp] theorem retainFor_bc (i : Item) (h : Held) (p : Part) : (retainFor i h p).bc = p.bc := (rfl)

@[simp] theorem retainFor_ru (i : Item) (h : Held) (p : Part) : (retainFor i h p).ru = p.ru := (rfl)

@[simp] theorem retainFor_li (i : Item) (h : Held) (p : Part) : (retainFor i h p).li = p.li := (rfl)

@[simp] theorem retainFor_tb (i : Item) (h : Held) (p : Part) : (retainFor i h p).tb = p.tb := (rfl)

@[simp] theorem retainFor_restart (i : Item) (h : Held) (p : Part) : (retainFor i h p).restart = p.restart := (rfl)

/-! ### A reservation that enters -/

@[simp] theorem reserve_on (e : EntryName) (n : Nat) (p : Part) : (reserve e n p).on = p.on := (rfl)

@[simp] theorem reserve_dc (e : EntryName) (n : Nat) (p : Part) : (reserve e n p).dc = p.dc := (rfl)

@[simp] theorem reserve_eu (e : EntryName) (n : Nat) (p : Part) : (reserve e n p).eu = p.eu := (rfl)

@[simp] theorem reserve_sq (e : EntryName) (n : Nat) (p : Part) : (reserve e n p).sq = p.sq := (rfl)

@[simp] theorem reserve_pu (e : EntryName) (n : Nat) (p : Part) : (reserve e n p).pu = p.pu := (rfl)

@[simp] theorem reserve_tu (e : EntryName) (n : Nat) (p : Part) : (reserve e n p).tu = p.tu := (rfl)

@[simp] theorem reserve_bc (e : EntryName) (n : Nat) (p : Part) : (reserve e n p).bc = p.bc := (rfl)

@[simp] theorem reserve_ru (e : EntryName) (n : Nat) (p : Part) : (reserve e n p).ru = p.ru := (rfl)

@[simp] theorem reserve_rs (e : EntryName) (n : Nat) (p : Part) : (reserve e n p).rs = p.rs := (rfl)

@[simp] theorem reserve_li (e : EntryName) (n : Nat) (p : Part) : (reserve e n p).li = p.li := (rfl)

@[simp] theorem reserve_tb (e : EntryName) (n : Nat) (p : Part) : (reserve e n p).tb = p.tb := (rfl)

@[simp] theorem reserve_restart (e : EntryName) (n : Nat) (p : Part) : (reserve e n p).restart = p.restart := (rfl)

/-! ### The request under answer -/

@[simp] theorem setUnder_on (l : Link) (u : Option UnderAnswer) (p : Part) : (setUnder l u p).on = p.on := (rfl)

@[simp] theorem setUnder_dc (l : Link) (u : Option UnderAnswer) (p : Part) : (setUnder l u p).dc = p.dc := (rfl)

@[simp] theorem setUnder_eu (l : Link) (u : Option UnderAnswer) (p : Part) : (setUnder l u p).eu = p.eu := (rfl)

@[simp] theorem setUnder_sq (l : Link) (u : Option UnderAnswer) (p : Part) : (setUnder l u p).sq = p.sq := (rfl)

@[simp] theorem setUnder_pu (l : Link) (u : Option UnderAnswer) (p : Part) : (setUnder l u p).pu = p.pu := (rfl)

@[simp] theorem setUnder_tu (l : Link) (u : Option UnderAnswer) (p : Part) : (setUnder l u p).tu = p.tu := (rfl)

@[simp] theorem setUnder_nu (l : Link) (u : Option UnderAnswer) (p : Part) : (setUnder l u p).nu = p.nu := (rfl)

@[simp] theorem setUnder_bc (l : Link) (u : Option UnderAnswer) (p : Part) : (setUnder l u p).bc = p.bc := (rfl)

@[simp] theorem setUnder_ru (l : Link) (u : Option UnderAnswer) (p : Part) : (setUnder l u p).ru = p.ru := (rfl)

@[simp] theorem setUnder_rs (l : Link) (u : Option UnderAnswer) (p : Part) : (setUnder l u p).rs = p.rs := (rfl)

@[simp] theorem setUnder_tb (l : Link) (u : Option UnderAnswer) (p : Part) : (setUnder l u p).tb = p.tb := (rfl)

@[simp] theorem setUnder_restart (l : Link) (u : Option UnderAnswer) (p : Part) : (setUnder l u p).restart = p.restart := (rfl)

/-! ### Parts of a record -/

@[simp] theorem Part.seq_setSeq (p : Part) (x y : Pole) (r : SeqRec) :
    (p.setSeq x r).seq y = if y = x then r else p.seq y := by simp [Part.setSeq, Part.seq, PerPole.get_set]

@[simp] theorem seq_mapSeq (s : PoleSet) (f : Pole → SeqRec → SeqRec) (p : Part) (x : Pole) :
    (mapSeq s f p).seq x = if s.has x then f x (p.seq x) else p.seq x := by simp [mapSeq, Part.seq, PerPole.get_mapOn]

@[simp] theorem Part.poles_setPole (p : Part) (x y : Pole) (r : PoleRec) :
    ((p.setPole x r).dc.poles).get y = if y = x then r else p.dc.poles.get y := by simp [Part.setPole, PerPole.get_set]

@[simp] theorem poles_mapPoles (s : PoleSet) (f : Pole → PoleRec → PoleRec) (p : Part) (x : Pole) :
    ((mapPoles s f p).dc.poles).get x = if s.has x then f x (p.dc.poles.get x) else p.dc.poles.get x := by
  simp [mapPoles, PerPole.get_mapOn]

@[simp] theorem mapPoles_dc_nextOp (s : PoleSet) (f : Pole → PoleRec → PoleRec) (p : Part) :
    (mapPoles s f p).dc.nextOp = p.dc.nextOp := rfl

@[simp] theorem Part.setPole_dc_nextOp (p : Part) (x : Pole) (r : PoleRec) : (p.setPole x r).dc.nextOp = p.dc.nextOp := rfl

@[simp] theorem mapPoles_dc_trip (s : PoleSet) (f : Pole → PoleRec → PoleRec) (p : Part) :
    (mapPoles s f p).dc.trip = p.dc.trip := rfl

@[simp] theorem Part.setPole_dc_trip (p : Part) (x : Pole) (r : PoleRec) : (p.setPole x r).dc.trip = p.dc.trip := rfl

@[simp] theorem mapPoles_dc_crew (s : PoleSet) (f : Pole → PoleRec → PoleRec) (p : Part) :
    (mapPoles s f p).dc.crew = p.dc.crew := rfl

@[simp] theorem Part.setPole_dc_crew (p : Part) (x : Pole) (r : PoleRec) : (p.setPole x r).dc.crew = p.dc.crew := rfl

@[simp] theorem mapPoles_dc_radio (s : PoleSet) (f : Pole → PoleRec → PoleRec) (p : Part) :
    (mapPoles s f p).dc.radio = p.dc.radio := rfl

@[simp] theorem Part.setPole_dc_radio (p : Part) (x : Pole) (r : PoleRec) : (p.setPole x r).dc.radio = p.dc.radio := rfl

@[simp] theorem mapPoles_dc_seq (s : PoleSet) (f : Pole → PoleRec → PoleRec) (p : Part) :
    (mapPoles s f p).dc.seq = p.dc.seq := rfl

@[simp] theorem Part.setPole_dc_seq (p : Part) (x : Pole) (r : PoleRec) : (p.setPole x r).dc.seq = p.dc.seq := rfl

@[simp] theorem mapPoles_dc_flight (s : PoleSet) (f : Pole → PoleRec → PoleRec) (p : Part) :
    (mapPoles s f p).dc.flight = p.dc.flight := rfl

@[simp] theorem Part.setPole_dc_flight (p : Part) (x : Pole) (r : PoleRec) : (p.setPole x r).dc.flight = p.dc.flight := rfl

@[simp] theorem mapPoles_dc_history (s : PoleSet) (f : Pole → PoleRec → PoleRec) (p : Part) :
    (mapPoles s f p).dc.history = p.dc.history := rfl

@[simp] theorem Part.setPole_dc_history (p : Part) (x : Pole) (r : PoleRec) : (p.setPole x r).dc.history = p.dc.history := rfl

@[simp] theorem mapPoles_dc_coilOpen (s : PoleSet) (f : Pole → PoleRec → PoleRec) (p : Part) :
    (mapPoles s f p).dc.coilOpen = p.dc.coilOpen := rfl

@[simp] theorem Part.setPole_dc_coilOpen (p : Part) (x : Pole) (r : PoleRec) : (p.setPole x r).dc.coilOpen = p.dc.coilOpen := rfl

@[simp] theorem mapPoles_dc_tripPulse (s : PoleSet) (f : Pole → PoleRec → PoleRec) (p : Part) :
    (mapPoles s f p).dc.tripPulse = p.dc.tripPulse := rfl

@[simp] theorem Part.setPole_dc_tripPulse (p : Part) (x : Pole) (r : PoleRec) : (p.setPole x r).dc.tripPulse = p.dc.tripPulse := rfl

@[simp] theorem mapPoles_dc_closePulse (s : PoleSet) (f : Pole → PoleRec → PoleRec) (p : Part) :
    (mapPoles s f p).dc.closePulse = p.dc.closePulse := rfl

@[simp] theorem Part.setPole_dc_closePulse (p : Part) (x : Pole) (r : PoleRec) : (p.setPole x r).dc.closePulse = p.dc.closePulse := rfl

@[simp] theorem dropSeq_dc_poles (x : Pole) (p : Part) : (dropSeq x p).dc.poles = p.dc.poles := rfl

@[simp] theorem dropSeq_dc_nextOp (x : Pole) (p : Part) : (dropSeq x p).dc.nextOp = p.dc.nextOp := rfl

@[simp] theorem dropSeq_dc_trip (x : Pole) (p : Part) : (dropSeq x p).dc.trip = p.dc.trip := rfl

@[simp] theorem dropSeq_dc_crew (x : Pole) (p : Part) : (dropSeq x p).dc.crew = p.dc.crew := rfl

@[simp] theorem dropSeq_dc_radio (x : Pole) (p : Part) : (dropSeq x p).dc.radio = p.dc.radio := rfl

@[simp] theorem dropSeq_dc_flight (x : Pole) (p : Part) : (dropSeq x p).dc.flight = p.dc.flight := rfl

@[simp] theorem dropSeq_dc_history (x : Pole) (p : Part) : (dropSeq x p).dc.history = p.dc.history := rfl

@[simp] theorem dropSeq_dc_coilOpen (x : Pole) (p : Part) : (dropSeq x p).dc.coilOpen = p.dc.coilOpen := rfl

@[simp] theorem dropSeq_dc_tripPulse (x : Pole) (p : Part) : (dropSeq x p).dc.tripPulse = p.dc.tripPulse := rfl

@[simp] theorem dropSeq_dc_closePulse (x : Pole) (p : Part) : (dropSeq x p).dc.closePulse = p.dc.closePulse := rfl

@[simp] theorem mapSeq_sq_mode (s : PoleSet) (f : Pole → SeqRec → SeqRec) (p : Part) :
    (mapSeq s f p).sq.mode = p.sq.mode := rfl

@[simp] theorem mapSeq_sq_pendingMode (s : PoleSet) (f : Pole → SeqRec → SeqRec) (p : Part) :
    (mapSeq s f p).sq.pendingMode = p.sq.pendingMode := rfl

@[simp] theorem mapSeq_sq_pickup (s : PoleSet) (f : Pole → SeqRec → SeqRec) (p : Part) :
    (mapSeq s f p).sq.pickup = p.sq.pickup := rfl

@[simp] theorem mapSeq_sq_meas (s : PoleSet) (f : Pole → SeqRec → SeqRec) (p : Part) :
    (mapSeq s f p).sq.meas = p.sq.meas := rfl

@[simp] theorem mapSeq_sq_quiescent (s : PoleSet) (f : Pole → SeqRec → SeqRec) (p : Part) :
    (mapSeq s f p).sq.quiescent = p.sq.quiescent := rfl

@[simp] theorem mapSeq_sq_told (s : PoleSet) (f : Pole → SeqRec → SeqRec) (p : Part) :
    (mapSeq s f p).sq.told = p.sq.told := rfl

/-! ### The contacts of a pole record -/

@[simp] theorem PoleRec.contacts_aClosed (r : PoleRec) (a b : Bool) : (r.contacts a b).aClosed = a := rfl

@[simp] theorem PoleRec.contacts_bClosed (r : PoleRec) (a b : Bool) : (r.contacts a b).bClosed = b := rfl

@[simp] theorem PoleRec.contacts_motion (r : PoleRec) (a b : Bool) : (r.contacts a b).motion = r.motion := rfl

@[simp] theorem PoleRec.contacts_mechFail (r : PoleRec) (a b : Bool) : (r.contacts a b).mechFail = r.mechFail := rfl

@[simp] theorem PoleRec.contacts_handle (r : PoleRec) (a b : Bool) : (r.contacts a b).handle = r.handle := rfl

@[simp] theorem PoleRec.contacts_wear (r : PoleRec) (a b : Bool) : (r.contacts a b).wear = r.wear := rfl

@[simp] theorem PoleRec.contacts_count (r : PoleRec) (a b : Bool) : (r.contacts a b).count = r.count := rfl

@[simp] theorem PoleRec.contacts_lastCurrent (r : PoleRec) (a b : Bool) : (r.contacts a b).lastCurrent = r.lastCurrent := rfl

@[simp] theorem PoleRec.contacts_position (r : PoleRec) (a b : Bool) : (r.contacts a b).position = positionOf a b := rfl

/-- A pole that shows CLOSED has shown it since it last showed OPEN, and one that shows OPEN has not (R17). -/
theorem PoleRec.contacts_closedSince (r : PoleRec) (a b : Bool) (h : positionOf a b ≠ .UNKNOWN) :
    (r.contacts a b).closedSince = (positionOf a b == .CLOSED) := by
  simp only [contacts]
  cases hp : positionOf a b <;> simp_all

end Sys2Proof.Machine
end

