-- ==== Sys2Proof/Laws/Frames.lean ====
section
/-! SUPPORT. What the shared operations leave as it was: reports, messages, entries, lockouts, trips and the judgements of an event.
Each lemma names the block an operation does not touch. -/

namespace Sys2Proof.Machine

/-! ### Each of a list of steps -/

/-- What every step of a list keeps, the list keeps. -/
theorem applyAll_keeps {α β : Type} (g : Part → β) {f : α → Part → Part} (h : ∀ a p, g (f a p) = g p) (as : List α)
    (p : Part) : g (applyAll f as p) = g p := by
  induction as generalizing p with
  | nil => rfl
  | cons a as ih => rw [applyAll, ih, h]

@[simp] theorem applyAll_on {α : Type} {f : α → Part → Part} (h : ∀ a p, (f a p).on = p.on) (as : List α)
    (p : Part) : (applyAll f as p).on = p.on := applyAll_keeps (fun p => p.on) h as p

@[simp] theorem applyAll_dc {α : Type} {f : α → Part → Part} (h : ∀ a p, (f a p).dc = p.dc) (as : List α)
    (p : Part) : (applyAll f as p).dc = p.dc := applyAll_keeps (fun p => p.dc) h as p

@[simp] theorem applyAll_eu {α : Type} {f : α → Part → Part} (h : ∀ a p, (f a p).eu = p.eu) (as : List α)
    (p : Part) : (applyAll f as p).eu = p.eu := applyAll_keeps (fun p => p.eu) h as p

@[simp] theorem applyAll_sq {α : Type} {f : α → Part → Part} (h : ∀ a p, (f a p).sq = p.sq) (as : List α)
    (p : Part) : (applyAll f as p).sq = p.sq := applyAll_keeps (fun p => p.sq) h as p

@[simp] theorem applyAll_pu {α : Type} {f : α → Part → Part} (h : ∀ a p, (f a p).pu = p.pu) (as : List α)
    (p : Part) : (applyAll f as p).pu = p.pu := applyAll_keeps (fun p => p.pu) h as p

@[simp] theorem applyAll_tu {α : Type} {f : α → Part → Part} (h : ∀ a p, (f a p).tu = p.tu) (as : List α)
    (p : Part) : (applyAll f as p).tu = p.tu := applyAll_keeps (fun p => p.tu) h as p

@[simp] theorem applyAll_nu {α : Type} {f : α → Part → Part} (h : ∀ a p, (f a p).nu = p.nu) (as : List α)
    (p : Part) : (applyAll f as p).nu = p.nu := applyAll_keeps (fun p => p.nu) h as p

@[simp] theorem applyAll_bc {α : Type} {f : α → Part → Part} (h : ∀ a p, (f a p).bc = p.bc) (as : List α)
    (p : Part) : (applyAll f as p).bc = p.bc := applyAll_keeps (fun p => p.bc) h as p

@[simp] theorem applyAll_ru {α : Type} {f : α → Part → Part} (h : ∀ a p, (f a p).ru = p.ru) (as : List α)
    (p : Part) : (applyAll f as p).ru = p.ru := applyAll_keeps (fun p => p.ru) h as p

@[simp] theorem applyAll_rs {α : Type} {f : α → Part → Part} (h : ∀ a p, (f a p).rs = p.rs) (as : List α)
    (p : Part) : (applyAll f as p).rs = p.rs := applyAll_keeps (fun p => p.rs) h as p

@[simp] theorem applyAll_li {α : Type} {f : α → Part → Part} (h : ∀ a p, (f a p).li = p.li) (as : List α)
    (p : Part) : (applyAll f as p).li = p.li := applyAll_keeps (fun p => p.li) h as p

@[simp] theorem applyAll_tb {α : Type} {f : α → Part → Part} (h : ∀ a p, (f a p).tb = p.tb) (as : List α)
    (p : Part) : (applyAll f as p).tb = p.tb := applyAll_keeps (fun p => p.tb) h as p

@[simp] theorem applyAll_restart {α : Type} {f : α → Part → Part} (h : ∀ a p, (f a p).restart = p.restart) (as : List α)
    (p : Part) : (applyAll f as p).restart = p.restart := applyAll_keeps (fun p => p.restart) h as p

/-! ### Reports and messages -/

@[simp] theorem send_on (l : Link) (m : Message) (p : Part) : (send l m p).on = p.on := by
  simp only [send]
  split <;> rfl

@[simp] theorem send_dc (l : Link) (m : Message) (p : Part) : (send l m p).dc = p.dc := by
  simp only [send]
  split <;> rfl

@[simp] theorem send_eu (l : Link) (m : Message) (p : Part) : (send l m p).eu = p.eu := by
  simp only [send]
  split <;> rfl

@[simp] theorem send_sq (l : Link) (m : Message) (p : Part) : (send l m p).sq = p.sq := by
  simp only [send]
  split <;> rfl

@[simp] theorem send_pu (l : Link) (m : Message) (p : Part) : (send l m p).pu = p.pu := by
  simp only [send]
  split <;> rfl

@[simp] theorem send_tu (l : Link) (m : Message) (p : Part) : (send l m p).tu = p.tu := by
  simp only [send]
  split <;> rfl

@[simp] theorem send_nu (l : Link) (m : Message) (p : Part) : (send l m p).nu = p.nu := by
  simp only [send]
  split <;> rfl

@[simp] theorem send_bc (l : Link) (m : Message) (p : Part) : (send l m p).bc = p.bc := by
  simp only [send]
  split <;> rfl

@[simp] theorem send_ru (l : Link) (m : Message) (p : Part) : (send l m p).ru = p.ru := by
  simp only [send]
  split <;> rfl

@[simp] theorem send_rs (l : Link) (m : Message) (p : Part) : (send l m p).rs = p.rs := by
  simp only [send]
  split <;> rfl

@[simp] theorem send_tb (l : Link) (m : Message) (p : Part) : (send l m p).tb = p.tb := by
  simp only [send]
  split <;> rfl

@[simp] theorem send_restart (l : Link) (m : Message) (p : Part) : (send l m p).restart = p.restart := by
  simp only [send]
  split <;> rfl

@[simp] theorem judgeCall_on (p : Part) : (judgeCall p).on = p.on := by
  simp only [judgeCall]
  repeat' split
  all_goals simp

@[simp] theorem judgeCall_dc (p : Part) : (judgeCall p).dc = p.dc := by
  simp only [judgeCall]
  repeat' split
  all_goals simp

@[simp] theorem judgeCall_eu (p : Part) : (judgeCall p).eu = p.eu := by
  simp only [judgeCall]
  repeat' split
  all_goals simp

@[simp] theorem judgeCall_sq (p : Part) : (judgeCall p).sq = p.sq := by
  simp only [judgeCall]
  repeat' split
  all_goals simp

@[simp] theorem judgeCall_pu (p : Part) : (judgeCall p).pu = p.pu := by
  simp only [judgeCall]
  repeat' split
  all_goals simp

@[simp] theorem judgeCall_tu (p : Part) : (judgeCall p).tu = p.tu := by
  simp only [judgeCall]
  repeat' split
  all_goals simp

@[simp] theorem judgeCall_nu (p : Part) : (judgeCall p).nu = p.nu := by
  simp only [judgeCall]
  repeat' split
  all_goals simp

@[simp] theorem judgeCall_bc (p : Part) : (judgeCall p).bc = p.bc := by
  simp only [judgeCall]
  repeat' split
  all_goals simp

@[simp] theorem judgeCall_rs (p : Part) : (judgeCall p).rs = p.rs := by
  simp only [judgeCall]
  repeat' split
  all_goals simp

@[simp] theorem judgeCall_tb (p : Part) : (judgeCall p).tb = p.tb := by
  simp only [judgeCall]
  repeat' split
  all_goals simp

@[simp] theorem judgeCall_restart (p : Part) : (judgeCall p).restart = p.restart := by
  simp only [judgeCall]
  repeat' split
  all_goals simp

@[simp] theorem judgeSending_on (p : Part) : (judgeSending p).on = p.on := by
  simp only [judgeSending]
  repeat' split
  all_goals simp

@[simp] theorem judgeSending_dc (p : Part) : (judgeSending p).dc = p.dc := by
  simp only [judgeSending]
  repeat' split
  all_goals simp

@[simp] theorem judgeSending_eu (p : Part) : (judgeSending p).eu = p.eu := by
  simp only [judgeSending]
  repeat' split
  all_goals simp

@[simp] theorem judgeSending_sq (p : Part) : (judgeSending p).sq = p.sq := by
  simp only [judgeSending]
  repeat' split
  all_goals simp

@[simp] theorem judgeSending_pu (p : Part) : (judgeSending p).pu = p.pu := by
  simp only [judgeSending]
  repeat' split
  all_goals simp

@[simp] theorem judgeSending_tu (p : Part) : (judgeSending p).tu = p.tu := by
  simp only [judgeSending]
  repeat' split
  all_goals simp

@[simp] theorem judgeSending_nu (p : Part) : (judgeSending p).nu = p.nu := by
  simp only [judgeSending]
  repeat' split
  all_goals simp

@[simp] theorem judgeSending_bc (p : Part) : (judgeSending p).bc = p.bc := by
  simp only [judgeSending]
  repeat' split
  all_goals simp

@[simp] theorem judgeSending_rs (p : Part) : (judgeSending p).rs = p.rs := by
  simp only [judgeSending]
  repeat' split
  all_goals simp

@[simp] theorem judgeSending_tb (p : Part) : (judgeSending p).tb = p.tb := by
  simp only [judgeSending]
  repeat' split
  all_goals simp

@[simp] theorem judgeSending_restart (p : Part) : (judgeSending p).restart = p.restart := by
  simp only [judgeSending]
  repeat' split
  all_goals simp

@[simp] theorem enterReport_on (k : ReportKind) (s : Option PoleSet) (b : List Byte) (p : Part) :
    (enterReport k s b p).on = p.on := by
  simp only [enterReport]
  split
  · rfl
  · split
    · simp
    · split <;> simp

@[simp] theorem enterReport_dc (k : ReportKind) (s : Option PoleSet) (b : List Byte) (p : Part) :
    (enterReport k s b p).dc = p.dc := by
  simp only [enterReport]
  split
  · rfl
  · split
    · simp
    · split <;> simp

@[simp] theorem enterReport_eu (k : ReportKind) (s : Option PoleSet) (b : List Byte) (p : Part) :
    (enterReport k s b p).eu = p.eu := by
  simp only [enterReport]
  split
  · rfl
  · split
    · simp
    · split <;> simp

@[simp] theorem enterReport_sq (k : ReportKind) (s : Option PoleSet) (b : List Byte) (p : Part) :
    (enterReport k s b p).sq = p.sq := by
  simp only [enterReport]
  split
  · rfl
  · split
    · simp
    · split <;> simp

@[simp] theorem enterReport_pu (k : ReportKind) (s : Option PoleSet) (b : List Byte) (p : Part) :
    (enterReport k s b p).pu = p.pu := by
  simp only [enterReport]
  split
  · rfl
  · split
    · simp
    · split <;> simp

@[simp] theorem enterReport_tu (k : ReportKind) (s : Option PoleSet) (b : List Byte) (p : Part) :
    (enterReport k s b p).tu = p.tu := by
  simp only [enterReport]
  split
  · rfl
  · split
    · simp
    · split <;> simp

@[simp] theorem enterReport_nu (k : ReportKind) (s : Option PoleSet) (b : List Byte) (p : Part) :
    (enterReport k s b p).nu = p.nu := by
  simp only [enterReport]
  split
  · rfl
  · split
    · simp
    · split <;> simp

@[simp] theorem enterReport_bc (k : ReportKind) (s : Option PoleSet) (b : List Byte) (p : Part) :
    (enterReport k s b p).bc = p.bc := by
  simp only [enterReport]
  split
  · rfl
  · split
    · simp
    · split <;> simp

@[simp] theorem enterReport_rs (k : ReportKind) (s : Option PoleSet) (b : List Byte) (p : Part) :
    (enterReport k s b p).rs = p.rs := by
  simp only [enterReport]
  split
  · rfl
  · split
    · simp
    · split <;> simp

@[simp] theorem enterReport_tb (k : ReportKind) (s : Option PoleSet) (b : List Byte) (p : Part) :
    (enterReport k s b p).tb = p.tb := by
  simp only [enterReport]
  split
  · rfl
  · split
    · simp
    · split <;> simp

@[simp] theorem enterReport_restart (k : ReportKind) (s : Option PoleSet) (b : List Byte) (p : Part) :
    (enterReport k s b p).restart = p.restart := by
  simp only [enterReport]
  split
  · rfl
  · split
    · simp
    · split <;> simp

@[simp] theorem reportLevel_on (l : EnergyLevel) (p : Part) : (reportLevel l p).on = p.on := by
  simp [reportLevel]

@[simp] theorem reportLevel_dc (l : EnergyLevel) (p : Part) : (reportLevel l p).dc = p.dc := by
  simp [reportLevel]

@[simp] theorem reportLevel_eu (l : EnergyLevel) (p : Part) : (reportLevel l p).eu = p.eu := by
  simp [reportLevel]

@[simp] theorem reportLevel_sq (l : EnergyLevel) (p : Part) : (reportLevel l p).sq = p.sq := by
  simp [reportLevel]

@[simp] theorem reportLevel_pu (l : EnergyLevel) (p : Part) : (reportLevel l p).pu = p.pu := by
  simp [reportLevel]

@[simp] theorem reportLevel_tu (l : EnergyLevel) (p : Part) : (reportLevel l p).tu = p.tu := by
  simp [reportLevel]

@[simp] theorem reportLevel_nu (l : EnergyLevel) (p : Part) : (reportLevel l p).nu = p.nu := by
  simp [reportLevel]

@[simp] theorem reportLevel_bc (l : EnergyLevel) (p : Part) : (reportLevel l p).bc = p.bc := by
  simp [reportLevel]

@[simp] theorem reportLevel_rs (l : EnergyLevel) (p : Part) : (reportLevel l p).rs = p.rs := by
  simp [reportLevel]

@[simp] theorem reportLevel_tb (l : EnergyLevel) (p : Part) : (reportLevel l p).tb = p.tb := by
  simp [reportLevel]

@[simp] theorem reportLevel_restart (l : EnergyLevel) (p : Part) : (reportLevel l p).restart = p.restart := by
  simp [reportLevel]

@[simp] theorem reportSend_on (p : Part) : (reportSend p).on = p.on := by
  simp only [reportSend]
  repeat' split
  all_goals simp

@[simp] theorem reportSend_dc (p : Part) : (reportSend p).dc = p.dc := by
  simp only [reportSend]
  repeat' split
  all_goals simp

@[simp] theorem reportSend_eu (p : Part) : (reportSend p).eu = p.eu := by
  simp only [reportSend]
  repeat' split
  all_goals simp

@[simp] theorem reportSend_sq (p : Part) : (reportSend p).sq = p.sq := by
  simp only [reportSend]
  repeat' split
  all_goals simp

@[simp] theorem reportSend_pu (p : Part) : (reportSend p).pu = p.pu := by
  simp only [reportSend]
  repeat' split
  all_goals simp

@[simp] theorem reportSend_tu (p : Part) : (reportSend p).tu = p.tu := by
  simp only [reportSend]
  repeat' split
  all_goals simp

@[simp] theorem reportSend_nu (p : Part) : (reportSend p).nu = p.nu := by
  simp only [reportSend]
  repeat' split
  all_goals simp

@[simp] theorem reportSend_bc (p : Part) : (reportSend p).bc = p.bc := by
  simp only [reportSend]
  repeat' split
  all_goals simp

@[simp] theorem reportSend_rs (p : Part) : (reportSend p).rs = p.rs := by
  simp only [reportSend]
  repeat' split
  all_goals simp

@[simp] theorem reportSend_tb (p : Part) : (reportSend p).tb = p.tb := by
  simp only [reportSend]
  repeat' split
  all_goals simp

@[simp] theorem reportSend_restart (p : Part) : (reportSend p).restart = p.restart := by
  simp only [reportSend]
  repeat' split
  all_goals simp

/-! ### Close entries that end -/

@[simp] theorem sendEnd_on (r : OpResult) (n : Nat) (e : ReqEntry) (p : Part) : (sendEnd r n e p).on = p.on := by
  simp only [sendEnd]
  repeat' split
  all_goals simp

@[simp] theorem sendEnd_dc (r : OpResult) (n : Nat) (e : ReqEntry) (p : Part) : (sendEnd r n e p).dc = p.dc := by
  simp only [sendEnd]
  repeat' split
  all_goals simp

@[simp] theorem sendEnd_eu (r : OpResult) (n : Nat) (e : ReqEntry) (p : Part) : (sendEnd r n e p).eu = p.eu := by
  simp only [sendEnd]
  repeat' split
  all_goals simp

@[simp] theorem sendEnd_sq (r : OpResult) (n : Nat) (e : ReqEntry) (p : Part) : (sendEnd r n e p).sq = p.sq := by
  simp only [sendEnd]
  repeat' split
  all_goals simp

@[simp] theorem sendEnd_pu (r : OpResult) (n : Nat) (e : ReqEntry) (p : Part) : (sendEnd r n e p).pu = p.pu := by
  simp only [sendEnd]
  repeat' split
  all_goals simp

@[simp] theorem sendEnd_tu (r : OpResult) (n : Nat) (e : ReqEntry) (p : Part) : (sendEnd r n e p).tu = p.tu := by
  simp only [sendEnd]
  repeat' split
  all_goals simp

@[simp] theorem sendEnd_nu (r : OpResult) (n : Nat) (e : ReqEntry) (p : Part) : (sendEnd r n e p).nu = p.nu := by
  simp only [sendEnd]
  repeat' split
  all_goals simp

@[simp] theorem sendEnd_bc (r : OpResult) (n : Nat) (e : ReqEntry) (p : Part) : (sendEnd r n e p).bc = p.bc := by
  simp only [sendEnd]
  repeat' split
  all_goals simp

@[simp] theorem sendEnd_ru (r : OpResult) (n : Nat) (e : ReqEntry) (p : Part) : (sendEnd r n e p).ru = p.ru := by
  simp only [sendEnd]
  repeat' split
  all_goals simp

@[simp] theorem sendEnd_rs (r : OpResult) (n : Nat) (e : ReqEntry) (p : Part) : (sendEnd r n e p).rs = p.rs := by
  simp only [sendEnd]
  repeat' split
  all_goals simp

@[simp] theorem sendEnd_tb (r : OpResult) (n : Nat) (e : ReqEntry) (p : Part) : (sendEnd r n e p).tb = p.tb := by
  simp only [sendEnd]
  repeat' split
  all_goals simp

@[simp] theorem sendEnd_restart (r : OpResult) (n : Nat) (e : ReqEntry) (p : Part) :
    (sendEnd r n e p).restart = p.restart := by
  simp only [sendEnd]
  repeat' split
  all_goals simp

@[simp] theorem sendEnds_on (op : OpRec) (r : OpResult) (p : Part) : (sendEnds op r p).on = p.on := by
  simp [sendEnds]

@[simp] theorem sendEnds_dc (op : OpRec) (r : OpResult) (p : Part) : (sendEnds op r p).dc = p.dc := by
  simp [sendEnds]

@[simp] theorem sendEnds_eu (op : OpRec) (r : OpResult) (p : Part) : (sendEnds op r p).eu = p.eu := by
  simp [sendEnds]

@[simp] theorem sendEnds_sq (op : OpRec) (r : OpResult) (p : Part) : (sendEnds op r p).sq = p.sq := by
  simp [sendEnds]

@[simp] theorem sendEnds_pu (op : OpRec) (r : OpResult) (p : Part) : (sendEnds op r p).pu = p.pu := by
  simp [sendEnds]

@[simp] theorem sendEnds_tu (op : OpRec) (r : OpResult) (p : Part) : (sendEnds op r p).tu = p.tu := by
  simp [sendEnds]

@[simp] theorem sendEnds_nu (op : OpRec) (r : OpResult) (p : Part) : (sendEnds op r p).nu = p.nu := by
  simp [sendEnds]

@[simp] theorem sendEnds_bc (op : OpRec) (r : OpResult) (p : Part) : (sendEnds op r p).bc = p.bc := by
  simp [sendEnds]

@[simp] theorem sendEnds_ru (op : OpRec) (r : OpResult) (p : Part) : (sendEnds op r p).ru = p.ru := by
  simp [sendEnds]

@[simp] theorem sendEnds_rs (op : OpRec) (r : OpResult) (p : Part) : (sendEnds op r p).rs = p.rs := by
  simp [sendEnds]

@[simp] theorem sendEnds_tb (op : OpRec) (r : OpResult) (p : Part) : (sendEnds op r p).tb = p.tb := by
  simp [sendEnds]

@[simp] theorem sendEnds_restart (op : OpRec) (r : OpResult) (p : Part) : (sendEnds op r p).restart = p.restart := by
  simp [sendEnds]

@[simp] theorem endCrewEntry_on (r : OpResult) (p : Part) : (endCrewEntry r p).on = p.on := by
  simp only [endCrewEntry]
  repeat' split
  all_goals simp

@[simp] theorem endCrewEntry_eu (r : OpResult) (p : Part) : (endCrewEntry r p).eu = p.eu := by
  simp only [endCrewEntry]
  repeat' split
  all_goals simp

@[simp] theorem endCrewEntry_sq (r : OpResult) (p : Part) : (endCrewEntry r p).sq = p.sq := by
  simp only [endCrewEntry]
  repeat' split
  all_goals simp

@[simp] theorem endCrewEntry_pu (r : OpResult) (p : Part) : (endCrewEntry r p).pu = p.pu := by
  simp only [endCrewEntry]
  repeat' split
  all_goals simp

@[simp] theorem endCrewEntry_tu (r : OpResult) (p : Part) : (endCrewEntry r p).tu = p.tu := by
  simp only [endCrewEntry]
  repeat' split
  all_goals simp

@[simp] theorem endCrewEntry_bc (r : OpResult) (p : Part) : (endCrewEntry r p).bc = p.bc := by
  simp only [endCrewEntry]
  repeat' split
  all_goals simp

@[simp] theorem endCrewEntry_ru (r : OpResult) (p : Part) : (endCrewEntry r p).ru = p.ru := by
  simp only [endCrewEntry]
  repeat' split
  all_goals simp

@[simp] theorem endCrewEntry_rs (r : OpResult) (p : Part) : (endCrewEntry r p).rs = p.rs := by
  simp only [endCrewEntry]
  repeat' split
  all_goals simp

@[simp] theorem endCrewEntry_tb (r : OpResult) (p : Part) : (endCrewEntry r p).tb = p.tb := by
  simp only [endCrewEntry]
  repeat' split
  all_goals simp

@[simp] theorem endCrewEntry_restart (r : OpResult) (p : Part) : (endCrewEntry r p).restart = p.restart := by
  simp only [endCrewEntry]
  repeat' split
  all_goals simp

@[simp] theorem endRadioEntry_on (r : OpResult) (p : Part) : (endRadioEntry r p).on = p.on := by
  simp only [endRadioEntry]
  repeat' split
  all_goals simp

@[simp] theorem endRadioEntry_eu (r : OpResult) (p : Part) : (endRadioEntry r p).eu = p.eu := by
  simp only [endRadioEntry]
  repeat' split
  all_goals simp

@[simp] theorem endRadioEntry_sq (r : OpResult) (p : Part) : (endRadioEntry r p).sq = p.sq := by
  simp only [endRadioEntry]
  repeat' split
  all_goals simp

@[simp] theorem endRadioEntry_pu (r : OpResult) (p : Part) : (endRadioEntry r p).pu = p.pu := by
  simp only [endRadioEntry]
  repeat' split
  all_goals simp

@[simp] theorem endRadioEntry_tu (r : OpResult) (p : Part) : (endRadioEntry r p).tu = p.tu := by
  simp only [endRadioEntry]
  repeat' split
  all_goals simp

@[simp] theorem endRadioEntry_bc (r : OpResult) (p : Part) : (endRadioEntry r p).bc = p.bc := by
  simp only [endRadioEntry]
  repeat' split
  all_goals simp

@[simp] theorem endRadioEntry_ru (r : OpResult) (p : Part) : (endRadioEntry r p).ru = p.ru := by
  simp only [endRadioEntry]
  repeat' split
  all_goals simp

@[simp] theorem endRadioEntry_rs (r : OpResult) (p : Part) : (endRadioEntry r p).rs = p.rs := by
  simp only [endRadioEntry]
  repeat' split
  all_goals simp

@[simp] theorem endRadioEntry_tb (r : OpResult) (p : Part) : (endRadioEntry r p).tb = p.tb := by
  simp only [endRadioEntry]
  repeat' split
  all_goals simp

@[simp] theorem endRadioEntry_restart (r : OpResult) (p : Part) : (endRadioEntry r p).restart = p.restart := by
  simp only [endRadioEntry]
  repeat' split
  all_goals simp

@[simp] theorem endLinkEntries_on (s : PoleSet) (r : OpResult) (p : Part) : (endLinkEntries s r p).on = p.on := by
  simp only [endLinkEntries]
  repeat' split
  all_goals simp

@[simp] theorem endLinkEntries_eu (s : PoleSet) (r : OpResult) (p : Part) : (endLinkEntries s r p).eu = p.eu := by
  simp only [endLinkEntries]
  repeat' split
  all_goals simp

@[simp] theorem endLinkEntries_sq (s : PoleSet) (r : OpResult) (p : Part) : (endLinkEntries s r p).sq = p.sq := by
  simp only [endLinkEntries]
  repeat' split
  all_goals simp

@[simp] theorem endLinkEntries_pu (s : PoleSet) (r : OpResult) (p : Part) : (endLinkEntries s r p).pu = p.pu := by
  simp only [endLinkEntries]
  repeat' split
  all_goals simp

@[simp] theorem endLinkEntries_tu (s : PoleSet) (r : OpResult) (p : Part) : (endLinkEntries s r p).tu = p.tu := by
  simp only [endLinkEntries]
  repeat' split
  all_goals simp

@[simp] theorem endLinkEntries_bc (s : PoleSet) (r : OpResult) (p : Part) : (endLinkEntries s r p).bc = p.bc := by
  simp only [endLinkEntries]
  repeat' split
  all_goals simp

@[simp] theorem endLinkEntries_ru (s : PoleSet) (r : OpResult) (p : Part) : (endLinkEntries s r p).ru = p.ru := by
  simp only [endLinkEntries]
  repeat' split
  all_goals simp

@[simp] theorem endLinkEntries_rs (s : PoleSet) (r : OpResult) (p : Part) : (endLinkEntries s r p).rs = p.rs := by
  simp only [endLinkEntries]
  repeat' split
  all_goals simp

@[simp] theorem endLinkEntries_tb (s : PoleSet) (r : OpResult) (p : Part) : (endLinkEntries s r p).tb = p.tb := by
  simp only [endLinkEntries]
  repeat' split
  all_goals simp

@[simp] theorem endLinkEntries_restart (s : PoleSet) (r : OpResult) (p : Part) :
    (endLinkEntries s r p).restart = p.restart := by
  simp only [endLinkEntries]
  repeat' split
  all_goals simp

@[simp] theorem cancelSeq_on (x : Pole) (p : Part) : (cancelSeq x p).on = p.on := by
  simp only [cancelSeq]
  split <;> simp

@[simp] theorem cancelSeq_eu (x : Pole) (p : Part) : (cancelSeq x p).eu = p.eu := by
  simp only [cancelSeq]
  split <;> simp

@[simp] theorem cancelSeq_pu (x : Pole) (p : Part) : (cancelSeq x p).pu = p.pu := by
  simp only [cancelSeq]
  split <;> simp

@[simp] theorem cancelSeq_tu (x : Pole) (p : Part) : (cancelSeq x p).tu = p.tu := by
  simp only [cancelSeq]
  split <;> simp

@[simp] theorem cancelSeq_bc (x : Pole) (p : Part) : (cancelSeq x p).bc = p.bc := by
  simp only [cancelSeq]
  split <;> simp

@[simp] theorem cancelSeq_ru (x : Pole) (p : Part) : (cancelSeq x p).ru = p.ru := by
  simp only [cancelSeq]
  split <;> simp

@[simp] theorem cancelSeq_rs (x : Pole) (p : Part) : (cancelSeq x p).rs = p.rs := by
  simp only [cancelSeq]
  split <;> simp

@[simp] theorem cancelSeq_li (x : Pole) (p : Part) : (cancelSeq x p).li = p.li := by
  simp only [cancelSeq]
  split <;> simp

@[simp] theorem cancelSeq_tb (x : Pole) (p : Part) : (cancelSeq x p).tb = p.tb := by
  simp only [cancelSeq]
  split <;> simp

@[simp] theorem cancelSeq_restart (x : Pole) (p : Part) : (cancelSeq x p).restart = p.restart := by
  simp only [cancelSeq]
  split <;> simp

@[simp] theorem cancelEntries_on (s : PoleSet) (p : Part) : (cancelEntries s p).on = p.on := by
  simp [cancelEntries]

@[simp] theorem cancelEntries_eu (s : PoleSet) (p : Part) : (cancelEntries s p).eu = p.eu := by
  simp [cancelEntries]

@[simp] theorem cancelEntries_pu (s : PoleSet) (p : Part) : (cancelEntries s p).pu = p.pu := by
  simp [cancelEntries]

@[simp] theorem cancelEntries_tu (s : PoleSet) (p : Part) : (cancelEntries s p).tu = p.tu := by
  simp [cancelEntries]

@[simp] theorem cancelEntries_bc (s : PoleSet) (p : Part) : (cancelEntries s p).bc = p.bc := by
  simp [cancelEntries]

@[simp] theorem cancelEntries_ru (s : PoleSet) (p : Part) : (cancelEntries s p).ru = p.ru := by
  simp [cancelEntries]

@[simp] theorem cancelEntries_rs (s : PoleSet) (p : Part) : (cancelEntries s p).rs = p.rs := by
  simp [cancelEntries]

@[simp] theorem cancelEntries_tb (s : PoleSet) (p : Part) : (cancelEntries s p).tb = p.tb := by
  simp [cancelEntries]

@[simp] theorem cancelEntries_restart (s : PoleSet) (p : Part) : (cancelEntries s p).restart = p.restart := by
  simp [cancelEntries]

/-! ### Quiescence -/

@[simp] theorem judgeQuiescence_on (p : Part) : (judgeQuiescence p).on = p.on := by
  exact (rfl)

@[simp] theorem judgeQuiescence_dc (p : Part) : (judgeQuiescence p).dc = p.dc := by
  exact (rfl)

@[simp] theorem judgeQuiescence_eu (p : Part) : (judgeQuiescence p).eu = p.eu := by
  exact (rfl)

@[simp] theorem judgeQuiescence_pu (p : Part) : (judgeQuiescence p).pu = p.pu := by
  exact (rfl)

@[simp] theorem judgeQuiescence_tu (p : Part) : (judgeQuiescence p).tu = p.tu := by
  exact (rfl)

@[simp] theorem judgeQuiescence_nu (p : Part) : (judgeQuiescence p).nu = p.nu := by
  exact (rfl)

@[simp] theorem judgeQuiescence_bc (p : Part) : (judgeQuiescence p).bc = p.bc := by
  exact (rfl)

@[simp] theorem judgeQuiescence_ru (p : Part) : (judgeQuiescence p).ru = p.ru := by
  exact (rfl)

@[simp] theorem judgeQuiescence_rs (p : Part) : (judgeQuiescence p).rs = p.rs := by
  exact (rfl)

@[simp] theorem judgeQuiescence_li (p : Part) : (judgeQuiescence p).li = p.li := by
  exact (rfl)

@[simp] theorem judgeQuiescence_tb (p : Part) : (judgeQuiescence p).tb = p.tb := by
  exact (rfl)

@[simp] theorem judgeQuiescence_restart (p : Part) : (judgeQuiescence p).restart = p.restart := by
  exact (rfl)

@[simp] theorem takeMode_recs (q : Sequencer) : (takeMode q).recs = q.recs := by
  simp only [takeMode]
  repeat' split
  all_goals rfl

@[simp] theorem takeMode_quiescent (q : Sequencer) : (takeMode q).quiescent = q.quiescent := by
  simp only [takeMode]
  repeat' split
  all_goals rfl

@[simp] theorem takeMode_pickup (q : Sequencer) : (takeMode q).pickup = q.pickup := by
  simp only [takeMode]
  repeat' split
  all_goals rfl

@[simp] theorem takeMode_meas (q : Sequencer) : (takeMode q).meas = q.meas := by
  simp only [takeMode]
  repeat' split
  all_goals rfl

@[simp] theorem takeMode_told (q : Sequencer) : (takeMode q).told = q.told := by
  simp only [takeMode]
  repeat' split
  all_goals rfl

@[simp] theorem judgeQuiescence_sq_recs (p : Part) : (judgeQuiescence p).sq.recs = p.sq.recs := takeMode_recs _

@[simp] theorem judgeQuiescence_seq (p : Part) (x : Pole) : (judgeQuiescence p).seq x = p.seq x := by
  simp [Part.seq]

@[simp] theorem judgeQuiescence_sq_pickup (p : Part) : (judgeQuiescence p).sq.pickup = p.sq.pickup := takeMode_pickup _

@[simp] theorem judgeQuiescence_sq_meas (p : Part) : (judgeQuiescence p).sq.meas = p.sq.meas := takeMode_meas _

@[simp] theorem judgeQuiescence_sq_told (p : Part) : (judgeQuiescence p).sq.told = p.sq.told := takeMode_told _

/-- The flag is what the poles' states and the drive give (R72). -/
@[simp] theorem judgeQuiescence_sq_quiescent (p : Part) : (judgeQuiescence p).sq.quiescent = p.isQuiescent :=
  takeMode_quiescent _

/-- Quiescence depends on the poles' states and the drive alone, so a judgement does not change the next (R72). -/
@[simp] theorem judgeQuiescence_isQuiescent (p : Part) : (judgeQuiescence p).isQuiescent = p.isQuiescent := by
  simp [Part.isQuiescent]

/-- No pending mode is left, and it is in force, where quiescence is reached (R71). -/
theorem judgeQuiescence_takes_mode (p : Part) (h : p.isQuiescent = true) :
    (judgeQuiescence p).sq.mode = p.sq.pendingMode.getD p.sq.mode ∧ (judgeQuiescence p).sq.pendingMode = none := by
  cases hm : p.sq.pendingMode <;> simp [judgeQuiescence, takeMode, hm, h]

/-- Neither the mode nor the pending mode changes while the Sequencer is not quiescent (R71). -/
theorem judgeQuiescence_keeps_mode (p : Part) (h : p.isQuiescent = false) :
    (judgeQuiescence p).sq.mode = p.sq.mode ∧ (judgeQuiescence p).sq.pendingMode = p.sq.pendingMode := by
  cases hm : p.sq.pendingMode <;> simp [judgeQuiescence, takeMode, hm, h]

/-! ### Lockouts and notes -/

@[simp] theorem enterLockout_on (c : LockSet) (p : Part) : (enterLockout c p).on = p.on := by
  simp [enterLockout]

@[simp] theorem enterLockout_eu (c : LockSet) (p : Part) : (enterLockout c p).eu = p.eu := by
  simp [enterLockout]

@[simp] theorem enterLockout_pu (c : LockSet) (p : Part) : (enterLockout c p).pu = p.pu := by
  simp [enterLockout]

@[simp] theorem enterLockout_tu (c : LockSet) (p : Part) : (enterLockout c p).tu = p.tu := by
  simp [enterLockout]

@[simp] theorem enterLockout_bc (c : LockSet) (p : Part) : (enterLockout c p).bc = p.bc := by
  simp [enterLockout]

@[simp] theorem enterLockout_ru (c : LockSet) (p : Part) : (enterLockout c p).ru = p.ru := by
  simp [enterLockout]

@[simp] theorem enterLockout_rs (c : LockSet) (p : Part) : (enterLockout c p).rs = p.rs := by
  simp [enterLockout]

@[simp] theorem enterLockout_li (c : LockSet) (p : Part) : (enterLockout c p).li = p.li := by
  simp [enterLockout]

@[simp] theorem enterLockout_tb (c : LockSet) (p : Part) : (enterLockout c p).tb = p.tb := by
  simp [enterLockout]

@[simp] theorem enterLockout_restart (c : LockSet) (p : Part) : (enterLockout c p).restart = p.restart := by
  simp [enterLockout]

/-- What entering LOCKOUT does to the sequence records (R46): all that the lock set does not name, or names in LOCKOUT already,
stay. -/
theorem enterLockout_seq (c : LockSet) (p : Part) (x : Pole) :
    (enterLockout c p).seq x =
      match (p.newLocks c).get x with
      | some k => (p.seq x).locked k
      | none => p.seq x := by
  cases hc : (p.newLocks c).get x <;> simp [enterLockout, Part.seq, lockRecs, hc]

@[simp] theorem enterLockout_dc_poles (c : LockSet) (p : Part) : (enterLockout c p).dc.poles = p.dc.poles :=
  applyAll_keeps (f := dropSeq) (fun q => q.dc.poles) (fun _ _ => rfl) _ p

@[simp] theorem enterLockout_dc_flight (c : LockSet) (p : Part) : (enterLockout c p).dc.flight = p.dc.flight :=
  applyAll_keeps (f := dropSeq) (fun q => q.dc.flight) (fun _ _ => rfl) _ p

@[simp] theorem enterLockout_dc_trip (c : LockSet) (p : Part) : (enterLockout c p).dc.trip = p.dc.trip :=
  applyAll_keeps (f := dropSeq) (fun q => q.dc.trip) (fun _ _ => rfl) _ p

@[simp] theorem enterLockout_dc_history (c : LockSet) (p : Part) : (enterLockout c p).dc.history = p.dc.history :=
  applyAll_keeps (f := dropSeq) (fun q => q.dc.history) (fun _ _ => rfl) _ p

@[simp] theorem enterLockout_dc_crew (c : LockSet) (p : Part) : (enterLockout c p).dc.crew = p.dc.crew :=
  applyAll_keeps (f := dropSeq) (fun q => q.dc.crew) (fun _ _ => rfl) _ p

@[simp] theorem enterLockout_dc_radio (c : LockSet) (p : Part) : (enterLockout c p).dc.radio = p.dc.radio :=
  applyAll_keeps (f := dropSeq) (fun q => q.dc.radio) (fun _ _ => rfl) _ p

@[simp] theorem notePoles_on (s : PoleSet) (n : EndNote) (p : Part) : (notePoles s n p).on = p.on := by
  simp [notePoles]

@[simp] theorem notePoles_dc (s : PoleSet) (n : EndNote) (p : Part) : (notePoles s n p).dc = p.dc := by
  simp [notePoles]

@[simp] theorem notePoles_eu (s : PoleSet) (n : EndNote) (p : Part) : (notePoles s n p).eu = p.eu := by
  simp [notePoles]

@[simp] theorem notePoles_pu (s : PoleSet) (n : EndNote) (p : Part) : (notePoles s n p).pu = p.pu := by
  simp [notePoles]

@[simp] theorem notePoles_tu (s : PoleSet) (n : EndNote) (p : Part) : (notePoles s n p).tu = p.tu := by
  simp [notePoles]

@[simp] theorem notePoles_nu (s : PoleSet) (n : EndNote) (p : Part) : (notePoles s n p).nu = p.nu := by
  simp [notePoles]

@[simp] theorem notePoles_bc (s : PoleSet) (n : EndNote) (p : Part) : (notePoles s n p).bc = p.bc := by
  simp [notePoles]

@[simp] theorem notePoles_ru (s : PoleSet) (n : EndNote) (p : Part) : (notePoles s n p).ru = p.ru := by
  simp [notePoles]

@[simp] theorem notePoles_rs (s : PoleSet) (n : EndNote) (p : Part) : (notePoles s n p).rs = p.rs := by
  simp [notePoles]

@[simp] theorem notePoles_li (s : PoleSet) (n : EndNote) (p : Part) : (notePoles s n p).li = p.li := by
  simp [notePoles]

@[simp] theorem notePoles_tb (s : PoleSet) (n : EndNote) (p : Part) : (notePoles s n p).tb = p.tb := by
  simp [notePoles]

@[simp] theorem notePoles_restart (s : PoleSet) (n : EndNote) (p : Part) : (notePoles s n p).restart = p.restart := by
  simp [notePoles]

@[simp] theorem startDead_on (x : Pole) (p : Part) : (startDead x p).on = p.on := by
  simp [startDead]

@[simp] theorem startDead_dc (x : Pole) (p : Part) : (startDead x p).dc = p.dc := by
  simp [startDead]

@[simp] theorem startDead_eu (x : Pole) (p : Part) : (startDead x p).eu = p.eu := by
  simp [startDead]

@[simp] theorem startDead_pu (x : Pole) (p : Part) : (startDead x p).pu = p.pu := by
  simp [startDead]

@[simp] theorem startDead_tu (x : Pole) (p : Part) : (startDead x p).tu = p.tu := by
  simp [startDead]

@[simp] theorem startDead_nu (x : Pole) (p : Part) : (startDead x p).nu = p.nu := by
  simp [startDead]

@[simp] theorem startDead_bc (x : Pole) (p : Part) : (startDead x p).bc = p.bc := by
  simp [startDead]

@[simp] theorem startDead_ru (x : Pole) (p : Part) : (startDead x p).ru = p.ru := by
  simp [startDead]

@[simp] theorem startDead_rs (x : Pole) (p : Part) : (startDead x p).rs = p.rs := by
  simp [startDead]

@[simp] theorem startDead_li (x : Pole) (p : Part) : (startDead x p).li = p.li := by
  simp [startDead]

@[simp] theorem startDead_tb (x : Pole) (p : Part) : (startDead x p).tb = p.tb := by
  simp [startDead]

@[simp] theorem startDead_restart (x : Pole) (p : Part) : (startDead x p).restart = p.restart := by
  simp [startDead]

@[simp] theorem startGang_on (p : Part) : (startGang p).on = p.on := by
  simp only [startGang]
  repeat' split
  all_goals simp

@[simp] theorem startGang_dc (p : Part) : (startGang p).dc = p.dc := by
  simp only [startGang]
  repeat' split
  all_goals simp

@[simp] theorem startGang_eu (p : Part) : (startGang p).eu = p.eu := by
  simp only [startGang]
  repeat' split
  all_goals simp

@[simp] theorem startGang_pu (p : Part) : (startGang p).pu = p.pu := by
  simp only [startGang]
  repeat' split
  all_goals simp

@[simp] theorem startGang_tu (p : Part) : (startGang p).tu = p.tu := by
  simp only [startGang]
  repeat' split
  all_goals simp

@[simp] theorem startGang_nu (p : Part) : (startGang p).nu = p.nu := by
  simp only [startGang]
  repeat' split
  all_goals simp

@[simp] theorem startGang_bc (p : Part) : (startGang p).bc = p.bc := by
  simp only [startGang]
  repeat' split
  all_goals simp

@[simp] theorem startGang_ru (p : Part) : (startGang p).ru = p.ru := by
  simp only [startGang]
  repeat' split
  all_goals simp

@[simp] theorem startGang_rs (p : Part) : (startGang p).rs = p.rs := by
  simp only [startGang]
  repeat' split
  all_goals simp

@[simp] theorem startGang_li (p : Part) : (startGang p).li = p.li := by
  simp only [startGang]
  repeat' split
  all_goals simp

@[simp] theorem startGang_tb (p : Part) : (startGang p).tb = p.tb := by
  simp only [startGang]
  repeat' split
  all_goals simp

@[simp] theorem startGang_restart (p : Part) : (startGang p).restart = p.restart := by
  simp only [startGang]
  repeat' split
  all_goals simp

@[simp] theorem joinGangTimer_on (p : Part) : (joinGangTimer p).on = p.on := by
  simp only [joinGangTimer]
  repeat' split
  all_goals simp

@[simp] theorem joinGangTimer_dc (p : Part) : (joinGangTimer p).dc = p.dc := by
  simp only [joinGangTimer]
  repeat' split
  all_goals simp

@[simp] theorem joinGangTimer_eu (p : Part) : (joinGangTimer p).eu = p.eu := by
  simp only [joinGangTimer]
  repeat' split
  all_goals simp

@[simp] theorem joinGangTimer_pu (p : Part) : (joinGangTimer p).pu = p.pu := by
  simp only [joinGangTimer]
  repeat' split
  all_goals simp

@[simp] theorem joinGangTimer_tu (p : Part) : (joinGangTimer p).tu = p.tu := by
  simp only [joinGangTimer]
  repeat' split
  all_goals simp

@[simp] theorem joinGangTimer_nu (p : Part) : (joinGangTimer p).nu = p.nu := by
  simp only [joinGangTimer]
  repeat' split
  all_goals simp

@[simp] theorem joinGangTimer_bc (p : Part) : (joinGangTimer p).bc = p.bc := by
  simp only [joinGangTimer]
  repeat' split
  all_goals simp

@[simp] theorem joinGangTimer_ru (p : Part) : (joinGangTimer p).ru = p.ru := by
  simp only [joinGangTimer]
  repeat' split
  all_goals simp

@[simp] theorem joinGangTimer_rs (p : Part) : (joinGangTimer p).rs = p.rs := by
  simp only [joinGangTimer]
  repeat' split
  all_goals simp

@[simp] theorem joinGangTimer_li (p : Part) : (joinGangTimer p).li = p.li := by
  simp only [joinGangTimer]
  repeat' split
  all_goals simp

@[simp] theorem joinGangTimer_tb (p : Part) : (joinGangTimer p).tb = p.tb := by
  simp only [joinGangTimer]
  repeat' split
  all_goals simp

@[simp] theorem joinGangTimer_restart (p : Part) : (joinGangTimer p).restart = p.restart := by
  simp only [joinGangTimer]
  repeat' split
  all_goals simp

@[simp] theorem mapReclaim_on (f : Reclaim → Reclaim) (p : Part) : (mapReclaim f p).on = p.on := by
  simp [mapReclaim]

@[simp] theorem mapReclaim_dc (f : Reclaim → Reclaim) (p : Part) : (mapReclaim f p).dc = p.dc := by
  simp [mapReclaim]

@[simp] theorem mapReclaim_eu (f : Reclaim → Reclaim) (p : Part) : (mapReclaim f p).eu = p.eu := by
  simp [mapReclaim]

@[simp] theorem mapReclaim_pu (f : Reclaim → Reclaim) (p : Part) : (mapReclaim f p).pu = p.pu := by
  simp [mapReclaim]

@[simp] theorem mapReclaim_tu (f : Reclaim → Reclaim) (p : Part) : (mapReclaim f p).tu = p.tu := by
  simp [mapReclaim]

@[simp] theorem mapReclaim_nu (f : Reclaim → Reclaim) (p : Part) : (mapReclaim f p).nu = p.nu := by
  simp [mapReclaim]

@[simp] theorem mapReclaim_bc (f : Reclaim → Reclaim) (p : Part) : (mapReclaim f p).bc = p.bc := by
  simp [mapReclaim]

@[simp] theorem mapReclaim_ru (f : Reclaim → Reclaim) (p : Part) : (mapReclaim f p).ru = p.ru := by
  simp [mapReclaim]

@[simp] theorem mapReclaim_rs (f : Reclaim → Reclaim) (p : Part) : (mapReclaim f p).rs = p.rs := by
  simp [mapReclaim]

@[simp] theorem mapReclaim_li (f : Reclaim → Reclaim) (p : Part) : (mapReclaim f p).li = p.li := by
  simp [mapReclaim]

@[simp] theorem mapReclaim_tb (f : Reclaim → Reclaim) (p : Part) : (mapReclaim f p).tb = p.tb := by
  simp [mapReclaim]

@[simp] theorem mapReclaim_restart (f : Reclaim → Reclaim) (p : Part) : (mapReclaim f p).restart = p.restart := by
  simp [mapReclaim]

@[simp] theorem sqProfileChanged_on (p : Part) : (sqProfileChanged p).on = p.on := by
  simp [sqProfileChanged]

@[simp] theorem sqProfileChanged_dc (p : Part) : (sqProfileChanged p).dc = p.dc := by
  simp [sqProfileChanged]

@[simp] theorem sqProfileChanged_eu (p : Part) : (sqProfileChanged p).eu = p.eu := by
  simp [sqProfileChanged]

@[simp] theorem sqProfileChanged_pu (p : Part) : (sqProfileChanged p).pu = p.pu := by
  simp [sqProfileChanged]

@[simp] theorem sqProfileChanged_tu (p : Part) : (sqProfileChanged p).tu = p.tu := by
  simp [sqProfileChanged]

@[simp] theorem sqProfileChanged_nu (p : Part) : (sqProfileChanged p).nu = p.nu := by
  simp [sqProfileChanged]

@[simp] theorem sqProfileChanged_bc (p : Part) : (sqProfileChanged p).bc = p.bc := by
  simp [sqProfileChanged]

@[simp] theorem sqProfileChanged_ru (p : Part) : (sqProfileChanged p).ru = p.ru := by
  simp [sqProfileChanged]

@[simp] theorem sqProfileChanged_rs (p : Part) : (sqProfileChanged p).rs = p.rs := by
  simp [sqProfileChanged]

@[simp] theorem sqProfileChanged_li (p : Part) : (sqProfileChanged p).li = p.li := by
  simp [sqProfileChanged]

@[simp] theorem sqProfileChanged_tb (p : Part) : (sqProfileChanged p).tb = p.tb := by
  simp [sqProfileChanged]

@[simp] theorem sqProfileChanged_restart (p : Part) : (sqProfileChanged p).restart = p.restart := by
  simp [sqProfileChanged]

@[simp] theorem sqPickups_on (s : PoleSet) (p : Part) : (sqPickups s p).on = p.on := by
  simp [sqPickups]

@[simp] theorem sqPickups_dc (s : PoleSet) (p : Part) : (sqPickups s p).dc = p.dc := by
  simp [sqPickups]

@[simp] theorem sqPickups_eu (s : PoleSet) (p : Part) : (sqPickups s p).eu = p.eu := by
  simp [sqPickups]

@[simp] theorem sqPickups_pu (s : PoleSet) (p : Part) : (sqPickups s p).pu = p.pu := by
  simp [sqPickups]

@[simp] theorem sqPickups_tu (s : PoleSet) (p : Part) : (sqPickups s p).tu = p.tu := by
  simp [sqPickups]

@[simp] theorem sqPickups_nu (s : PoleSet) (p : Part) : (sqPickups s p).nu = p.nu := by
  simp [sqPickups]

@[simp] theorem sqPickups_bc (s : PoleSet) (p : Part) : (sqPickups s p).bc = p.bc := by
  simp [sqPickups]

@[simp] theorem sqPickups_ru (s : PoleSet) (p : Part) : (sqPickups s p).ru = p.ru := by
  simp [sqPickups]

@[simp] theorem sqPickups_rs (s : PoleSet) (p : Part) : (sqPickups s p).rs = p.rs := by
  simp [sqPickups]

@[simp] theorem sqPickups_li (s : PoleSet) (p : Part) : (sqPickups s p).li = p.li := by
  simp [sqPickups]

@[simp] theorem sqPickups_tb (s : PoleSet) (p : Part) : (sqPickups s p).tb = p.tb := by
  simp [sqPickups]

@[simp] theorem sqPickups_restart (s : PoleSet) (p : Part) : (sqPickups s p).restart = p.restart := by
  simp [sqPickups]

@[simp] theorem sqDropouts_on (s : PoleSet) (p : Part) : (sqDropouts s p).on = p.on := by
  simp [sqDropouts]

@[simp] theorem sqDropouts_dc (s : PoleSet) (p : Part) : (sqDropouts s p).dc = p.dc := by
  simp [sqDropouts]

@[simp] theorem sqDropouts_eu (s : PoleSet) (p : Part) : (sqDropouts s p).eu = p.eu := by
  simp [sqDropouts]

@[simp] theorem sqDropouts_pu (s : PoleSet) (p : Part) : (sqDropouts s p).pu = p.pu := by
  simp [sqDropouts]

@[simp] theorem sqDropouts_tu (s : PoleSet) (p : Part) : (sqDropouts s p).tu = p.tu := by
  simp [sqDropouts]

@[simp] theorem sqDropouts_nu (s : PoleSet) (p : Part) : (sqDropouts s p).nu = p.nu := by
  simp [sqDropouts]

@[simp] theorem sqDropouts_bc (s : PoleSet) (p : Part) : (sqDropouts s p).bc = p.bc := by
  simp [sqDropouts]

@[simp] theorem sqDropouts_ru (s : PoleSet) (p : Part) : (sqDropouts s p).ru = p.ru := by
  simp [sqDropouts]

@[simp] theorem sqDropouts_rs (s : PoleSet) (p : Part) : (sqDropouts s p).rs = p.rs := by
  simp [sqDropouts]

@[simp] theorem sqDropouts_li (s : PoleSet) (p : Part) : (sqDropouts s p).li = p.li := by
  simp [sqDropouts]

@[simp] theorem sqDropouts_tb (s : PoleSet) (p : Part) : (sqDropouts s p).tb = p.tb := by
  simp [sqDropouts]

@[simp] theorem sqDropouts_restart (s : PoleSet) (p : Part) : (sqDropouts s p).restart = p.restart := by
  simp [sqDropouts]

/-- After pickups the flag is what the poles' states and the drive give (R72). -/
@[simp] theorem sqPickups_sq_quiescent (s : PoleSet) (p : Part) :
    (sqPickups s p).sq.quiescent = (sqPickups s p).isQuiescent := by
  simp [sqPickups]

/-- After dropouts the flag is what the poles' states and the drive give (R72). -/
@[simp] theorem sqDropouts_sq_quiescent (s : PoleSet) (p : Part) :
    (sqDropouts s p).sq.quiescent = (sqDropouts s p).isQuiescent := by
  simp [sqDropouts]

/-- Dropouts leave a quiescent Sequencer quiescent: only a pole in TIMING is changed (R47, R72). -/
theorem sqDropouts_keeps_quiescence (s : PoleSet) (p : Part) (h : p.isQuiescent = true) :
    (sqDropouts s p).isQuiescent = true := by
  simp only [sqDropouts, judgeQuiescence_isQuiescent]
  simp only [Part.isQuiescent, Bool.and_eq_true, mapSeq_dc] at h ⊢
  refine ⟨?_, h.2⟩
  have hs := h.1
  simp only [PoleSet.all, List.all_eq_true] at hs ⊢
  intro x hx
  have hr := hs x hx
  rw [seq_mapSeq]
  split
  · change ((p.seq x).droppedOut _).state.rests = true
    unfold SeqRec.droppedOut
    split
    · rename_i ht
      simp [ht, SeqState.rests] at hr
    · exact hr
  · exact hr

@[simp] theorem pushColdLoad_on (p : Part) : (pushColdLoad p).on = p.on := by
  simp only [pushColdLoad, judged]
  split <;> simp

@[simp] theorem pushColdLoad_dc (p : Part) : (pushColdLoad p).dc = p.dc := by
  simp only [pushColdLoad, judged]
  split <;> simp

@[simp] theorem pushColdLoad_eu (p : Part) : (pushColdLoad p).eu = p.eu := by
  simp only [pushColdLoad, judged]
  split <;> simp

@[simp] theorem pushColdLoad_tu (p : Part) : (pushColdLoad p).tu = p.tu := by
  simp only [pushColdLoad, judged]
  split <;> simp

@[simp] theorem pushColdLoad_nu (p : Part) : (pushColdLoad p).nu = p.nu := by
  simp only [pushColdLoad, judged]
  split <;> simp

@[simp] theorem pushColdLoad_bc (p : Part) : (pushColdLoad p).bc = p.bc := by
  simp only [pushColdLoad, judged]
  split <;> simp

@[simp] theorem pushColdLoad_rs (p : Part) : (pushColdLoad p).rs = p.rs := by
  simp only [pushColdLoad, judged]
  split <;> simp

@[simp] theorem pushColdLoad_tb (p : Part) : (pushColdLoad p).tb = p.tb := by
  simp only [pushColdLoad, judged]
  split <;> simp

@[simp] theorem pushColdLoad_restart (p : Part) : (pushColdLoad p).restart = p.restart := by
  simp only [pushColdLoad, judged]
  split <;> simp

@[simp] theorem coldLoadTest_on (s : PoleSet) (p : Part) : (coldLoadTest s p).on = p.on := by
  simp only [coldLoadTest]
  split <;> simp

@[simp] theorem coldLoadTest_dc (s : PoleSet) (p : Part) : (coldLoadTest s p).dc = p.dc := by
  simp only [coldLoadTest]
  split <;> simp

@[simp] theorem coldLoadTest_eu (s : PoleSet) (p : Part) : (coldLoadTest s p).eu = p.eu := by
  simp only [coldLoadTest]
  split <;> simp

@[simp] theorem coldLoadTest_tu (s : PoleSet) (p : Part) : (coldLoadTest s p).tu = p.tu := by
  simp only [coldLoadTest]
  split <;> simp

@[simp] theorem coldLoadTest_nu (s : PoleSet) (p : Part) : (coldLoadTest s p).nu = p.nu := by
  simp only [coldLoadTest]
  split <;> simp

@[simp] theorem coldLoadTest_bc (s : PoleSet) (p : Part) : (coldLoadTest s p).bc = p.bc := by
  simp only [coldLoadTest]
  split <;> simp

@[simp] theorem coldLoadTest_rs (s : PoleSet) (p : Part) : (coldLoadTest s p).rs = p.rs := by
  simp only [coldLoadTest]
  split <;> simp

@[simp] theorem coldLoadTest_tb (s : PoleSet) (p : Part) : (coldLoadTest s p).tb = p.tb := by
  simp only [coldLoadTest]
  split <;> simp

@[simp] theorem coldLoadTest_restart (s : PoleSet) (p : Part) : (coldLoadTest s p).restart = p.restart := by
  simp only [coldLoadTest]
  split <;> simp

/-! ### The end of an operation -/

@[simp] theorem clearMotion_on (s : PoleSet) (p : Part) : (clearMotion s p).on = p.on := by
  simp [clearMotion]

@[simp] theorem clearMotion_eu (s : PoleSet) (p : Part) : (clearMotion s p).eu = p.eu := by
  simp [clearMotion]

@[simp] theorem clearMotion_sq (s : PoleSet) (p : Part) : (clearMotion s p).sq = p.sq := by
  simp [clearMotion]

@[simp] theorem clearMotion_pu (s : PoleSet) (p : Part) : (clearMotion s p).pu = p.pu := by
  simp [clearMotion]

@[simp] theorem clearMotion_tu (s : PoleSet) (p : Part) : (clearMotion s p).tu = p.tu := by
  simp [clearMotion]

@[simp] theorem clearMotion_nu (s : PoleSet) (p : Part) : (clearMotion s p).nu = p.nu := by
  simp [clearMotion]

@[simp] theorem clearMotion_bc (s : PoleSet) (p : Part) : (clearMotion s p).bc = p.bc := by
  simp [clearMotion]

@[simp] theorem clearMotion_ru (s : PoleSet) (p : Part) : (clearMotion s p).ru = p.ru := by
  simp [clearMotion]

@[simp] theorem clearMotion_rs (s : PoleSet) (p : Part) : (clearMotion s p).rs = p.rs := by
  simp [clearMotion]

@[simp] theorem clearMotion_li (s : PoleSet) (p : Part) : (clearMotion s p).li = p.li := by
  simp [clearMotion]

@[simp] theorem clearMotion_tb (s : PoleSet) (p : Part) : (clearMotion s p).tb = p.tb := by
  simp [clearMotion]

@[simp] theorem clearMotion_restart (s : PoleSet) (p : Part) : (clearMotion s p).restart = p.restart := by
  simp [clearMotion]

@[simp] theorem setMech_on (c : MechCause) (x : Pole) (p : Part) : (setMech c x p).on = p.on := by
  simp only [setMech]
  split <;> simp

@[simp] theorem setMech_eu (c : MechCause) (x : Pole) (p : Part) : (setMech c x p).eu = p.eu := by
  simp only [setMech]
  split <;> simp

@[simp] theorem setMech_sq (c : MechCause) (x : Pole) (p : Part) : (setMech c x p).sq = p.sq := by
  simp only [setMech]
  split <;> simp

@[simp] theorem setMech_pu (c : MechCause) (x : Pole) (p : Part) : (setMech c x p).pu = p.pu := by
  simp only [setMech]
  split <;> simp

@[simp] theorem setMech_tu (c : MechCause) (x : Pole) (p : Part) : (setMech c x p).tu = p.tu := by
  simp only [setMech]
  split <;> simp

@[simp] theorem setMech_nu (c : MechCause) (x : Pole) (p : Part) : (setMech c x p).nu = p.nu := by
  simp only [setMech]
  split <;> simp

@[simp] theorem setMech_bc (c : MechCause) (x : Pole) (p : Part) : (setMech c x p).bc = p.bc := by
  simp only [setMech]
  split <;> simp

@[simp] theorem setMech_rs (c : MechCause) (x : Pole) (p : Part) : (setMech c x p).rs = p.rs := by
  simp only [setMech]
  split <;> simp

@[simp] theorem setMech_tb (c : MechCause) (x : Pole) (p : Part) : (setMech c x p).tb = p.tb := by
  simp only [setMech]
  split <;> simp

@[simp] theorem setMech_restart (c : MechCause) (x : Pole) (p : Part) : (setMech c x p).restart = p.restart := by
  simp only [setMech]
  split <;> simp

@[simp] theorem coilChecks_on (s : PoleSet) (p : Part) : (coilChecks s p).on = p.on := by
  simp [coilChecks]

@[simp] theorem coilChecks_eu (s : PoleSet) (p : Part) : (coilChecks s p).eu = p.eu := by
  simp [coilChecks]

@[simp] theorem coilChecks_pu (s : PoleSet) (p : Part) : (coilChecks s p).pu = p.pu := by
  simp [coilChecks]

@[simp] theorem coilChecks_tu (s : PoleSet) (p : Part) : (coilChecks s p).tu = p.tu := by
  simp [coilChecks]

@[simp] theorem coilChecks_bc (s : PoleSet) (p : Part) : (coilChecks s p).bc = p.bc := by
  simp [coilChecks]

@[simp] theorem coilChecks_rs (s : PoleSet) (p : Part) : (coilChecks s p).rs = p.rs := by
  simp [coilChecks]

@[simp] theorem coilChecks_tb (s : PoleSet) (p : Part) : (coilChecks s p).tb = p.tb := by
  simp [coilChecks]

@[simp] theorem coilChecks_restart (s : PoleSet) (p : Part) : (coilChecks s p).restart = p.restart := by
  simp [coilChecks]

@[simp] theorem wearReports_on (old new : Nat) (x : Pole) (p : Part) : (wearReports old new x p).on = p.on := by
  simp only [wearReports]
  repeat' split
  all_goals simp

@[simp] theorem wearReports_dc (old new : Nat) (x : Pole) (p : Part) : (wearReports old new x p).dc = p.dc := by
  simp only [wearReports]
  repeat' split
  all_goals simp

@[simp] theorem wearReports_eu (old new : Nat) (x : Pole) (p : Part) : (wearReports old new x p).eu = p.eu := by
  simp only [wearReports]
  repeat' split
  all_goals simp

@[simp] theorem wearReports_sq (old new : Nat) (x : Pole) (p : Part) : (wearReports old new x p).sq = p.sq := by
  simp only [wearReports]
  repeat' split
  all_goals simp

@[simp] theorem wearReports_pu (old new : Nat) (x : Pole) (p : Part) : (wearReports old new x p).pu = p.pu := by
  simp only [wearReports]
  repeat' split
  all_goals simp

@[simp] theorem wearReports_tu (old new : Nat) (x : Pole) (p : Part) : (wearReports old new x p).tu = p.tu := by
  simp only [wearReports]
  repeat' split
  all_goals simp

@[simp] theorem wearReports_nu (old new : Nat) (x : Pole) (p : Part) : (wearReports old new x p).nu = p.nu := by
  simp only [wearReports]
  repeat' split
  all_goals simp

@[simp] theorem wearReports_bc (old new : Nat) (x : Pole) (p : Part) : (wearReports old new x p).bc = p.bc := by
  simp only [wearReports]
  repeat' split
  all_goals simp

@[simp] theorem wearReports_rs (old new : Nat) (x : Pole) (p : Part) : (wearReports old new x p).rs = p.rs := by
  simp only [wearReports]
  repeat' split
  all_goals simp

@[simp] theorem wearReports_tb (old new : Nat) (x : Pole) (p : Part) : (wearReports old new x p).tb = p.tb := by
  simp only [wearReports]
  repeat' split
  all_goals simp

@[simp] theorem wearReports_restart (old new : Nat) (x : Pole) (p : Part) :
    (wearReports old new x p).restart = p.restart := by
  simp only [wearReports]
  repeat' split
  all_goals simp

@[simp] theorem addWear_on (x : Pole) (p : Part) : (addWear x p).on = p.on := by
  simp [addWear]

@[simp] theorem addWear_eu (x : Pole) (p : Part) : (addWear x p).eu = p.eu := by
  simp [addWear]

@[simp] theorem addWear_sq (x : Pole) (p : Part) : (addWear x p).sq = p.sq := by
  simp [addWear]

@[simp] theorem addWear_pu (x : Pole) (p : Part) : (addWear x p).pu = p.pu := by
  simp [addWear]

@[simp] theorem addWear_tu (x : Pole) (p : Part) : (addWear x p).tu = p.tu := by
  simp [addWear]

@[simp] theorem addWear_nu (x : Pole) (p : Part) : (addWear x p).nu = p.nu := by
  simp [addWear]

@[simp] theorem addWear_bc (x : Pole) (p : Part) : (addWear x p).bc = p.bc := by
  simp [addWear]

@[simp] theorem addWear_rs (x : Pole) (p : Part) : (addWear x p).rs = p.rs := by
  simp [addWear]

@[simp] theorem addWear_tb (x : Pole) (p : Part) : (addWear x p).tb = p.tb := by
  simp [addWear]

@[simp] theorem addWear_restart (x : Pole) (p : Part) : (addWear x p).restart = p.restart := by
  simp [addWear]

@[simp] theorem countAndWear_on (f : Flight) (p : Part) : (countAndWear f p).on = p.on := by
  simp only [countAndWear]
  repeat' split
  all_goals simp

@[simp] theorem countAndWear_eu (f : Flight) (p : Part) : (countAndWear f p).eu = p.eu := by
  simp only [countAndWear]
  repeat' split
  all_goals simp

@[simp] theorem countAndWear_sq (f : Flight) (p : Part) : (countAndWear f p).sq = p.sq := by
  simp only [countAndWear]
  repeat' split
  all_goals simp

@[simp] theorem countAndWear_pu (f : Flight) (p : Part) : (countAndWear f p).pu = p.pu := by
  simp only [countAndWear]
  repeat' split
  all_goals simp

@[simp] theorem countAndWear_tu (f : Flight) (p : Part) : (countAndWear f p).tu = p.tu := by
  simp only [countAndWear]
  repeat' split
  all_goals simp

@[simp] theorem countAndWear_nu (f : Flight) (p : Part) : (countAndWear f p).nu = p.nu := by
  simp only [countAndWear]
  repeat' split
  all_goals simp

@[simp] theorem countAndWear_bc (f : Flight) (p : Part) : (countAndWear f p).bc = p.bc := by
  simp only [countAndWear]
  repeat' split
  all_goals simp

@[simp] theorem countAndWear_tb (f : Flight) (p : Part) : (countAndWear f p).tb = p.tb := by
  simp only [countAndWear]
  repeat' split
  all_goals simp

@[simp] theorem countAndWear_restart (f : Flight) (p : Part) : (countAndWear f p).restart = p.restart := by
  simp only [countAndWear]
  repeat' split
  all_goals simp

@[simp] theorem releaseFlight_on (op : OpRec) (p : Part) : (releaseFlight op p).on = p.on := by
  unfold releaseFlight
  split
  · rfl
  · exact applyAll_on (by intros; rfl) _ _
  · exact applyAll_on (by intros; rfl) _ _

@[simp] theorem releaseFlight_dc (op : OpRec) (p : Part) : (releaseFlight op p).dc = p.dc := by
  unfold releaseFlight
  split
  · rfl
  · exact applyAll_dc (by intros; rfl) _ _
  · exact applyAll_dc (by intros; rfl) _ _

@[simp] theorem releaseFlight_eu (op : OpRec) (p : Part) : (releaseFlight op p).eu = p.eu := by
  unfold releaseFlight
  split
  · rfl
  · exact applyAll_eu (by intros; rfl) _ _
  · exact applyAll_eu (by intros; rfl) _ _

@[simp] theorem releaseFlight_sq (op : OpRec) (p : Part) : (releaseFlight op p).sq = p.sq := by
  unfold releaseFlight
  split
  · rfl
  · exact applyAll_sq (by intros; rfl) _ _
  · exact applyAll_sq (by intros; rfl) _ _

@[simp] theorem releaseFlight_pu (op : OpRec) (p : Part) : (releaseFlight op p).pu = p.pu := by
  unfold releaseFlight
  split
  · rfl
  · exact applyAll_pu (by intros; rfl) _ _
  · exact applyAll_pu (by intros; rfl) _ _

@[simp] theorem releaseFlight_tu (op : OpRec) (p : Part) : (releaseFlight op p).tu = p.tu := by
  unfold releaseFlight
  split
  · rfl
  · exact applyAll_tu (by intros; rfl) _ _
  · exact applyAll_tu (by intros; rfl) _ _

@[simp] theorem releaseFlight_bc (op : OpRec) (p : Part) : (releaseFlight op p).bc = p.bc := by
  unfold releaseFlight
  split
  · rfl
  · exact applyAll_bc (by intros; rfl) _ _
  · exact applyAll_bc (by intros; rfl) _ _

@[simp] theorem releaseFlight_ru (op : OpRec) (p : Part) : (releaseFlight op p).ru = p.ru := by
  unfold releaseFlight
  split
  · rfl
  · exact applyAll_ru (by intros; rfl) _ _
  · exact applyAll_ru (by intros; rfl) _ _

@[simp] theorem releaseFlight_rs (op : OpRec) (p : Part) : (releaseFlight op p).rs = p.rs := by
  unfold releaseFlight
  split
  · rfl
  · exact applyAll_rs (by intros; rfl) _ _
  · exact applyAll_rs (by intros; rfl) _ _

@[simp] theorem releaseFlight_li (op : OpRec) (p : Part) : (releaseFlight op p).li = p.li := by
  unfold releaseFlight
  split
  · rfl
  · exact applyAll_li (by intros; rfl) _ _
  · exact applyAll_li (by intros; rfl) _ _

@[simp] theorem releaseFlight_tb (op : OpRec) (p : Part) : (releaseFlight op p).tb = p.tb := by
  unfold releaseFlight
  split
  · rfl
  · exact applyAll_tb (by intros; rfl) _ _
  · exact applyAll_tb (by intros; rfl) _ _

@[simp] theorem releaseFlight_restart (op : OpRec) (p : Part) : (releaseFlight op p).restart = p.restart := by
  unfold releaseFlight
  split
  · rfl
  · exact applyAll_restart (by intros; rfl) _ _
  · exact applyAll_restart (by intros; rfl) _ _

@[simp] theorem doneReport_on (op : OpRec) (r : OpResult) (p : Part) : (doneReport op r p).on = p.on := by
  simp [doneReport]

@[simp] theorem doneReport_dc (op : OpRec) (r : OpResult) (p : Part) : (doneReport op r p).dc = p.dc := by
  simp [doneReport]

@[simp] theorem doneReport_eu (op : OpRec) (r : OpResult) (p : Part) : (doneReport op r p).eu = p.eu := by
  simp [doneReport]

@[simp] theorem doneReport_sq (op : OpRec) (r : OpResult) (p : Part) : (doneReport op r p).sq = p.sq := by
  simp [doneReport]

@[simp] theorem doneReport_pu (op : OpRec) (r : OpResult) (p : Part) : (doneReport op r p).pu = p.pu := by
  simp [doneReport]

@[simp] theorem doneReport_tu (op : OpRec) (r : OpResult) (p : Part) : (doneReport op r p).tu = p.tu := by
  simp [doneReport]

@[simp] theorem doneReport_nu (op : OpRec) (r : OpResult) (p : Part) : (doneReport op r p).nu = p.nu := by
  simp [doneReport]

@[simp] theorem doneReport_bc (op : OpRec) (r : OpResult) (p : Part) : (doneReport op r p).bc = p.bc := by
  simp [doneReport]

@[simp] theorem doneReport_rs (op : OpRec) (r : OpResult) (p : Part) : (doneReport op r p).rs = p.rs := by
  simp [doneReport]

@[simp] theorem doneReport_tb (op : OpRec) (r : OpResult) (p : Part) : (doneReport op r p).tb = p.tb := by
  simp [doneReport]

@[simp] theorem doneReport_restart (op : OpRec) (r : OpResult) (p : Part) :
    (doneReport op r p).restart = p.restart := by
  simp [doneReport]

@[simp] theorem pushHistory_on (f : Flight) (r : OpResult) (p : Part) : (pushHistory f r p).on = p.on := by
  exact (rfl)

@[simp] theorem pushHistory_eu (f : Flight) (r : OpResult) (p : Part) : (pushHistory f r p).eu = p.eu := by
  exact (rfl)

@[simp] theorem pushHistory_sq (f : Flight) (r : OpResult) (p : Part) : (pushHistory f r p).sq = p.sq := by
  exact (rfl)

@[simp] theorem pushHistory_pu (f : Flight) (r : OpResult) (p : Part) : (pushHistory f r p).pu = p.pu := by
  exact (rfl)

@[simp] theorem pushHistory_tu (f : Flight) (r : OpResult) (p : Part) : (pushHistory f r p).tu = p.tu := by
  exact (rfl)

@[simp] theorem pushHistory_nu (f : Flight) (r : OpResult) (p : Part) : (pushHistory f r p).nu = p.nu := by
  exact (rfl)

@[simp] theorem pushHistory_bc (f : Flight) (r : OpResult) (p : Part) : (pushHistory f r p).bc = p.bc := by
  exact (rfl)

@[simp] theorem pushHistory_ru (f : Flight) (r : OpResult) (p : Part) : (pushHistory f r p).ru = p.ru := by
  exact (rfl)

@[simp] theorem pushHistory_rs (f : Flight) (r : OpResult) (p : Part) : (pushHistory f r p).rs = p.rs := by
  exact (rfl)

@[simp] theorem pushHistory_li (f : Flight) (r : OpResult) (p : Part) : (pushHistory f r p).li = p.li := by
  exact (rfl)

@[simp] theorem pushHistory_tb (f : Flight) (r : OpResult) (p : Part) : (pushHistory f r p).tb = p.tb := by
  exact (rfl)

@[simp] theorem pushHistory_restart (f : Flight) (r : OpResult) (p : Part) :
    (pushHistory f r p).restart = p.restart := by
  exact (rfl)

@[simp] theorem beginEnd_on (p : Part) : (beginEnd p).on = p.on := rfl

@[simp] theorem beginEnd_eu (p : Part) : (beginEnd p).eu = p.eu := rfl

@[simp] theorem beginEnd_sq (p : Part) : (beginEnd p).sq = p.sq := rfl

@[simp] theorem beginEnd_pu (p : Part) : (beginEnd p).pu = p.pu := rfl

@[simp] theorem beginEnd_tu (p : Part) : (beginEnd p).tu = p.tu := rfl

@[simp] theorem beginEnd_nu (p : Part) : (beginEnd p).nu = p.nu := rfl

@[simp] theorem beginEnd_bc (p : Part) : (beginEnd p).bc = p.bc := rfl

@[simp] theorem beginEnd_ru (p : Part) : (beginEnd p).ru = p.ru := rfl

@[simp] theorem beginEnd_rs (p : Part) : (beginEnd p).rs = p.rs := rfl

@[simp] theorem beginEnd_li (p : Part) : (beginEnd p).li = p.li := rfl

@[simp] theorem beginEnd_tb (p : Part) : (beginEnd p).tb = p.tb := rfl

@[simp] theorem beginEnd_restart (p : Part) : (beginEnd p).restart = p.restart := rfl

@[simp] theorem beginEnd_dc (p : Part) : (beginEnd p).dc = { p.dc with flight := none, ending := true } := rfl

@[simp] theorem driveFreed_on (p : Part) : (driveFreed p).on = p.on := rfl

@[simp] theorem driveFreed_eu (p : Part) : (driveFreed p).eu = p.eu := rfl

@[simp] theorem driveFreed_pu (p : Part) : (driveFreed p).pu = p.pu := rfl

@[simp] theorem driveFreed_tu (p : Part) : (driveFreed p).tu = p.tu := rfl

@[simp] theorem driveFreed_nu (p : Part) : (driveFreed p).nu = p.nu := rfl

@[simp] theorem driveFreed_bc (p : Part) : (driveFreed p).bc = p.bc := rfl

@[simp] theorem driveFreed_ru (p : Part) : (driveFreed p).ru = p.ru := rfl

@[simp] theorem driveFreed_rs (p : Part) : (driveFreed p).rs = p.rs := rfl

@[simp] theorem driveFreed_li (p : Part) : (driveFreed p).li = p.li := rfl

@[simp] theorem driveFreed_tb (p : Part) : (driveFreed p).tb = p.tb := rfl

@[simp] theorem driveFreed_restart (p : Part) : (driveFreed p).restart = p.restart := rfl

@[simp] theorem driveFreed_dc (p : Part) : (driveFreed p).dc = { p.dc with ending := false } := rfl

@[simp] theorem driveFreed_seq (p : Part) (x : Pole) : (driveFreed p).seq x = p.seq x := by
  simp only [driveFreed, judgeQuiescence_seq]
  rfl

@[simp] theorem endFirst_on (f : Flight) (p : Part) : (endFirst f p).on = p.on := by
  simp [endFirst]

@[simp] theorem endFirst_eu (f : Flight) (p : Part) : (endFirst f p).eu = p.eu := by
  simp [endFirst]

@[simp] theorem endFirst_pu (f : Flight) (p : Part) : (endFirst f p).pu = p.pu := by
  simp [endFirst]

@[simp] theorem endFirst_tu (f : Flight) (p : Part) : (endFirst f p).tu = p.tu := by
  simp [endFirst]

@[simp] theorem endFirst_bc (f : Flight) (p : Part) : (endFirst f p).bc = p.bc := by
  simp [endFirst]

@[simp] theorem endFirst_tb (f : Flight) (p : Part) : (endFirst f p).tb = p.tb := by
  simp [endFirst]

@[simp] theorem endFirst_restart (f : Flight) (p : Part) : (endFirst f p).restart = p.restart := by
  simp [endFirst]

@[simp] theorem endLast_on (f : Flight) (r : OpResult) (p : Part) : (endLast f r p).on = p.on := by
  simp [endLast]

@[simp] theorem endLast_eu (f : Flight) (r : OpResult) (p : Part) : (endLast f r p).eu = p.eu := by
  simp [endLast]

@[simp] theorem endLast_sq (f : Flight) (r : OpResult) (p : Part) : (endLast f r p).sq = p.sq := by
  simp [endLast]

@[simp] theorem endLast_pu (f : Flight) (r : OpResult) (p : Part) : (endLast f r p).pu = p.pu := by
  simp [endLast]

@[simp] theorem endLast_tu (f : Flight) (r : OpResult) (p : Part) : (endLast f r p).tu = p.tu := by
  simp [endLast]

@[simp] theorem endLast_bc (f : Flight) (r : OpResult) (p : Part) : (endLast f r p).bc = p.bc := by
  simp [endLast]

@[simp] theorem endLast_rs (f : Flight) (r : OpResult) (p : Part) : (endLast f r p).rs = p.rs := by
  simp [endLast]

@[simp] theorem endLast_tb (f : Flight) (r : OpResult) (p : Part) : (endLast f r p).tb = p.tb := by
  simp [endLast]

@[simp] theorem endLast_restart (f : Flight) (r : OpResult) (p : Part) : (endLast f r p).restart = p.restart := by
  simp [endLast]

@[simp] theorem markSuperseded_on (op : OpRec) (p : Part) : (markSuperseded op p).on = p.on := by
  simp only [markSuperseded]
  repeat' split
  all_goals simp

@[simp] theorem markSuperseded_dc (op : OpRec) (p : Part) : (markSuperseded op p).dc = p.dc := by
  simp only [markSuperseded]
  repeat' split
  all_goals simp

@[simp] theorem markSuperseded_eu (op : OpRec) (p : Part) : (markSuperseded op p).eu = p.eu := by
  simp only [markSuperseded]
  repeat' split
  all_goals simp

@[simp] theorem markSuperseded_pu (op : OpRec) (p : Part) : (markSuperseded op p).pu = p.pu := by
  simp only [markSuperseded]
  repeat' split
  all_goals simp

@[simp] theorem markSuperseded_tu (op : OpRec) (p : Part) : (markSuperseded op p).tu = p.tu := by
  simp only [markSuperseded]
  repeat' split
  all_goals simp

@[simp] theorem markSuperseded_nu (op : OpRec) (p : Part) : (markSuperseded op p).nu = p.nu := by
  simp only [markSuperseded]
  repeat' split
  all_goals simp

@[simp] theorem markSuperseded_bc (op : OpRec) (p : Part) : (markSuperseded op p).bc = p.bc := by
  simp only [markSuperseded]
  repeat' split
  all_goals simp

@[simp] theorem markSuperseded_ru (op : OpRec) (p : Part) : (markSuperseded op p).ru = p.ru := by
  simp only [markSuperseded]
  repeat' split
  all_goals simp

@[simp] theorem markSuperseded_rs (op : OpRec) (p : Part) : (markSuperseded op p).rs = p.rs := by
  simp only [markSuperseded]
  repeat' split
  all_goals simp

@[simp] theorem markSuperseded_li (op : OpRec) (p : Part) : (markSuperseded op p).li = p.li := by
  simp only [markSuperseded]
  repeat' split
  all_goals simp

@[simp] theorem markSuperseded_tb (op : OpRec) (p : Part) : (markSuperseded op p).tb = p.tb := by
  simp only [markSuperseded]
  repeat' split
  all_goals simp

@[simp] theorem markSuperseded_restart (op : OpRec) (p : Part) : (markSuperseded op p).restart = p.restart := by
  simp only [markSuperseded]
  repeat' split
  all_goals simp

@[simp] theorem endSuperseded_on (f : Flight) (p : Part) : (endSuperseded f p).on = p.on := by
  simp [endSuperseded]

@[simp] theorem endSuperseded_eu (f : Flight) (p : Part) : (endSuperseded f p).eu = p.eu := by
  simp [endSuperseded]

@[simp] theorem endSuperseded_pu (f : Flight) (p : Part) : (endSuperseded f p).pu = p.pu := by
  simp [endSuperseded]

@[simp] theorem endSuperseded_tu (f : Flight) (p : Part) : (endSuperseded f p).tu = p.tu := by
  simp [endSuperseded]

@[simp] theorem endSuperseded_bc (f : Flight) (p : Part) : (endSuperseded f p).bc = p.bc := by
  simp [endSuperseded]

@[simp] theorem endSuperseded_tb (f : Flight) (p : Part) : (endSuperseded f p).tb = p.tb := by
  simp [endSuperseded]

@[simp] theorem endSuperseded_restart (f : Flight) (p : Part) : (endSuperseded f p).restart = p.restart := by
  simp [endSuperseded]

/-! ### Trip requests -/

@[simp] theorem joinPending_on (s : PoleSet) (e : ReqEntry) (p : Part) : (joinPending s e p).on = p.on := by
  simp only [joinPending]
  split <;> rfl

@[simp] theorem joinPending_eu (s : PoleSet) (e : ReqEntry) (p : Part) : (joinPending s e p).eu = p.eu := by
  simp only [joinPending]
  split <;> rfl

@[simp] theorem joinPending_sq (s : PoleSet) (e : ReqEntry) (p : Part) : (joinPending s e p).sq = p.sq := by
  simp only [joinPending]
  split <;> rfl

@[simp] theorem joinPending_pu (s : PoleSet) (e : ReqEntry) (p : Part) : (joinPending s e p).pu = p.pu := by
  simp only [joinPending]
  split <;> rfl

@[simp] theorem joinPending_tu (s : PoleSet) (e : ReqEntry) (p : Part) : (joinPending s e p).tu = p.tu := by
  simp only [joinPending]
  split <;> rfl

@[simp] theorem joinPending_nu (s : PoleSet) (e : ReqEntry) (p : Part) : (joinPending s e p).nu = p.nu := by
  simp only [joinPending]
  split <;> rfl

@[simp] theorem joinPending_bc (s : PoleSet) (e : ReqEntry) (p : Part) : (joinPending s e p).bc = p.bc := by
  simp only [joinPending]
  split <;> rfl

@[simp] theorem joinPending_ru (s : PoleSet) (e : ReqEntry) (p : Part) : (joinPending s e p).ru = p.ru := by
  simp only [joinPending]
  split <;> rfl

@[simp] theorem joinPending_rs (s : PoleSet) (e : ReqEntry) (p : Part) : (joinPending s e p).rs = p.rs := by
  simp only [joinPending]
  split <;> rfl

@[simp] theorem joinPending_li (s : PoleSet) (e : ReqEntry) (p : Part) : (joinPending s e p).li = p.li := by
  simp only [joinPending]
  split <;> rfl

@[simp] theorem joinPending_tb (s : PoleSet) (e : ReqEntry) (p : Part) : (joinPending s e p).tb = p.tb := by
  simp only [joinPending]
  split <;> rfl

@[simp] theorem joinPending_restart (s : PoleSet) (e : ReqEntry) (p : Part) :
    (joinPending s e p).restart = p.restart := by
  simp only [joinPending]
  split <;> rfl

@[simp] theorem takeClosing_on (s : PoleSet) (p : Part) : (takeClosing s p).on = p.on := by
  simp only [takeClosing]
  split <;> rfl

@[simp] theorem takeClosing_eu (s : PoleSet) (p : Part) : (takeClosing s p).eu = p.eu := by
  simp only [takeClosing]
  split <;> rfl

@[simp] theorem takeClosing_sq (s : PoleSet) (p : Part) : (takeClosing s p).sq = p.sq := by
  simp only [takeClosing]
  split <;> rfl

@[simp] theorem takeClosing_pu (s : PoleSet) (p : Part) : (takeClosing s p).pu = p.pu := by
  simp only [takeClosing]
  split <;> rfl

@[simp] theorem takeClosing_tu (s : PoleSet) (p : Part) : (takeClosing s p).tu = p.tu := by
  simp only [takeClosing]
  split <;> rfl

@[simp] theorem takeClosing_nu (s : PoleSet) (p : Part) : (takeClosing s p).nu = p.nu := by
  simp only [takeClosing]
  split <;> rfl

@[simp] theorem takeClosing_bc (s : PoleSet) (p : Part) : (takeClosing s p).bc = p.bc := by
  simp only [takeClosing]
  split <;> rfl

@[simp] theorem takeClosing_ru (s : PoleSet) (p : Part) : (takeClosing s p).ru = p.ru := by
  simp only [takeClosing]
  split <;> rfl

@[simp] theorem takeClosing_rs (s : PoleSet) (p : Part) : (takeClosing s p).rs = p.rs := by
  simp only [takeClosing]
  split <;> rfl

@[simp] theorem takeClosing_li (s : PoleSet) (p : Part) : (takeClosing s p).li = p.li := by
  simp only [takeClosing]
  split <;> rfl

@[simp] theorem takeClosing_tb (s : PoleSet) (p : Part) : (takeClosing s p).tb = p.tb := by
  simp only [takeClosing]
  split <;> rfl

@[simp] theorem takeClosing_restart (s : PoleSet) (p : Part) : (takeClosing s p).restart = p.restart := by
  simp only [takeClosing]
  split <;> rfl

@[simp] theorem supersede_on (p : Part) : (supersede p).on = p.on := by
  simp only [supersede]
  repeat' split
  all_goals simp

@[simp] theorem supersede_eu (p : Part) : (supersede p).eu = p.eu := by
  simp only [supersede]
  repeat' split
  all_goals simp

@[simp] theorem supersede_pu (p : Part) : (supersede p).pu = p.pu := by
  simp only [supersede]
  repeat' split
  all_goals simp

@[simp] theorem supersede_tu (p : Part) : (supersede p).tu = p.tu := by
  simp only [supersede]
  repeat' split
  all_goals simp

@[simp] theorem supersede_bc (p : Part) : (supersede p).bc = p.bc := by
  simp only [supersede]
  repeat' split
  all_goals simp

@[simp] theorem supersede_tb (p : Part) : (supersede p).tb = p.tb := by
  simp only [supersede]
  repeat' split
  all_goals simp

@[simp] theorem supersede_restart (p : Part) : (supersede p).restart = p.restart := by
  simp only [supersede]
  repeat' split
  all_goals simp

@[simp] theorem mergeTrip_on (s : PoleSet) (e : ReqEntry) (p : Part) : ((mergeTrip s e p).1).on = p.on := by
  simp only [mergeTrip]
  repeat' split
  all_goals simp

@[simp] theorem mergeTrip_eu (s : PoleSet) (e : ReqEntry) (p : Part) : ((mergeTrip s e p).1).eu = p.eu := by
  simp only [mergeTrip]
  repeat' split
  all_goals simp

@[simp] theorem mergeTrip_pu (s : PoleSet) (e : ReqEntry) (p : Part) : ((mergeTrip s e p).1).pu = p.pu := by
  simp only [mergeTrip]
  repeat' split
  all_goals simp

@[simp] theorem mergeTrip_tu (s : PoleSet) (e : ReqEntry) (p : Part) : ((mergeTrip s e p).1).tu = p.tu := by
  simp only [mergeTrip]
  repeat' split
  all_goals simp

@[simp] theorem mergeTrip_bc (s : PoleSet) (e : ReqEntry) (p : Part) : ((mergeTrip s e p).1).bc = p.bc := by
  simp only [mergeTrip]
  repeat' split
  all_goals simp

@[simp] theorem mergeTrip_tb (s : PoleSet) (e : ReqEntry) (p : Part) : ((mergeTrip s e p).1).tb = p.tb := by
  simp only [mergeTrip]
  repeat' split
  all_goals simp

@[simp] theorem mergeTrip_restart (s : PoleSet) (e : ReqEntry) (p : Part) :
    ((mergeTrip s e p).1).restart = p.restart := by
  simp only [mergeTrip]
  repeat' split
  all_goals simp

@[simp] theorem bringIn_on (s : PoleSet) (b : Bool) (p : Part) : (bringIn s b p).on = p.on := by
  simp [bringIn]

@[simp] theorem bringIn_eu (s : PoleSet) (b : Bool) (p : Part) : (bringIn s b p).eu = p.eu := by
  simp [bringIn]

@[simp] theorem bringIn_pu (s : PoleSet) (b : Bool) (p : Part) : (bringIn s b p).pu = p.pu := by
  simp [bringIn]

@[simp] theorem bringIn_tu (s : PoleSet) (b : Bool) (p : Part) : (bringIn s b p).tu = p.tu := by
  simp [bringIn]

@[simp] theorem bringIn_bc (s : PoleSet) (b : Bool) (p : Part) : (bringIn s b p).bc = p.bc := by
  simp [bringIn]

@[simp] theorem bringIn_ru (s : PoleSet) (b : Bool) (p : Part) : (bringIn s b p).ru = p.ru := by
  simp [bringIn]

@[simp] theorem bringIn_rs (s : PoleSet) (b : Bool) (p : Part) : (bringIn s b p).rs = p.rs := by
  simp [bringIn]

@[simp] theorem bringIn_li (s : PoleSet) (b : Bool) (p : Part) : (bringIn s b p).li = p.li := by
  simp [bringIn]

@[simp] theorem bringIn_tb (s : PoleSet) (b : Bool) (p : Part) : (bringIn s b p).tb = p.tb := by
  simp [bringIn]

@[simp] theorem bringIn_restart (s : PoleSet) (b : Bool) (p : Part) : (bringIn s b p).restart = p.restart := by
  simp [bringIn]

@[simp] theorem sqProtect_on (s : PoleSet) (m b : Bool) (p : Part) : ((sqProtect s m b p).1).on = p.on := by
  simp only [sqProtect]
  repeat' split
  all_goals simp

@[simp] theorem sqProtect_eu (s : PoleSet) (m b : Bool) (p : Part) : ((sqProtect s m b p).1).eu = p.eu := by
  simp only [sqProtect]
  repeat' split
  all_goals simp

@[simp] theorem sqProtect_pu (s : PoleSet) (m b : Bool) (p : Part) : ((sqProtect s m b p).1).pu = p.pu := by
  simp only [sqProtect]
  repeat' split
  all_goals simp

@[simp] theorem sqProtect_tu (s : PoleSet) (m b : Bool) (p : Part) : ((sqProtect s m b p).1).tu = p.tu := by
  simp only [sqProtect]
  repeat' split
  all_goals simp

@[simp] theorem sqProtect_bc (s : PoleSet) (m b : Bool) (p : Part) : ((sqProtect s m b p).1).bc = p.bc := by
  simp only [sqProtect]
  repeat' split
  all_goals simp

@[simp] theorem sqProtect_ru (s : PoleSet) (m b : Bool) (p : Part) : ((sqProtect s m b p).1).ru = p.ru := by
  simp only [sqProtect]
  repeat' split
  all_goals simp

@[simp] theorem sqProtect_rs (s : PoleSet) (m b : Bool) (p : Part) : ((sqProtect s m b p).1).rs = p.rs := by
  simp only [sqProtect]
  repeat' split
  all_goals simp

@[simp] theorem sqProtect_li (s : PoleSet) (m b : Bool) (p : Part) : ((sqProtect s m b p).1).li = p.li := by
  simp only [sqProtect]
  repeat' split
  all_goals simp

@[simp] theorem sqProtect_tb (s : PoleSet) (m b : Bool) (p : Part) : ((sqProtect s m b p).1).tb = p.tb := by
  simp only [sqProtect]
  repeat' split
  all_goals simp

@[simp] theorem sqProtect_restart (s : PoleSet) (m b : Bool) (p : Part) :
    ((sqProtect s m b p).1).restart = p.restart := by
  simp only [sqProtect]
  repeat' split
  all_goals simp

@[simp] theorem restartDead_on (s : PoleSet) (p : Part) : (restartDead s p).on = p.on := by
  simp [restartDead]

@[simp] theorem restartDead_eu (s : PoleSet) (p : Part) : (restartDead s p).eu = p.eu := by
  simp [restartDead]

@[simp] theorem restartDead_pu (s : PoleSet) (p : Part) : (restartDead s p).pu = p.pu := by
  simp [restartDead]

@[simp] theorem restartDead_tu (s : PoleSet) (p : Part) : (restartDead s p).tu = p.tu := by
  simp [restartDead]

@[simp] theorem restartDead_bc (s : PoleSet) (p : Part) : (restartDead s p).bc = p.bc := by
  simp [restartDead]

@[simp] theorem restartDead_ru (s : PoleSet) (p : Part) : (restartDead s p).ru = p.ru := by
  simp [restartDead]

@[simp] theorem restartDead_rs (s : PoleSet) (p : Part) : (restartDead s p).rs = p.rs := by
  simp [restartDead]

@[simp] theorem restartDead_li (s : PoleSet) (p : Part) : (restartDead s p).li = p.li := by
  simp [restartDead]

@[simp] theorem restartDead_tb (s : PoleSet) (p : Part) : (restartDead s p).tb = p.tb := by
  simp [restartDead]

@[simp] theorem restartDead_restart (s : PoleSet) (p : Part) : (restartDead s p).restart = p.restart := by
  simp [restartDead]

@[simp] theorem sqCommandReport_on (s : PoleSet) (c : OpCause) (n : EndNote) (p : Part) :
    (sqCommandReport s c n p).on = p.on := by
  simp [sqCommandReport]

@[simp] theorem sqCommandReport_eu (s : PoleSet) (c : OpCause) (n : EndNote) (p : Part) :
    (sqCommandReport s c n p).eu = p.eu := by
  simp [sqCommandReport]

@[simp] theorem sqCommandReport_pu (s : PoleSet) (c : OpCause) (n : EndNote) (p : Part) :
    (sqCommandReport s c n p).pu = p.pu := by
  simp [sqCommandReport]

@[simp] theorem sqCommandReport_tu (s : PoleSet) (c : OpCause) (n : EndNote) (p : Part) :
    (sqCommandReport s c n p).tu = p.tu := by
  simp [sqCommandReport]

@[simp] theorem sqCommandReport_bc (s : PoleSet) (c : OpCause) (n : EndNote) (p : Part) :
    (sqCommandReport s c n p).bc = p.bc := by
  simp [sqCommandReport]

@[simp] theorem sqCommandReport_ru (s : PoleSet) (c : OpCause) (n : EndNote) (p : Part) :
    (sqCommandReport s c n p).ru = p.ru := by
  simp [sqCommandReport]

@[simp] theorem sqCommandReport_rs (s : PoleSet) (c : OpCause) (n : EndNote) (p : Part) :
    (sqCommandReport s c n p).rs = p.rs := by
  simp [sqCommandReport]

@[simp] theorem sqCommandReport_li (s : PoleSet) (c : OpCause) (n : EndNote) (p : Part) :
    (sqCommandReport s c n p).li = p.li := by
  simp [sqCommandReport]

@[simp] theorem sqCommandReport_tb (s : PoleSet) (c : OpCause) (n : EndNote) (p : Part) :
    (sqCommandReport s c n p).tb = p.tb := by
  simp [sqCommandReport]

@[simp] theorem sqCommandReport_restart (s : PoleSet) (c : OpCause) (n : EndNote) (p : Part) :
    (sqCommandReport s c n p).restart = p.restart := by
  simp [sqCommandReport]

@[simp] theorem sqTripReport_on (s : PoleSet) (c : OpCause) (w : Requester) (p : Part) :
    ((sqTripReport s c w p).1).on = p.on := by
  simp only [sqTripReport]
  repeat' split
  all_goals simp

@[simp] theorem sqTripReport_eu (s : PoleSet) (c : OpCause) (w : Requester) (p : Part) :
    ((sqTripReport s c w p).1).eu = p.eu := by
  simp only [sqTripReport]
  repeat' split
  all_goals simp

@[simp] theorem sqTripReport_pu (s : PoleSet) (c : OpCause) (w : Requester) (p : Part) :
    ((sqTripReport s c w p).1).pu = p.pu := by
  simp only [sqTripReport]
  repeat' split
  all_goals simp

@[simp] theorem sqTripReport_tu (s : PoleSet) (c : OpCause) (w : Requester) (p : Part) :
    ((sqTripReport s c w p).1).tu = p.tu := by
  simp only [sqTripReport]
  repeat' split
  all_goals simp

@[simp] theorem sqTripReport_bc (s : PoleSet) (c : OpCause) (w : Requester) (p : Part) :
    ((sqTripReport s c w p).1).bc = p.bc := by
  simp only [sqTripReport]
  repeat' split
  all_goals simp

@[simp] theorem sqTripReport_ru (s : PoleSet) (c : OpCause) (w : Requester) (p : Part) :
    ((sqTripReport s c w p).1).ru = p.ru := by
  simp only [sqTripReport]
  repeat' split
  all_goals simp

@[simp] theorem sqTripReport_rs (s : PoleSet) (c : OpCause) (w : Requester) (p : Part) :
    ((sqTripReport s c w p).1).rs = p.rs := by
  simp only [sqTripReport]
  repeat' split
  all_goals simp

@[simp] theorem sqTripReport_li (s : PoleSet) (c : OpCause) (w : Requester) (p : Part) :
    ((sqTripReport s c w p).1).li = p.li := by
  simp only [sqTripReport]
  repeat' split
  all_goals simp

@[simp] theorem sqTripReport_tb (s : PoleSet) (c : OpCause) (w : Requester) (p : Part) :
    ((sqTripReport s c w p).1).tb = p.tb := by
  simp only [sqTripReport]
  repeat' split
  all_goals simp

@[simp] theorem sqTripReport_restart (s : PoleSet) (c : OpCause) (w : Requester) (p : Part) :
    ((sqTripReport s c w p).1).restart = p.restart := by
  simp only [sqTripReport]
  repeat' split
  all_goals simp

@[simp] theorem clearEntries_on (s : PoleSet) (p : Part) : (clearEntries s p).on = p.on := by
  simp [clearEntries]

@[simp] theorem clearEntries_eu (s : PoleSet) (p : Part) : (clearEntries s p).eu = p.eu := by
  simp [clearEntries]

@[simp] theorem clearEntries_pu (s : PoleSet) (p : Part) : (clearEntries s p).pu = p.pu := by
  simp [clearEntries]

@[simp] theorem clearEntries_tu (s : PoleSet) (p : Part) : (clearEntries s p).tu = p.tu := by
  simp [clearEntries]

@[simp] theorem clearEntries_bc (s : PoleSet) (p : Part) : (clearEntries s p).bc = p.bc := by
  simp [clearEntries]

@[simp] theorem clearEntries_ru (s : PoleSet) (p : Part) : (clearEntries s p).ru = p.ru := by
  simp [clearEntries]

@[simp] theorem clearEntries_rs (s : PoleSet) (p : Part) : (clearEntries s p).rs = p.rs := by
  simp [clearEntries]

@[simp] theorem clearEntries_tb (s : PoleSet) (p : Part) : (clearEntries s p).tb = p.tb := by
  simp [clearEntries]

@[simp] theorem clearEntries_restart (s : PoleSet) (p : Part) : (clearEntries s p).restart = p.restart := by
  simp [clearEntries]

@[simp] theorem addTrip_on (s : PoleSet) (p : Part) : (addTrip s p).on = p.on := by
  simp only [addTrip]
  split <;> simp

@[simp] theorem addTrip_eu (s : PoleSet) (p : Part) : (addTrip s p).eu = p.eu := by
  simp only [addTrip]
  split <;> simp

@[simp] theorem addTrip_pu (s : PoleSet) (p : Part) : (addTrip s p).pu = p.pu := by
  simp only [addTrip]
  split <;> simp

@[simp] theorem addTrip_tu (s : PoleSet) (p : Part) : (addTrip s p).tu = p.tu := by
  simp only [addTrip]
  split <;> simp

@[simp] theorem addTrip_bc (s : PoleSet) (p : Part) : (addTrip s p).bc = p.bc := by
  simp only [addTrip]
  split <;> simp

@[simp] theorem addTrip_tb (s : PoleSet) (p : Part) : (addTrip s p).tb = p.tb := by
  simp only [addTrip]
  split <;> simp

@[simp] theorem addTrip_restart (s : PoleSet) (p : Part) : (addTrip s p).restart = p.restart := by
  simp only [addTrip]
  split <;> simp

@[simp] theorem takeTrip_on (s : PoleSet) (c : OpCause) (w : Requester) (t : Option Byte) (p : Part) :
    ((takeTrip s c w t p).1).on = p.on := by
  simp only [takeTrip]
  repeat' split
  all_goals simp

@[simp] theorem takeTrip_eu (s : PoleSet) (c : OpCause) (w : Requester) (t : Option Byte) (p : Part) :
    ((takeTrip s c w t p).1).eu = p.eu := by
  simp only [takeTrip]
  repeat' split
  all_goals simp

@[simp] theorem takeTrip_pu (s : PoleSet) (c : OpCause) (w : Requester) (t : Option Byte) (p : Part) :
    ((takeTrip s c w t p).1).pu = p.pu := by
  simp only [takeTrip]
  repeat' split
  all_goals simp

@[simp] theorem takeTrip_tu (s : PoleSet) (c : OpCause) (w : Requester) (t : Option Byte) (p : Part) :
    ((takeTrip s c w t p).1).tu = p.tu := by
  simp only [takeTrip]
  repeat' split
  all_goals simp

@[simp] theorem takeTrip_bc (s : PoleSet) (c : OpCause) (w : Requester) (t : Option Byte) (p : Part) :
    ((takeTrip s c w t p).1).bc = p.bc := by
  simp only [takeTrip]
  repeat' split
  all_goals simp

@[simp] theorem takeTrip_tb (s : PoleSet) (c : OpCause) (w : Requester) (t : Option Byte) (p : Part) :
    ((takeTrip s c w t p).1).tb = p.tb := by
  simp only [takeTrip]
  repeat' split
  all_goals simp

@[simp] theorem takeTrip_restart (s : PoleSet) (c : OpCause) (w : Requester) (t : Option Byte) (p : Part) :
    ((takeTrip s c w t p).1).restart = p.restart := by
  simp only [takeTrip]
  repeat' split
  all_goals simp

@[simp] theorem noteAndTrip_on (s : PoleSet) (n : EndNote) (c : OpCause) (p : Part) :
    (noteAndTrip s n c p).on = p.on := by
  simp only [noteAndTrip, seqTrip]
  split <;> simp

@[simp] theorem noteAndTrip_eu (s : PoleSet) (n : EndNote) (c : OpCause) (p : Part) :
    (noteAndTrip s n c p).eu = p.eu := by
  simp only [noteAndTrip, seqTrip]
  split <;> simp

@[simp] theorem noteAndTrip_pu (s : PoleSet) (n : EndNote) (c : OpCause) (p : Part) :
    (noteAndTrip s n c p).pu = p.pu := by
  simp only [noteAndTrip, seqTrip]
  split <;> simp

@[simp] theorem noteAndTrip_tu (s : PoleSet) (n : EndNote) (c : OpCause) (p : Part) :
    (noteAndTrip s n c p).tu = p.tu := by
  simp only [noteAndTrip, seqTrip]
  split <;> simp

@[simp] theorem noteAndTrip_bc (s : PoleSet) (n : EndNote) (c : OpCause) (p : Part) :
    (noteAndTrip s n c p).bc = p.bc := by
  simp only [noteAndTrip, seqTrip]
  split <;> simp

@[simp] theorem noteAndTrip_tb (s : PoleSet) (n : EndNote) (c : OpCause) (p : Part) :
    (noteAndTrip s n c p).tb = p.tb := by
  simp only [noteAndTrip, seqTrip]
  split <;> simp

@[simp] theorem noteAndTrip_restart (s : PoleSet) (n : EndNote) (c : OpCause) (p : Part) :
    (noteAndTrip s n c p).restart = p.restart := by
  simp only [noteAndTrip, seqTrip]
  split <;> simp

@[simp] theorem blindCheck_on (p : Part) : (blindCheck p).on = p.on := by
  simp only [blindCheck]
  split <;> simp

@[simp] theorem blindCheck_eu (p : Part) : (blindCheck p).eu = p.eu := by
  simp only [blindCheck]
  split <;> simp

@[simp] theorem blindCheck_pu (p : Part) : (blindCheck p).pu = p.pu := by
  simp only [blindCheck]
  split <;> simp

@[simp] theorem blindCheck_tu (p : Part) : (blindCheck p).tu = p.tu := by
  simp only [blindCheck]
  split <;> simp

@[simp] theorem blindCheck_bc (p : Part) : (blindCheck p).bc = p.bc := by
  simp only [blindCheck]
  split <;> simp

@[simp] theorem blindCheck_tb (p : Part) : (blindCheck p).tb = p.tb := by
  simp only [blindCheck]
  split <;> simp

@[simp] theorem blindCheck_restart (p : Part) : (blindCheck p).restart = p.restart := by
  simp only [blindCheck]
  split <;> simp

@[simp] theorem protectiveAsk_on (s : PoleSet) (m : Bool) (p : Part) : (protectiveAsk s m p).on = p.on := by
  simp only [protectiveAsk, seqTrip]
  split <;> simp

@[simp] theorem protectiveAsk_eu (s : PoleSet) (m : Bool) (p : Part) : (protectiveAsk s m p).eu = p.eu := by
  simp only [protectiveAsk, seqTrip]
  split <;> simp

@[simp] theorem protectiveAsk_pu (s : PoleSet) (m : Bool) (p : Part) : (protectiveAsk s m p).pu = p.pu := by
  simp only [protectiveAsk, seqTrip]
  split <;> simp

@[simp] theorem protectiveAsk_tu (s : PoleSet) (m : Bool) (p : Part) : (protectiveAsk s m p).tu = p.tu := by
  simp only [protectiveAsk, seqTrip]
  split <;> simp

@[simp] theorem protectiveAsk_bc (s : PoleSet) (m : Bool) (p : Part) : (protectiveAsk s m p).bc = p.bc := by
  simp only [protectiveAsk, seqTrip]
  split <;> simp

@[simp] theorem protectiveAsk_tb (s : PoleSet) (m : Bool) (p : Part) : (protectiveAsk s m p).tb = p.tb := by
  simp only [protectiveAsk, seqTrip]
  split <;> simp

@[simp] theorem protectiveAsk_restart (s : PoleSet) (m : Bool) (p : Part) :
    (protectiveAsk s m p).restart = p.restart := by
  simp only [protectiveAsk, seqTrip]
  split <;> simp

@[simp] theorem lockWithGang_on (l : LockSet) (b : Bool) (p : Part) : (lockWithGang l b p).on = p.on := by
  simp only [lockWithGang]
  split <;> simp

@[simp] theorem lockWithGang_eu (l : LockSet) (b : Bool) (p : Part) : (lockWithGang l b p).eu = p.eu := by
  simp only [lockWithGang]
  split <;> simp

@[simp] theorem lockWithGang_pu (l : LockSet) (b : Bool) (p : Part) : (lockWithGang l b p).pu = p.pu := by
  simp only [lockWithGang]
  split <;> simp

@[simp] theorem lockWithGang_tu (l : LockSet) (b : Bool) (p : Part) : (lockWithGang l b p).tu = p.tu := by
  simp only [lockWithGang]
  split <;> simp

@[simp] theorem lockWithGang_bc (l : LockSet) (b : Bool) (p : Part) : (lockWithGang l b p).bc = p.bc := by
  simp only [lockWithGang]
  split <;> simp

@[simp] theorem lockWithGang_tb (l : LockSet) (b : Bool) (p : Part) : (lockWithGang l b p).tb = p.tb := by
  simp only [lockWithGang]
  split <;> simp

@[simp] theorem lockWithGang_restart (l : LockSet) (b : Bool) (p : Part) :
    (lockWithGang l b p).restart = p.restart := by
  simp only [lockWithGang]
  split <;> simp

@[simp] theorem countShots_on (f : Flight) (p : Part) : (countShots f p).on = p.on := by
  simp [countShots]

@[simp] theorem countShots_dc (f : Flight) (p : Part) : (countShots f p).dc = p.dc := by
  simp [countShots]

@[simp] theorem countShots_eu (f : Flight) (p : Part) : (countShots f p).eu = p.eu := by
  simp [countShots]

@[simp] theorem countShots_pu (f : Flight) (p : Part) : (countShots f p).pu = p.pu := by
  simp [countShots]

@[simp] theorem countShots_tu (f : Flight) (p : Part) : (countShots f p).tu = p.tu := by
  simp [countShots]

@[simp] theorem countShots_nu (f : Flight) (p : Part) : (countShots f p).nu = p.nu := by
  simp [countShots]

@[simp] theorem countShots_bc (f : Flight) (p : Part) : (countShots f p).bc = p.bc := by
  simp [countShots]

@[simp] theorem countShots_ru (f : Flight) (p : Part) : (countShots f p).ru = p.ru := by
  simp [countShots]

@[simp] theorem countShots_rs (f : Flight) (p : Part) : (countShots f p).rs = p.rs := by
  simp [countShots]

@[simp] theorem countShots_li (f : Flight) (p : Part) : (countShots f p).li = p.li := by
  simp [countShots]

@[simp] theorem countShots_tb (f : Flight) (p : Part) : (countShots f p).tb = p.tb := by
  simp [countShots]

@[simp] theorem countShots_restart (f : Flight) (p : Part) : (countShots f p).restart = p.restart := by
  simp [countShots]

@[simp] theorem restartLeft_on (s : PoleSet) (p : Part) : (restartLeft s p).on = p.on := by
  simp [restartLeft]

@[simp] theorem restartLeft_dc (s : PoleSet) (p : Part) : (restartLeft s p).dc = p.dc := by
  simp [restartLeft]

@[simp] theorem restartLeft_eu (s : PoleSet) (p : Part) : (restartLeft s p).eu = p.eu := by
  simp [restartLeft]

@[simp] theorem restartLeft_pu (s : PoleSet) (p : Part) : (restartLeft s p).pu = p.pu := by
  simp [restartLeft]

@[simp] theorem restartLeft_tu (s : PoleSet) (p : Part) : (restartLeft s p).tu = p.tu := by
  simp [restartLeft]

@[simp] theorem restartLeft_nu (s : PoleSet) (p : Part) : (restartLeft s p).nu = p.nu := by
  simp [restartLeft]

@[simp] theorem restartLeft_bc (s : PoleSet) (p : Part) : (restartLeft s p).bc = p.bc := by
  simp [restartLeft]

@[simp] theorem restartLeft_ru (s : PoleSet) (p : Part) : (restartLeft s p).ru = p.ru := by
  simp [restartLeft]

@[simp] theorem restartLeft_rs (s : PoleSet) (p : Part) : (restartLeft s p).rs = p.rs := by
  simp [restartLeft]

@[simp] theorem restartLeft_li (s : PoleSet) (p : Part) : (restartLeft s p).li = p.li := by
  simp [restartLeft]

@[simp] theorem restartLeft_tb (s : PoleSet) (p : Part) : (restartLeft s p).tb = p.tb := by
  simp [restartLeft]

@[simp] theorem restartLeft_restart (s : PoleSet) (p : Part) : (restartLeft s p).restart = p.restart := by
  simp [restartLeft]

@[simp] theorem sqTripEnd_on (f : Flight) (p : Part) : (sqTripEnd f p).on = p.on := by
  simp [sqTripEnd]

@[simp] theorem sqTripEnd_eu (f : Flight) (p : Part) : (sqTripEnd f p).eu = p.eu := by
  simp [sqTripEnd]

@[simp] theorem sqTripEnd_pu (f : Flight) (p : Part) : (sqTripEnd f p).pu = p.pu := by
  simp [sqTripEnd]

@[simp] theorem sqTripEnd_tu (f : Flight) (p : Part) : (sqTripEnd f p).tu = p.tu := by
  simp [sqTripEnd]

@[simp] theorem sqTripEnd_bc (f : Flight) (p : Part) : (sqTripEnd f p).bc = p.bc := by
  simp [sqTripEnd]

@[simp] theorem sqTripEnd_tb (f : Flight) (p : Part) : (sqTripEnd f p).tb = p.tb := by
  simp [sqTripEnd]

@[simp] theorem sqTripEnd_restart (f : Flight) (p : Part) : (sqTripEnd f p).restart = p.restart := by
  simp [sqTripEnd]

@[simp] theorem sqRecloseEnd_on (f : Flight) (r : OpResult) (p : Part) : (sqRecloseEnd f r p).on = p.on := by
  simp only [sqRecloseEnd]
  split <;> simp

@[simp] theorem sqRecloseEnd_eu (f : Flight) (r : OpResult) (p : Part) : (sqRecloseEnd f r p).eu = p.eu := by
  simp only [sqRecloseEnd]
  split <;> simp

@[simp] theorem sqRecloseEnd_tu (f : Flight) (r : OpResult) (p : Part) : (sqRecloseEnd f r p).tu = p.tu := by
  simp only [sqRecloseEnd]
  split <;> simp

@[simp] theorem sqRecloseEnd_bc (f : Flight) (r : OpResult) (p : Part) : (sqRecloseEnd f r p).bc = p.bc := by
  simp only [sqRecloseEnd]
  split <;> simp

@[simp] theorem sqRecloseEnd_tb (f : Flight) (r : OpResult) (p : Part) : (sqRecloseEnd f r p).tb = p.tb := by
  simp only [sqRecloseEnd]
  split <;> simp

@[simp] theorem sqRecloseEnd_restart (f : Flight) (r : OpResult) (p : Part) :
    (sqRecloseEnd f r p).restart = p.restart := by
  simp only [sqRecloseEnd]
  split <;> simp

@[simp] theorem sqManualEnd_on (f : Flight) (r : OpResult) (p : Part) : (sqManualEnd f r p).on = p.on := by
  simp only [sqManualEnd]
  repeat' split
  all_goals simp

@[simp] theorem sqManualEnd_eu (f : Flight) (r : OpResult) (p : Part) : (sqManualEnd f r p).eu = p.eu := by
  simp only [sqManualEnd]
  repeat' split
  all_goals simp

@[simp] theorem sqManualEnd_tu (f : Flight) (r : OpResult) (p : Part) : (sqManualEnd f r p).tu = p.tu := by
  simp only [sqManualEnd]
  repeat' split
  all_goals simp

@[simp] theorem sqManualEnd_bc (f : Flight) (r : OpResult) (p : Part) : (sqManualEnd f r p).bc = p.bc := by
  simp only [sqManualEnd]
  repeat' split
  all_goals simp

@[simp] theorem sqManualEnd_tb (f : Flight) (r : OpResult) (p : Part) : (sqManualEnd f r p).tb = p.tb := by
  simp only [sqManualEnd]
  repeat' split
  all_goals simp

@[simp] theorem sqManualEnd_restart (f : Flight) (r : OpResult) (p : Part) :
    (sqManualEnd f r p).restart = p.restart := by
  simp only [sqManualEnd]
  repeat' split
  all_goals simp

@[simp] theorem sqOperationEnd_on (f : Flight) (r : OpResult) (p : Part) : (sqOperationEnd f r p).on = p.on := by
  simp only [sqOperationEnd]
  split <;> simp

@[simp] theorem sqOperationEnd_eu (f : Flight) (r : OpResult) (p : Part) : (sqOperationEnd f r p).eu = p.eu := by
  simp only [sqOperationEnd]
  split <;> simp

@[simp] theorem sqOperationEnd_tu (f : Flight) (r : OpResult) (p : Part) : (sqOperationEnd f r p).tu = p.tu := by
  simp only [sqOperationEnd]
  split <;> simp

@[simp] theorem sqOperationEnd_bc (f : Flight) (r : OpResult) (p : Part) : (sqOperationEnd f r p).bc = p.bc := by
  simp only [sqOperationEnd]
  split <;> simp

@[simp] theorem sqOperationEnd_tb (f : Flight) (r : OpResult) (p : Part) : (sqOperationEnd f r p).tb = p.tb := by
  simp only [sqOperationEnd]
  split <;> simp

@[simp] theorem sqOperationEnd_restart (f : Flight) (r : OpResult) (p : Part) :
    (sqOperationEnd f r p).restart = p.restart := by
  simp only [sqOperationEnd]
  split <;> simp

@[simp] theorem clearHandle_on (f : Flight) (r : OpResult) (p : Part) : (clearHandle f r p).on = p.on := by
  simp only [clearHandle]
  split <;> simp

@[simp] theorem clearHandle_eu (f : Flight) (r : OpResult) (p : Part) : (clearHandle f r p).eu = p.eu := by
  simp only [clearHandle]
  split <;> simp

@[simp] theorem clearHandle_sq (f : Flight) (r : OpResult) (p : Part) : (clearHandle f r p).sq = p.sq := by
  simp only [clearHandle]
  split <;> simp

@[simp] theorem clearHandle_pu (f : Flight) (r : OpResult) (p : Part) : (clearHandle f r p).pu = p.pu := by
  simp only [clearHandle]
  split <;> simp

@[simp] theorem clearHandle_tu (f : Flight) (r : OpResult) (p : Part) : (clearHandle f r p).tu = p.tu := by
  simp only [clearHandle]
  split <;> simp

@[simp] theorem clearHandle_nu (f : Flight) (r : OpResult) (p : Part) : (clearHandle f r p).nu = p.nu := by
  simp only [clearHandle]
  split <;> simp

@[simp] theorem clearHandle_bc (f : Flight) (r : OpResult) (p : Part) : (clearHandle f r p).bc = p.bc := by
  simp only [clearHandle]
  split <;> simp

@[simp] theorem clearHandle_ru (f : Flight) (r : OpResult) (p : Part) : (clearHandle f r p).ru = p.ru := by
  simp only [clearHandle]
  split <;> simp

@[simp] theorem clearHandle_rs (f : Flight) (r : OpResult) (p : Part) : (clearHandle f r p).rs = p.rs := by
  simp only [clearHandle]
  split <;> simp

@[simp] theorem clearHandle_li (f : Flight) (r : OpResult) (p : Part) : (clearHandle f r p).li = p.li := by
  simp only [clearHandle]
  split <;> simp

@[simp] theorem clearHandle_tb (f : Flight) (r : OpResult) (p : Part) : (clearHandle f r p).tb = p.tb := by
  simp only [clearHandle]
  split <;> simp

@[simp] theorem clearHandle_restart (f : Flight) (r : OpResult) (p : Part) :
    (clearHandle f r p).restart = p.restart := by
  simp only [clearHandle]
  split <;> simp

@[simp] theorem finish_on (f : Flight) (r : OpResult) (p : Part) : (finish f r p).on = p.on := by
  simp [finish]

@[simp] theorem finish_eu (f : Flight) (r : OpResult) (p : Part) : (finish f r p).eu = p.eu := by
  simp [finish]

@[simp] theorem finish_tu (f : Flight) (r : OpResult) (p : Part) : (finish f r p).tu = p.tu := by
  simp [finish]

@[simp] theorem finish_bc (f : Flight) (r : OpResult) (p : Part) : (finish f r p).bc = p.bc := by
  simp [finish]

@[simp] theorem finish_tb (f : Flight) (r : OpResult) (p : Part) : (finish f r p).tb = p.tb := by
  simp [finish]

@[simp] theorem finish_restart (f : Flight) (r : OpResult) (p : Part) : (finish f r p).restart = p.restart := by
  simp [finish]

@[simp] theorem finishUnmoved_on (f : Flight) (p : Part) : (finishUnmoved f p).on = p.on := by
  simp [finishUnmoved]

@[simp] theorem finishUnmoved_eu (f : Flight) (p : Part) : (finishUnmoved f p).eu = p.eu := by
  simp [finishUnmoved]

@[simp] theorem finishUnmoved_tu (f : Flight) (p : Part) : (finishUnmoved f p).tu = p.tu := by
  simp [finishUnmoved]

@[simp] theorem finishUnmoved_bc (f : Flight) (p : Part) : (finishUnmoved f p).bc = p.bc := by
  simp [finishUnmoved]

@[simp] theorem finishUnmoved_tb (f : Flight) (p : Part) : (finishUnmoved f p).tb = p.tb := by
  simp [finishUnmoved]

@[simp] theorem finishUnmoved_restart (f : Flight) (p : Part) : (finishUnmoved f p).restart = p.restart := by
  simp [finishUnmoved]

/-! ### The fire of a close (R11) -/

/-- Every pole of a close has moved with the fire exactly where all of them show CLOSED (R11). -/
theorem closeFlight_all_moved (op : OpRec) (p : Part) :
    (closeFlight op p).fire.subset (closeFlight op p).moved = true ↔
      ∀ x, op.poles.has x = true → p.position x = .CLOSED := by
  simp only [closeFlight, PoleSet.subset]
  constructor
  · intro h x hx
    have hd : (op.poles.diff (op.poles.inter p.showsClosed)).has x = false := by
      cases x <;> simp_all [PoleSet.isEmpty, PoleSet.has]
    simpa [hx, Part.showsClosed] using hd
  · intro h
    have hd : ∀ x, (op.poles.diff (op.poles.inter p.showsClosed)).has x = false := by
      intro x
      cases hx : op.poles.has x
      · simp [hx]
      · simp [hx, Part.showsClosed, h x hx]
    have ha := hd .A
    have hb := hd .B
    have hc := hd .C
    simp_all [PoleSet.isEmpty, PoleSet.has]

/-- A close with a pole that does not show CLOSED at the fire is in flight after it (R11). -/
theorem fireClose_in_flight (op : OpRec) (p : Part) (x : Pole) (hx : op.poles.has x = true) (hp : p.position x ≠ .CLOSED) :
    (fireClose op p).dc.flight = some (closeFlight op p) := by
  have h : ¬ (closeFlight op p).fire.subset (closeFlight op p).moved = true := fun h =>
    hp ((closeFlight_all_moved op p).1 h x hx)
  simp [fireClose, h]

/-! ### The judgements at the end of an event -/

@[simp] theorem setEntry_on (e : SeqEntry) (x : Pole) (p : Part) : (setEntry e x p).on = p.on := by
  exact (rfl)

@[simp] theorem setEntry_eu (e : SeqEntry) (x : Pole) (p : Part) : (setEntry e x p).eu = p.eu := by
  exact (rfl)

@[simp] theorem setEntry_sq (e : SeqEntry) (x : Pole) (p : Part) : (setEntry e x p).sq = p.sq := by
  exact (rfl)

@[simp] theorem setEntry_pu (e : SeqEntry) (x : Pole) (p : Part) : (setEntry e x p).pu = p.pu := by
  exact (rfl)

@[simp] theorem setEntry_tu (e : SeqEntry) (x : Pole) (p : Part) : (setEntry e x p).tu = p.tu := by
  exact (rfl)

@[simp] theorem setEntry_nu (e : SeqEntry) (x : Pole) (p : Part) : (setEntry e x p).nu = p.nu := by
  exact (rfl)

@[simp] theorem setEntry_bc (e : SeqEntry) (x : Pole) (p : Part) : (setEntry e x p).bc = p.bc := by
  exact (rfl)

@[simp] theorem setEntry_ru (e : SeqEntry) (x : Pole) (p : Part) : (setEntry e x p).ru = p.ru := by
  exact (rfl)

@[simp] theorem setEntry_rs (e : SeqEntry) (x : Pole) (p : Part) : (setEntry e x p).rs = p.rs := by
  exact (rfl)

@[simp] theorem setEntry_li (e : SeqEntry) (x : Pole) (p : Part) : (setEntry e x p).li = p.li := by
  exact (rfl)

@[simp] theorem setEntry_tb (e : SeqEntry) (x : Pole) (p : Part) : (setEntry e x p).tb = p.tb := by
  exact (rfl)

@[simp] theorem setEntry_restart (e : SeqEntry) (x : Pole) (p : Part) : (setEntry e x p).restart = p.restart := by
  exact (rfl)

@[simp] theorem pendingEntry_on (x : Pole) (p : Part) : (pendingEntry x p).on = p.on := by
  simp [pendingEntry]

@[simp] theorem pendingEntry_eu (x : Pole) (p : Part) : (pendingEntry x p).eu = p.eu := by
  simp [pendingEntry]

@[simp] theorem pendingEntry_sq (x : Pole) (p : Part) : (pendingEntry x p).sq = p.sq := by
  simp [pendingEntry]

@[simp] theorem pendingEntry_pu (x : Pole) (p : Part) : (pendingEntry x p).pu = p.pu := by
  simp [pendingEntry]

@[simp] theorem pendingEntry_tu (x : Pole) (p : Part) : (pendingEntry x p).tu = p.tu := by
  simp [pendingEntry]

@[simp] theorem pendingEntry_bc (x : Pole) (p : Part) : (pendingEntry x p).bc = p.bc := by
  simp [pendingEntry]

@[simp] theorem pendingEntry_ru (x : Pole) (p : Part) : (pendingEntry x p).ru = p.ru := by
  simp [pendingEntry]

@[simp] theorem pendingEntry_rs (x : Pole) (p : Part) : (pendingEntry x p).rs = p.rs := by
  simp [pendingEntry]

@[simp] theorem pendingEntry_li (x : Pole) (p : Part) : (pendingEntry x p).li = p.li := by
  simp [pendingEntry]

@[simp] theorem pendingEntry_tb (x : Pole) (p : Part) : (pendingEntry x p).tb = p.tb := by
  simp [pendingEntry]

@[simp] theorem pendingEntry_restart (x : Pole) (p : Part) : (pendingEntry x p).restart = p.restart := by
  simp [pendingEntry]

@[simp] theorem grantUnits_on (us : List PoleSet) (p : Part) : (grantUnits us p).on = p.on := by
  induction us generalizing p with
  | nil => rfl
  | cons u us ih =>
    unfold grantUnits
    split
    · rw [ih]; simp
    · rfl

@[simp] theorem grantUnits_eu (us : List PoleSet) (p : Part) : (grantUnits us p).eu = p.eu := by
  induction us generalizing p with
  | nil => rfl
  | cons u us ih =>
    unfold grantUnits
    split
    · rw [ih]; simp
    · rfl

@[simp] theorem grantUnits_sq (us : List PoleSet) (p : Part) : (grantUnits us p).sq = p.sq := by
  induction us generalizing p with
  | nil => rfl
  | cons u us ih =>
    unfold grantUnits
    split
    · rw [ih]; simp
    · rfl

@[simp] theorem grantUnits_pu (us : List PoleSet) (p : Part) : (grantUnits us p).pu = p.pu := by
  induction us generalizing p with
  | nil => rfl
  | cons u us ih =>
    unfold grantUnits
    split
    · rw [ih]; simp
    · rfl

@[simp] theorem grantUnits_tu (us : List PoleSet) (p : Part) : (grantUnits us p).tu = p.tu := by
  induction us generalizing p with
  | nil => rfl
  | cons u us ih =>
    unfold grantUnits
    split
    · rw [ih]; simp
    · rfl

@[simp] theorem grantUnits_bc (us : List PoleSet) (p : Part) : (grantUnits us p).bc = p.bc := by
  induction us generalizing p with
  | nil => rfl
  | cons u us ih =>
    unfold grantUnits
    split
    · rw [ih]; simp
    · rfl

@[simp] theorem grantUnits_ru (us : List PoleSet) (p : Part) : (grantUnits us p).ru = p.ru := by
  induction us generalizing p with
  | nil => rfl
  | cons u us ih =>
    unfold grantUnits
    split
    · rw [ih]; simp
    · rfl

@[simp] theorem grantUnits_rs (us : List PoleSet) (p : Part) : (grantUnits us p).rs = p.rs := by
  induction us generalizing p with
  | nil => rfl
  | cons u us ih =>
    unfold grantUnits
    split
    · rw [ih]; simp
    · rfl

@[simp] theorem grantUnits_li (us : List PoleSet) (p : Part) : (grantUnits us p).li = p.li := by
  induction us generalizing p with
  | nil => rfl
  | cons u us ih =>
    unfold grantUnits
    split
    · rw [ih]; simp
    · rfl

@[simp] theorem grantUnits_tb (us : List PoleSet) (p : Part) : (grantUnits us p).tb = p.tb := by
  induction us generalizing p with
  | nil => rfl
  | cons u us ih =>
    unfold grantUnits
    split
    · rw [ih]; simp
    · rfl

@[simp] theorem grantUnits_restart (us : List PoleSet) (p : Part) : (grantUnits us p).restart = p.restart := by
  induction us generalizing p with
  | nil => rfl
  | cons u us ih =>
    unfold grantUnits
    split
    · rw [ih]; simp
    · rfl

@[simp] theorem judgeDeficit_on (p : Part) : (judgeDeficit p).on = p.on := by
  simp only [judgeDeficit]
  repeat' split
  all_goals simp

@[simp] theorem judgeDeficit_dc (p : Part) : (judgeDeficit p).dc = p.dc := by
  simp only [judgeDeficit]
  repeat' split
  all_goals simp

@[simp] theorem judgeDeficit_eu (p : Part) : (judgeDeficit p).eu = p.eu := by
  simp only [judgeDeficit]
  repeat' split
  all_goals simp

@[simp] theorem judgeDeficit_sq (p : Part) : (judgeDeficit p).sq = p.sq := by
  simp only [judgeDeficit]
  repeat' split
  all_goals simp

@[simp] theorem judgeDeficit_pu (p : Part) : (judgeDeficit p).pu = p.pu := by
  simp only [judgeDeficit]
  repeat' split
  all_goals simp

@[simp] theorem judgeDeficit_tu (p : Part) : (judgeDeficit p).tu = p.tu := by
  simp only [judgeDeficit]
  repeat' split
  all_goals simp

@[simp] theorem judgeDeficit_bc (p : Part) : (judgeDeficit p).bc = p.bc := by
  simp only [judgeDeficit]
  repeat' split
  all_goals simp

@[simp] theorem judgeDeficit_rs (p : Part) : (judgeDeficit p).rs = p.rs := by
  simp only [judgeDeficit]
  repeat' split
  all_goals simp

@[simp] theorem judgeDeficit_tb (p : Part) : (judgeDeficit p).tb = p.tb := by
  simp only [judgeDeficit]
  repeat' split
  all_goals simp

@[simp] theorem judgeDeficit_restart (p : Part) : (judgeDeficit p).restart = p.restart := by
  simp only [judgeDeficit]
  repeat' split
  all_goals simp

@[simp] theorem recountReserve_on (p : Part) : (recountReserve p).on = p.on := (rfl)

@[simp] theorem recountReserve_dc (p : Part) : (recountReserve p).dc = p.dc := (rfl)

@[simp] theorem recountReserve_eu (p : Part) : (recountReserve p).eu = p.eu := (rfl)

@[simp] theorem recountReserve_sq (p : Part) : (recountReserve p).sq = p.sq := (rfl)

@[simp] theorem recountReserve_pu (p : Part) : (recountReserve p).pu = p.pu := (rfl)

@[simp] theorem recountReserve_tu (p : Part) : (recountReserve p).tu = p.tu := (rfl)

@[simp] theorem recountReserve_bc (p : Part) : (recountReserve p).bc = p.bc := (rfl)

@[simp] theorem recountReserve_ru (p : Part) : (recountReserve p).ru = p.ru := (rfl)

@[simp] theorem recountReserve_rs (p : Part) : (recountReserve p).rs = p.rs := (rfl)

@[simp] theorem recountReserve_li (p : Part) : (recountReserve p).li = p.li := (rfl)

@[simp] theorem recountReserve_tb (p : Part) : (recountReserve p).tb = p.tb := (rfl)

@[simp] theorem recountReserve_restart (p : Part) : (recountReserve p).restart = p.restart := (rfl)

@[simp] theorem recountReserve_nu_level (p : Part) : (recountReserve p).nu.level = p.nu.level := (rfl)

@[simp] theorem recountReserve_nu_fresh (p : Part) : (recountReserve p).nu.fresh = p.nu.fresh := (rfl)

@[simp] theorem recountReserve_nu_deficit (p : Part) : (recountReserve p).nu.deficit = p.nu.deficit := (rfl)

@[simp] theorem recountReserve_nu_closes (p : Part) : (recountReserve p).nu.closes = p.nu.closes := (rfl)

@[simp] theorem recountReserve_nu_waiting (p : Part) : (recountReserve p).nu.waiting = p.nu.waiting := (rfl)

@[simp] theorem recountReserve_nu_charger (p : Part) : (recountReserve p).nu.charger = p.nu.charger := (rfl)

@[simp] theorem recountReserve_nu_tripReserve (p : Part) : (recountReserve p).nu.tripReserve = p.tripReserveNow := (rfl)

@[simp] theorem energyJudge_on (p : Part) : (energyJudge p).on = p.on := by
  simp [energyJudge]

@[simp] theorem energyJudge_eu (p : Part) : (energyJudge p).eu = p.eu := by
  simp [energyJudge]

@[simp] theorem energyJudge_sq (p : Part) : (energyJudge p).sq = p.sq := by
  simp [energyJudge]

@[simp] theorem energyJudge_pu (p : Part) : (energyJudge p).pu = p.pu := by
  simp [energyJudge]

@[simp] theorem energyJudge_tu (p : Part) : (energyJudge p).tu = p.tu := by
  simp [energyJudge]

@[simp] theorem energyJudge_bc (p : Part) : (energyJudge p).bc = p.bc := by
  simp [energyJudge]

@[simp] theorem energyJudge_rs (p : Part) : (energyJudge p).rs = p.rs := by
  simp [energyJudge]

@[simp] theorem energyJudge_tb (p : Part) : (energyJudge p).tb = p.tb := by
  simp [energyJudge]

@[simp] theorem energyJudge_restart (p : Part) : (energyJudge p).restart = p.restart := by
  simp [energyJudge]

@[simp] theorem suspendTest_on (p : Part) : (suspendTest p).on = p.on := by
  simp only [suspendTest]
  repeat' split
  all_goals simp

@[simp] theorem suspendTest_dc (p : Part) : (suspendTest p).dc = p.dc := by
  simp only [suspendTest]
  repeat' split
  all_goals simp

@[simp] theorem suspendTest_eu (p : Part) : (suspendTest p).eu = p.eu := by
  simp only [suspendTest]
  repeat' split
  all_goals simp

@[simp] theorem suspendTest_sq (p : Part) : (suspendTest p).sq = p.sq := by
  simp only [suspendTest]
  repeat' split
  all_goals simp

@[simp] theorem suspendTest_pu (p : Part) : (suspendTest p).pu = p.pu := by
  simp only [suspendTest]
  repeat' split
  all_goals simp

@[simp] theorem suspendTest_tu (p : Part) : (suspendTest p).tu = p.tu := by
  simp only [suspendTest]
  repeat' split
  all_goals simp

@[simp] theorem suspendTest_nu (p : Part) : (suspendTest p).nu = p.nu := by
  simp only [suspendTest]
  repeat' split
  all_goals simp

@[simp] theorem suspendTest_ru (p : Part) : (suspendTest p).ru = p.ru := by
  simp only [suspendTest]
  repeat' split
  all_goals simp

@[simp] theorem suspendTest_rs (p : Part) : (suspendTest p).rs = p.rs := by
  simp only [suspendTest]
  repeat' split
  all_goals simp

@[simp] theorem suspendTest_li (p : Part) : (suspendTest p).li = p.li := by
  simp only [suspendTest]
  repeat' split
  all_goals simp

@[simp] theorem suspendTest_tb (p : Part) : (suspendTest p).tb = p.tb := by
  simp only [suspendTest]
  repeat' split
  all_goals simp

@[simp] theorem suspendTest_restart (p : Part) : (suspendTest p).restart = p.restart := by
  simp only [suspendTest]
  repeat' split
  all_goals simp

@[simp] theorem refresh_on (p : Part) : (refresh p).on = p.on := by
  simp [refresh]

@[simp] theorem refresh_eu (p : Part) : (refresh p).eu = p.eu := by
  simp [refresh]

@[simp] theorem refresh_pu (p : Part) : (refresh p).pu = p.pu := by
  simp [refresh]

@[simp] theorem refresh_tu (p : Part) : (refresh p).tu = p.tu := by
  simp [refresh]

@[simp] theorem refresh_rs (p : Part) : (refresh p).rs = p.rs := by
  simp [refresh]

@[simp] theorem refresh_tb (p : Part) : (refresh p).tb = p.tb := by
  simp [refresh]

@[simp] theorem refresh_restart (p : Part) : (refresh p).restart = p.restart := by
  simp [refresh]

@[simp] theorem tellLockouts_on (b a : Part) : (tellLockouts b a).on = a.on := by
  simp only [tellLockouts]
  split <;> simp

@[simp] theorem tellLockouts_dc (b a : Part) : (tellLockouts b a).dc = a.dc := by
  simp only [tellLockouts]
  split <;> simp

@[simp] theorem tellLockouts_eu (b a : Part) : (tellLockouts b a).eu = a.eu := by
  simp only [tellLockouts]
  split <;> simp

@[simp] theorem tellLockouts_pu (b a : Part) : (tellLockouts b a).pu = a.pu := by
  simp only [tellLockouts]
  split <;> simp

@[simp] theorem tellLockouts_tu (b a : Part) : (tellLockouts b a).tu = a.tu := by
  simp only [tellLockouts]
  split <;> simp

@[simp] theorem tellLockouts_nu (b a : Part) : (tellLockouts b a).nu = a.nu := by
  simp only [tellLockouts]
  split <;> simp

@[simp] theorem tellLockouts_bc (b a : Part) : (tellLockouts b a).bc = a.bc := by
  simp only [tellLockouts]
  split <;> simp

@[simp] theorem tellLockouts_tb (b a : Part) : (tellLockouts b a).tb = a.tb := by
  simp only [tellLockouts]
  split <;> simp

@[simp] theorem tellLockouts_restart (b a : Part) : (tellLockouts b a).restart = a.restart := by
  simp only [tellLockouts]
  split <;> simp

@[simp] theorem tellLockouts_rs (b a : Part) : (tellLockouts b a).rs = a.rs := by
  simp only [tellLockouts]
  split <;> simp

@[simp] theorem tellLockouts_sq_recs (b a : Part) : (tellLockouts b a).sq.recs = a.sq.recs := by
  simp only [tellLockouts]
  split <;> simp

@[simp] theorem tellLockouts_sq_mode (b a : Part) : (tellLockouts b a).sq.mode = a.sq.mode := by
  simp only [tellLockouts]
  split <;> simp

@[simp] theorem tellLockouts_sq_pendingMode (b a : Part) : (tellLockouts b a).sq.pendingMode = a.sq.pendingMode := by
  simp only [tellLockouts]
  split <;> simp

@[simp] theorem tellLockouts_sq_pickup (b a : Part) : (tellLockouts b a).sq.pickup = a.sq.pickup := by
  simp only [tellLockouts]
  split <;> simp

@[simp] theorem tellLockouts_sq_meas (b a : Part) : (tellLockouts b a).sq.meas = a.sq.meas := by
  simp only [tellLockouts]
  split <;> simp

@[simp] theorem tellLockouts_sq_quiescent (b a : Part) : (tellLockouts b a).sq.quiescent = a.sq.quiescent := by
  simp only [tellLockouts]
  split <;> simp

@[simp] theorem reportLockouts_on (b a : Part) : (reportLockouts b a).on = a.on := by
  simp only [reportLockouts]
  split <;> simp

@[simp] theorem reportLockouts_dc (b a : Part) : (reportLockouts b a).dc = a.dc := by
  simp only [reportLockouts]
  split <;> simp

@[simp] theorem reportLockouts_eu (b a : Part) : (reportLockouts b a).eu = a.eu := by
  simp only [reportLockouts]
  split <;> simp

@[simp] theorem reportLockouts_pu (b a : Part) : (reportLockouts b a).pu = a.pu := by
  simp only [reportLockouts]
  split <;> simp

@[simp] theorem reportLockouts_tu (b a : Part) : (reportLockouts b a).tu = a.tu := by
  simp only [reportLockouts]
  split <;> simp

@[simp] theorem reportLockouts_nu (b a : Part) : (reportLockouts b a).nu = a.nu := by
  simp only [reportLockouts]
  split <;> simp

@[simp] theorem reportLockouts_bc (b a : Part) : (reportLockouts b a).bc = a.bc := by
  simp only [reportLockouts]
  split <;> simp

@[simp] theorem reportLockouts_tb (b a : Part) : (reportLockouts b a).tb = a.tb := by
  simp only [reportLockouts]
  split <;> simp

@[simp] theorem reportLockouts_restart (b a : Part) : (reportLockouts b a).restart = a.restart := by
  simp only [reportLockouts]
  split <;> simp

@[simp] theorem reportLockouts_sq_recs (b a : Part) : (reportLockouts b a).sq.recs = a.sq.recs := by
  simp only [reportLockouts]
  split <;> simp

@[simp] theorem reportLockouts_sq_mode (b a : Part) : (reportLockouts b a).sq.mode = a.sq.mode := by
  simp only [reportLockouts]
  split <;> simp

@[simp] theorem reportLockouts_sq_pendingMode (b a : Part) : (reportLockouts b a).sq.pendingMode = a.sq.pendingMode := by
  simp only [reportLockouts]
  split <;> simp

@[simp] theorem reportLockouts_sq_pickup (b a : Part) : (reportLockouts b a).sq.pickup = a.sq.pickup := by
  simp only [reportLockouts]
  split <;> simp

@[simp] theorem reportLockouts_sq_meas (b a : Part) : (reportLockouts b a).sq.meas = a.sq.meas := by
  simp only [reportLockouts]
  split <;> simp

@[simp] theorem reportLockouts_sq_quiescent (b a : Part) : (reportLockouts b a).sq.quiescent = a.sq.quiescent := by
  simp only [reportLockouts]
  split <;> simp

/-- An event that neither brings a pole into LOCKOUT nor takes one out has no LOCKOUT report and no image to hand on (R46). -/
theorem reportLockouts_of_same {b a : Part} (h : a.locked = b.locked) : reportLockouts b a = a := by
  simp [reportLockouts, h]

/-- The images of the other items are not handed on at a lockout (R46). -/
theorem reportLockouts_rs_get (b a : Part) {i : Item} (h : i ≠ .LOCKOUT) :
    (reportLockouts b a).rs.get i = a.rs.get i := by
  simp only [reportLockouts]
  split
  · rfl
  · cases i <;> first | contradiction | simp [retain, Store.get, Store.set]

/-- The end of an event that changed no LOCKOUT is the judgements alone. -/
theorem endEvent_of_same {b a : Part} (h : a.locked = b.locked) : endEvent b a = refresh a := by
  rw [endEvent, reportLockouts_of_same h]

/-- The end of an event that left the sequence records as it found them. -/
theorem endEvent_of_recs {b a : Part} (h : a.sq.recs = b.sq.recs) : endEvent b a = refresh a :=
  endEvent_of_same (by simp [Part.locked, Part.seq, h])

@[simp] theorem endEvent_on (b a : Part) : (endEvent b a).on = a.on := by
  simp [endEvent]

@[simp] theorem endEvent_eu (b a : Part) : (endEvent b a).eu = a.eu := by
  simp [endEvent]

@[simp] theorem endEvent_pu (b a : Part) : (endEvent b a).pu = a.pu := by
  simp [endEvent]

@[simp] theorem endEvent_tu (b a : Part) : (endEvent b a).tu = a.tu := by
  simp [endEvent]

@[simp] theorem endEvent_tb (b a : Part) : (endEvent b a).tb = a.tb := by
  simp [endEvent]

@[simp] theorem endEvent_restart (b a : Part) : (endEvent b a).restart = a.restart := by
  simp [endEvent]

end Sys2Proof.Machine
end

