-- ==== Sys2Proof/Laws/Messages.lean ====
section
/-! SUPPORT. What the outbound lists gain: every shared operation only appends messages to the list of a powered link and
leaves the rest of the link records as it was. -/

namespace Sys2Proof.Machine

/-- The link records of the second part are those of the first with messages appended. -/
def Grows (p q : Part) : Prop :=
  ∀ l, ∃ ms, q.li.get l = { p.li.get l with outbound := (p.li.get l).outbound ++ ms }

theorem Grows.refl (p : Part) : Grows p p := fun l => ⟨[], by simp⟩

theorem Grows.trans {p q r : Part} (h : Grows p q) (k : Grows q r) : Grows p r := by
  intro l
  obtain ⟨ms, hm⟩ := h l
  obtain ⟨ns, hn⟩ := k l
  exact ⟨ms ++ ns, by rw [hn, hm]; simp⟩

/-- A part with the same link records. -/
theorem Grows.of_li {p q : Part} (h : q.li = p.li) : Grows p q := by
  intro l
  exact ⟨[], by rw [h]; simp⟩

theorem Grows.applyAll {α : Type} {f : α → Part → Part} (h : ∀ a p, Grows p (f a p)) (as : List α) (p : Part) :
    Grows p (applyAll f as p) := by
  induction as generalizing p with
  | nil => exact .refl p
  | cons a as ih => exact (h a p).trans (ih _)

/-- A message handed to a powered link is the last of its list; to another link it changes nothing (R186). -/
theorem send_get (l k : Link) (m : Message) (p : Part) :
    (send l m p).li.get k =
      if k = l ∧ (p.li.get l).powered = true then { p.li.get l with outbound := (p.li.get l).outbound ++ [m] }
      else p.li.get k := by
  simp only [send]
  by_cases h : (p.li.get l).powered = true
  · by_cases hk : k = l
    · subst hk; simp [h]
    · simp [h, hk, LinkInterface.get_set]
  · simp [h]

theorem send_grows (l : Link) (m : Message) (p : Part) : Grows p (send l m p) := by
  intro k
  rw [send_get]
  split
  · rename_i h
    exact ⟨[m], by rw [h.1]⟩
  · exact ⟨[], by simp⟩

theorem judgeCall_grows (p : Part) : Grows p (judgeCall p) := by
  simp only [judgeCall]
  split
  · exact (Grows.of_li rfl).trans (send_grows _ _ _)
  · exact .refl p

theorem judgeSending_grows (p : Part) : Grows p (judgeSending p) := by
  simp only [judgeSending]
  split
  · exact .refl p
  · exact judgeCall_grows p

theorem enterReport_grows (k : ReportKind) (s : Option PoleSet) (b : List Byte) (p : Part) :
    Grows p (enterReport k s b p) := by
  simp only [enterReport]
  split
  · exact .of_li rfl
  · split
    · exact (Grows.of_li rfl).trans (judgeSending_grows _)
    · split
      · exact (Grows.of_li rfl).trans (judgeSending_grows _)
      · exact .of_li rfl

theorem sendEnd_grows (r : OpResult) (n : Nat) (e : ReqEntry) (p : Part) : Grows p (sendEnd r n e p) := by
  simp only [sendEnd]
  split
  · exact send_grows _ _ _
  · exact .refl p

theorem sendEnds_grows (op : OpRec) (r : OpResult) (p : Part) : Grows p (sendEnds op r p) :=
  Grows.applyAll (fun e q => sendEnd_grows r op.number e q) _ _

theorem endCrewEntry_grows (r : OpResult) (p : Part) : Grows p (endCrewEntry r p) := by
  simp only [endCrewEntry]
  split
  · exact (Grows.of_li rfl).trans (sendEnds_grows _ _ _)
  · exact .refl p

theorem endRadioEntry_grows (r : OpResult) (p : Part) : Grows p (endRadioEntry r p) := by
  simp only [endRadioEntry]
  split
  · exact (Grows.of_li rfl).trans (sendEnds_grows _ _ _)
  · exact .refl p

theorem endLinkEntries_grows (s : PoleSet) (r : OpResult) (p : Part) : Grows p (endLinkEntries s r p) := by
  simp only [endLinkEntries]
  split <;> split
  · exact (endCrewEntry_grows _ _).trans (endRadioEntry_grows _ _)
  · exact endCrewEntry_grows _ _
  · exact endRadioEntry_grows _ _
  · exact .refl p

theorem cancelEntries_grows (s : PoleSet) (p : Part) : Grows p (cancelEntries s p) :=
  (endLinkEntries_grows _ _ _).trans (Grows.applyAll (fun _ _ => .of_li (by simp)) _ _)

theorem enterLockout_grows (c : LockSet) (p : Part) : Grows p (enterLockout c p) := .of_li (enterLockout_li _ _)

theorem setMech_grows (c : MechCause) (x : Pole) (p : Part) : Grows p (setMech c x p) := by
  simp only [setMech]
  split
  · exact .refl p
  · exact (Grows.of_li (by simp)).trans (enterReport_grows _ _ _ _)

theorem coilChecks_grows (s : PoleSet) (p : Part) : Grows p (coilChecks s p) :=
  (Grows.applyAll (fun x q => setMech_grows _ x q) _ _).trans (enterLockout_grows _ _)

theorem wearReports_grows (o n : Nat) (x : Pole) (p : Part) : Grows p (wearReports o n x p) := by
  simp only [wearReports]
  split <;> split
  · exact (enterReport_grows _ _ _ _).trans (enterReport_grows _ _ _ _)
  · exact enterReport_grows _ _ _ _
  · exact enterReport_grows _ _ _ _
  · exact .refl p

theorem addWear_grows (x : Pole) (p : Part) : Grows p (addWear x p) :=
  (Grows.of_li rfl).trans (wearReports_grows _ _ _ _)

theorem countAndWear_grows (f : Flight) (p : Part) : Grows p (countAndWear f p) := by
  simp only [countAndWear]
  split
  · have h : Grows p (applyAll addWear (f.closedAtFire.inter f.moved).members
        (mapPoles f.moved (fun _ r => r.counted) p)) :=
      (Grows.of_li rfl).trans (Grows.applyAll addWear_grows _ _)
    split
    · exact h
    · exact h.trans (.of_li rfl)
  · exact .of_li rfl

theorem endFirst_grows (f : Flight) (p : Part) : Grows p (endFirst f p) :=
  ((Grows.of_li (by simp)).trans (coilChecks_grows _ _)).trans (countAndWear_grows _ _)

theorem doneReport_grows (op : OpRec) (r : OpResult) (p : Part) : Grows p (doneReport op r p) := enterReport_grows _ _ _ _

theorem endLast_grows (f : Flight) (r : OpResult) (p : Part) : Grows p (endLast f r p) :=
  (((Grows.of_li (releaseFlight_li f.op p)).trans (doneReport_grows f.op r _)).trans
    (Grows.of_li (pushHistory_li f r _))).trans (sendEnds_grows _ _ _)

theorem endSuperseded_grows (f : Flight) (p : Part) : Grows p (endSuperseded f p) :=
  (((endFirst_grows f p).trans (Grows.of_li (markSuperseded_li f.op _))).trans (endLast_grows _ _ _)).trans
    (.of_li (driveFreed_li _))

theorem supersede_grows (p : Part) : Grows p (supersede p) := by
  simp only [supersede]
  split
  · split
    · exact (Grows.of_li (by simp)).trans (endSuperseded_grows _ _)
    · exact .refl p
  · exact .refl p

theorem mergeTrip_grows (s : PoleSet) (e : ReqEntry) (p : Part) : Grows p (mergeTrip s e p).1 := by
  simp only [mergeTrip]
  split
  · exact (Grows.of_li (by simp)).trans (supersede_grows _)
  · split
    · split
      · exact .refl p
      · exact .of_li rfl
    · exact .refl p

theorem sqProtect_grows (s : PoleSet) (m b : Bool) (p : Part) : Grows p (sqProtect s m b p).1 :=
  .of_li (sqProtect_li s m b p)

theorem sqTripReport_grows (s : PoleSet) (c : OpCause) (w : Requester) (p : Part) :
    Grows p (sqTripReport s c w p).1 := .of_li (sqTripReport_li _ _ _ _)

theorem clearEntries_grows (s : PoleSet) (p : Part) : Grows p (clearEntries s p) :=
  (cancelEntries_grows s p).trans (.of_li (judgeQuiescence_li _))

theorem addTrip_grows (s : PoleSet) (p : Part) : Grows p (addTrip s p) := by
  simp only [addTrip]
  split
  · exact .refl p
  · exact (clearEntries_grows _ _).trans (mergeTrip_grows _ _ _)

theorem takeTrip_grows (s : PoleSet) (c : OpCause) (w : Requester) (t : Option Byte) (p : Part) :
    Grows p (takeTrip s c w t p).1 := by
  simp only [takeTrip]
  split
  · exact .refl p
  · have h := (((clearEntries_grows s p).trans (sqTripReport_grows s c w _)).trans
      (mergeTrip_grows s ⟨w, c, s, t⟩ _)).trans (addTrip_grows (sqTripReport s c w (clearEntries s p)).2 _)
    split
    · exact (h.trans (.of_li (restartDead_li _ _))).trans (.of_li (judgeQuiescence_li _))
    · exact h.trans (.of_li (judgeQuiescence_li _))

theorem noteAndTrip_grows (s : PoleSet) (n : EndNote) (c : OpCause) (p : Part) : Grows p (noteAndTrip s n c p) := by
  simp only [noteAndTrip, seqTrip]
  split
  · exact .refl p
  · exact (Grows.of_li (by simp)).trans (takeTrip_grows _ _ _ _ _)

theorem blindCheck_grows (p : Part) : Grows p (blindCheck p) := by
  simp only [blindCheck]
  split
  · exact noteAndTrip_grows _ _ _ _
  · exact .refl p

theorem judgeDeficit_grows (p : Part) : Grows p (judgeDeficit p) := by
  simp only [judgeDeficit]
  repeat' split
  all_goals first
    | exact .refl p
    | exact .of_li rfl
    | exact (Grows.of_li rfl).trans (enterReport_grows _ _ _ _)

theorem energyJudge_grows (p : Part) : Grows p (energyJudge p) :=
  (Grows.of_li (by simp)).trans (judgeDeficit_grows _)

theorem refresh_grows (p : Part) : Grows p (refresh p) :=
  ((energyJudge_grows p).trans (.of_li (judgeQuiescence_li _))).trans (.of_li (suspendTest_li _))

theorem tellLockouts_grows (b a : Part) : Grows a (tellLockouts b a) := by
  simp only [tellLockouts]
  split
  · exact .refl a
  · exact (Grows.of_li rfl).trans (enterReport_grows _ _ _ _)

theorem reportLockouts_grows (b a : Part) : Grows a (reportLockouts b a) := by
  simp only [reportLockouts]
  split
  · exact .refl a
  · exact ((Grows.of_li (retain_li _ _)).trans (tellLockouts_grows _ _)).trans (.of_li rfl)

theorem endEvent_grows (b a : Part) : Grows a (endEvent b a) := (reportLockouts_grows b a).trans (refresh_grows _)

end Sys2Proof.Machine
end

