-- ==== Sys2Proof/Laws/Judgements.lean ====
section
/-! SUPPORT. What the judgements at the end of an event leave as it was inside the blocks they touch (R71, R120, R126, R130,
R148), and how a request that is passed at once reaches its owner (R181 to R185). -/

namespace Sys2Proof.Machine

/-! ### The drive: the waiting check only moves entries from WAIT_ENERGY to PENDING (R126) -/

/-- What every grant keeps, the waiting check keeps. -/
theorem grantUnits_keeps {β : Type} (g : Part → β) (h : ∀ x p, g (pendingEntry x p) = g p)
    (hw : ∀ (p : Part) (us : List PoleSet), g { p with nu := { p.nu with waiting := us } } = g p) (us : List PoleSet)
    (p : Part) : g (grantUnits us p) = g p := by
  induction us generalizing p with
  | nil => rfl
  | cons u us ih =>
    unfold grantUnits
    split
    · rw [ih, applyAll_keeps g h, hw]
    · rfl

/-- What grants and reports keep, the judgement of the Energy Unit keeps. -/
theorem energyJudge_keeps {β : Type} (g : Part → β) (h : ∀ x p, g (pendingEntry x p) = g p)
    (hw : ∀ (p : Part) (us : List PoleSet), g { p with nu := { p.nu with waiting := us } } = g p)
    (ht : ∀ p : Part, g (recountReserve p) = g p)
    (hd : ∀ p, g (judgeDeficit p) = g p) (p : Part) : g (energyJudge p) = g p := by
  simp only [energyJudge]
  rw [hd, grantUnits_keeps g h hw, ht]

@[simp] theorem refresh_dc_poles (p : Part) : (refresh p).dc.poles = p.dc.poles := by
  simp only [refresh, suspendTest_dc, judgeQuiescence_dc]
  exact energyJudge_keeps (fun q => q.dc.poles) (fun _ _ => rfl) (fun _ _ => rfl) (fun _ => rfl) (by simp) p

@[simp] theorem refresh_dc_nextOp (p : Part) : (refresh p).dc.nextOp = p.dc.nextOp := by
  simp only [refresh, suspendTest_dc, judgeQuiescence_dc]
  exact energyJudge_keeps (fun q => q.dc.nextOp) (fun _ _ => rfl) (fun _ _ => rfl) (fun _ => rfl) (by simp) p

@[simp] theorem refresh_dc_trip (p : Part) : (refresh p).dc.trip = p.dc.trip := by
  simp only [refresh, suspendTest_dc, judgeQuiescence_dc]
  exact energyJudge_keeps (fun q => q.dc.trip) (fun _ _ => rfl) (fun _ _ => rfl) (fun _ => rfl) (by simp) p

@[simp] theorem refresh_dc_crew (p : Part) : (refresh p).dc.crew = p.dc.crew := by
  simp only [refresh, suspendTest_dc, judgeQuiescence_dc]
  exact energyJudge_keeps (fun q => q.dc.crew) (fun _ _ => rfl) (fun _ _ => rfl) (fun _ => rfl) (by simp) p

@[simp] theorem refresh_dc_radio (p : Part) : (refresh p).dc.radio = p.dc.radio := by
  simp only [refresh, suspendTest_dc, judgeQuiescence_dc]
  exact energyJudge_keeps (fun q => q.dc.radio) (fun _ _ => rfl) (fun _ _ => rfl) (fun _ => rfl) (by simp) p

@[simp] theorem refresh_dc_flight (p : Part) : (refresh p).dc.flight = p.dc.flight := by
  simp only [refresh, suspendTest_dc, judgeQuiescence_dc]
  exact energyJudge_keeps (fun q => q.dc.flight) (fun _ _ => rfl) (fun _ _ => rfl) (fun _ => rfl) (by simp) p

@[simp] theorem refresh_dc_history (p : Part) : (refresh p).dc.history = p.dc.history := by
  simp only [refresh, suspendTest_dc, judgeQuiescence_dc]
  exact energyJudge_keeps (fun q => q.dc.history) (fun _ _ => rfl) (fun _ _ => rfl) (fun _ => rfl) (by simp) p

@[simp] theorem refresh_dc_coilOpen (p : Part) : (refresh p).dc.coilOpen = p.dc.coilOpen := by
  simp only [refresh, suspendTest_dc, judgeQuiescence_dc]
  exact energyJudge_keeps (fun q => q.dc.coilOpen) (fun _ _ => rfl) (fun _ _ => rfl) (fun _ => rfl) (by simp) p

@[simp] theorem refresh_dc_tripPulse (p : Part) : (refresh p).dc.tripPulse = p.dc.tripPulse := by
  simp only [refresh, suspendTest_dc, judgeQuiescence_dc]
  exact energyJudge_keeps (fun q => q.dc.tripPulse) (fun _ _ => rfl) (fun _ _ => rfl) (fun _ => rfl) (by simp) p

@[simp] theorem refresh_dc_closePulse (p : Part) : (refresh p).dc.closePulse = p.dc.closePulse := by
  simp only [refresh, suspendTest_dc, judgeQuiescence_dc]
  exact energyJudge_keeps (fun q => q.dc.closePulse) (fun _ _ => rfl) (fun _ _ => rfl) (fun _ => rfl) (by simp) p

theorem judgeDeficit_nu_level (p : Part) : (judgeDeficit p).nu.level = p.nu.level := by
  simp only [judgeDeficit]
  repeat' split
  all_goals simp

@[simp] theorem refresh_nu_level (p : Part) : (refresh p).nu.level = p.nu.level := by
  simp only [refresh, suspendTest_nu, judgeQuiescence_nu]
  exact energyJudge_keeps (fun q => q.nu.level) (fun _ _ => rfl) (fun _ _ => rfl) (fun _ => rfl)
    judgeDeficit_nu_level p

theorem judgeDeficit_nu_fresh (p : Part) : (judgeDeficit p).nu.fresh = p.nu.fresh := by
  simp only [judgeDeficit]
  repeat' split
  all_goals simp

@[simp] theorem refresh_nu_fresh (p : Part) : (refresh p).nu.fresh = p.nu.fresh := by
  simp only [refresh, suspendTest_nu, judgeQuiescence_nu]
  exact energyJudge_keeps (fun q => q.nu.fresh) (fun _ _ => rfl) (fun _ _ => rfl) (fun _ => rfl)
    judgeDeficit_nu_fresh p

theorem judgeDeficit_nu_charger (p : Part) : (judgeDeficit p).nu.charger = p.nu.charger := by
  simp only [judgeDeficit]
  repeat' split
  all_goals simp

@[simp] theorem refresh_nu_charger (p : Part) : (refresh p).nu.charger = p.nu.charger := by
  simp only [refresh, suspendTest_nu, judgeQuiescence_nu]
  exact energyJudge_keeps (fun q => q.nu.charger) (fun _ _ => rfl) (fun _ _ => rfl) (fun _ => rfl)
    judgeDeficit_nu_charger p

/-! ### The Sequencer: quiescence and the pending pole mode (R71, R72) -/

@[simp] theorem refresh_sq_recs (p : Part) : (refresh p).sq.recs = p.sq.recs := by
  simp [refresh]

@[simp] theorem refresh_sq_pickup (p : Part) : (refresh p).sq.pickup = p.sq.pickup := by
  simp [refresh]

@[simp] theorem refresh_sq_meas (p : Part) : (refresh p).sq.meas = p.sq.meas := by
  simp [refresh]

/-- At the end of every event the flag is what the poles' states and the drive give (R72). -/
@[simp] theorem refresh_sq_quiescent (p : Part) : (refresh p).sq.quiescent = (refresh p).isQuiescent := by
  simp [refresh, Part.isQuiescent, Part.seq]

/-- No pole mode is pending at the end of an event that leaves the Sequencer quiescent (R71). -/
theorem refresh_leaves_no_mode_pending (p : Part) (h : (refresh p).isQuiescent = true) :
    (refresh p).sq.pendingMode = none := by
  rw [← refresh_sq_quiescent] at h
  simp only [refresh, suspendTest_sq, judgeQuiescence_sq_quiescent] at h ⊢
  exact (judgeQuiescence_takes_mode _ h).2

@[simp] theorem refresh_seq (p : Part) (x : Pole) : (refresh p).seq x = p.seq x := by simp [Part.seq]

@[simp] theorem refresh_position (p : Part) (x : Pole) : (refresh p).position x = p.position x := by
  simp [Part.position]

/-! ### The battery: a running test may be suspended (R148) -/

@[simp] theorem refresh_bc_soc (p : Part) : (refresh p).bc.soc = p.bc.soc := by
  simp only [refresh, suspendTest]
  split <;> simp

@[simp] theorem refresh_bc_rem (p : Part) : (refresh p).bc.rem = p.bc.rem := by
  simp only [refresh, suspendTest]
  split <;> simp

@[simp] theorem refresh_bc_capacity (p : Part) : (refresh p).bc.capacity = p.bc.capacity := by
  simp only [refresh, suspendTest]
  split <;> simp

@[simp] theorem refresh_bc_health (p : Part) : (refresh p).bc.health = p.bc.health := by
  simp only [refresh, suspendTest]
  split <;> simp

@[simp] theorem refresh_bc_level (p : Part) : (refresh p).bc.level = p.bc.level := by
  simp only [refresh, suspendTest]
  split <;> simp

@[simp] theorem refresh_bc_supply (p : Part) : (refresh p).bc.supply = p.bc.supply := by
  simp only [refresh, suspendTest]
  split <;> simp

@[simp] theorem refresh_bc_heater (p : Part) : (refresh p).bc.heater = p.bc.heater := by
  simp only [refresh, suspendTest]
  split <;> simp

@[simp] theorem refresh_bc_partState (p : Part) : (refresh p).bc.partState = p.bc.partState := by
  simp only [refresh, suspendTest]
  split <;> simp

@[simp] theorem refresh_bc_wait (p : Part) : (refresh p).bc.wait = p.bc.wait := by
  simp only [refresh, suspendTest]
  split <;> simp

@[simp] theorem refresh_bc_vals (p : Part) : (refresh p).bc.vals = p.bc.vals := by
  simp only [refresh, suspendTest]
  split <;> simp

@[simp] theorem refresh_bc_okTemp (p : Part) : (refresh p).bc.okTemp = p.bc.okTemp := by
  simp only [refresh, suspendTest]
  split <;> simp

@[simp] theorem refresh_bc_absorbTaper (p : Part) : (refresh p).bc.absorbTaper = p.bc.absorbTaper := by
  simp only [refresh, suspendTest]
  split <;> simp

@[simp] theorem refresh_bc_absorbTime (p : Part) : (refresh p).bc.absorbTime = p.bc.absorbTime := by
  simp only [refresh, suspendTest]
  split <;> simp

@[simp] theorem refresh_bc_floatLow (p : Part) : (refresh p).bc.floatLow = p.bc.floatLow := by
  simp only [refresh, suspendTest]
  split <;> simp

@[simp] theorem refresh_bc_taperRun (p : Part) : (refresh p).bc.taperRun = p.bc.taperRun := by
  simp only [refresh, suspendTest]
  split <;> simp

@[simp] theorem refresh_bc_socTimer (p : Part) : (refresh p).bc.socTimer = p.bc.socTimer := by
  simp only [refresh, suspendTest]
  split <;> simp

@[simp] theorem refresh_bc_hours (p : Part) : (refresh p).bc.hours = p.bc.hours := by
  simp only [refresh, suspendTest]
  split <;> simp

@[simp] theorem refresh_bc_intervalMs (p : Part) : (refresh p).bc.intervalMs = p.bc.intervalMs := by
  simp only [refresh, suspendTest]
  split <;> simp

@[simp] theorem refresh_bc_posted (p : Part) : (refresh p).bc.posted = p.bc.posted := by
  simp only [refresh, suspendTest]
  split <;> simp

@[simp] theorem refresh_bc_procPower (p : Part) : (refresh p).bc.procPower = p.bc.procPower := by
  simp only [refresh, suspendTest]
  split <;> simp

/-! ### The end of an event keeps what its judgements keep -/

@[simp] theorem endEvent_dc_poles (b a : Part) : (endEvent b a).dc.poles = a.dc.poles := by simp [endEvent]

@[simp] theorem endEvent_dc_nextOp (b a : Part) : (endEvent b a).dc.nextOp = a.dc.nextOp := by simp [endEvent]

@[simp] theorem endEvent_dc_trip (b a : Part) : (endEvent b a).dc.trip = a.dc.trip := by simp [endEvent]

@[simp] theorem endEvent_dc_crew (b a : Part) : (endEvent b a).dc.crew = a.dc.crew := by simp [endEvent]

@[simp] theorem endEvent_dc_radio (b a : Part) : (endEvent b a).dc.radio = a.dc.radio := by simp [endEvent]

@[simp] theorem endEvent_dc_flight (b a : Part) : (endEvent b a).dc.flight = a.dc.flight := by simp [endEvent]

@[simp] theorem endEvent_dc_history (b a : Part) : (endEvent b a).dc.history = a.dc.history := by simp [endEvent]

@[simp] theorem endEvent_dc_coilOpen (b a : Part) : (endEvent b a).dc.coilOpen = a.dc.coilOpen := by simp [endEvent]

@[simp] theorem endEvent_dc_tripPulse (b a : Part) : (endEvent b a).dc.tripPulse = a.dc.tripPulse := by simp [endEvent]

@[simp] theorem endEvent_dc_closePulse (b a : Part) : (endEvent b a).dc.closePulse = a.dc.closePulse := by simp [endEvent]

@[simp] theorem endEvent_nu_level (b a : Part) : (endEvent b a).nu.level = a.nu.level := by simp [endEvent]

@[simp] theorem endEvent_nu_fresh (b a : Part) : (endEvent b a).nu.fresh = a.nu.fresh := by simp [endEvent]

@[simp] theorem endEvent_nu_charger (b a : Part) : (endEvent b a).nu.charger = a.nu.charger := by simp [endEvent]

@[simp] theorem endEvent_sq_recs (b a : Part) : (endEvent b a).sq.recs = a.sq.recs := by simp [endEvent]

@[simp] theorem endEvent_sq_pickup (b a : Part) : (endEvent b a).sq.pickup = a.sq.pickup := by simp [endEvent]

@[simp] theorem endEvent_sq_meas (b a : Part) : (endEvent b a).sq.meas = a.sq.meas := by simp [endEvent]

@[simp] theorem endEvent_seq (b a : Part) (x : Pole) : (endEvent b a).seq x = a.seq x := by simp [endEvent, Part.seq]

@[simp] theorem endEvent_position (b a : Part) (x : Pole) : (endEvent b a).position x = a.position x := by
  simp [endEvent, Part.position]

@[simp] theorem endEvent_bc_soc (b a : Part) : (endEvent b a).bc.soc = a.bc.soc := by simp [endEvent]

@[simp] theorem endEvent_bc_rem (b a : Part) : (endEvent b a).bc.rem = a.bc.rem := by simp [endEvent]

@[simp] theorem endEvent_bc_capacity (b a : Part) : (endEvent b a).bc.capacity = a.bc.capacity := by simp [endEvent]

@[simp] theorem endEvent_bc_health (b a : Part) : (endEvent b a).bc.health = a.bc.health := by simp [endEvent]

@[simp] theorem endEvent_bc_level (b a : Part) : (endEvent b a).bc.level = a.bc.level := by simp [endEvent]

@[simp] theorem endEvent_bc_supply (b a : Part) : (endEvent b a).bc.supply = a.bc.supply := by simp [endEvent]

@[simp] theorem endEvent_bc_heater (b a : Part) : (endEvent b a).bc.heater = a.bc.heater := by simp [endEvent]

@[simp] theorem endEvent_bc_partState (b a : Part) : (endEvent b a).bc.partState = a.bc.partState := by simp [endEvent]

@[simp] theorem endEvent_bc_wait (b a : Part) : (endEvent b a).bc.wait = a.bc.wait := by simp [endEvent]

@[simp] theorem endEvent_bc_vals (b a : Part) : (endEvent b a).bc.vals = a.bc.vals := by simp [endEvent]

@[simp] theorem endEvent_bc_okTemp (b a : Part) : (endEvent b a).bc.okTemp = a.bc.okTemp := by simp [endEvent]

@[simp] theorem endEvent_bc_absorbTaper (b a : Part) : (endEvent b a).bc.absorbTaper = a.bc.absorbTaper := by simp [endEvent]

@[simp] theorem endEvent_bc_absorbTime (b a : Part) : (endEvent b a).bc.absorbTime = a.bc.absorbTime := by simp [endEvent]

@[simp] theorem endEvent_bc_floatLow (b a : Part) : (endEvent b a).bc.floatLow = a.bc.floatLow := by simp [endEvent]

@[simp] theorem endEvent_bc_taperRun (b a : Part) : (endEvent b a).bc.taperRun = a.bc.taperRun := by simp [endEvent]

@[simp] theorem endEvent_bc_socTimer (b a : Part) : (endEvent b a).bc.socTimer = a.bc.socTimer := by simp [endEvent]

@[simp] theorem endEvent_bc_hours (b a : Part) : (endEvent b a).bc.hours = a.bc.hours := by simp [endEvent]

@[simp] theorem endEvent_bc_intervalMs (b a : Part) : (endEvent b a).bc.intervalMs = a.bc.intervalMs := by simp [endEvent]

@[simp] theorem endEvent_bc_posted (b a : Part) : (endEvent b a).bc.posted = a.bc.posted := by simp [endEvent]

@[simp] theorem endEvent_bc_procPower (b a : Part) : (endEvent b a).bc.procPower = a.bc.procPower := by simp [endEvent]

/-- The store after the end of an event: the lockout image alone may have been handed on (R46). -/
@[simp] theorem endEvent_rs_get (b a : Part) {i : Item} (h : i ≠ .LOCKOUT) : (endEvent b a).rs.get i = a.rs.get i := by
  simp [endEvent, reportLockouts_rs_get b a h]

/-! ### A request that is passed at once -/

/-- The part in which a request reaches its owner: it is under answer, and the claim timer of its link has been loaded
(R184). -/
def passedPart (l : Link) (w : WaitReq) (p : Part) : Part :=
  loadClaimTimer l (setUnder l (some ⟨w.req.kindByte, w.tag⟩) p)

@[simp] theorem loadClaimTimer_on (l : Link) (p : Part) : (loadClaimTimer l p).on = p.on := by
  simp only [loadClaimTimer]
  repeat' split
  all_goals rfl

@[simp] theorem passedPart_on (l : Link) (w : WaitReq) (p : Part) : (passedPart l w p).on = p.on := by
  simp [passedPart]

@[simp] theorem loadClaimTimer_dc (l : Link) (p : Part) : (loadClaimTimer l p).dc = p.dc := by
  simp only [loadClaimTimer]
  repeat' split
  all_goals rfl

@[simp] theorem passedPart_dc (l : Link) (w : WaitReq) (p : Part) : (passedPart l w p).dc = p.dc := by
  simp [passedPart]

@[simp] theorem loadClaimTimer_eu (l : Link) (p : Part) : (loadClaimTimer l p).eu = p.eu := by
  simp only [loadClaimTimer]
  repeat' split
  all_goals rfl

@[simp] theorem passedPart_eu (l : Link) (w : WaitReq) (p : Part) : (passedPart l w p).eu = p.eu := by
  simp [passedPart]

@[simp] theorem loadClaimTimer_sq (l : Link) (p : Part) : (loadClaimTimer l p).sq = p.sq := by
  simp only [loadClaimTimer]
  repeat' split
  all_goals rfl

@[simp] theorem passedPart_sq (l : Link) (w : WaitReq) (p : Part) : (passedPart l w p).sq = p.sq := by
  simp [passedPart]

@[simp] theorem loadClaimTimer_tu (l : Link) (p : Part) : (loadClaimTimer l p).tu = p.tu := by
  simp only [loadClaimTimer]
  repeat' split
  all_goals rfl

@[simp] theorem passedPart_tu (l : Link) (w : WaitReq) (p : Part) : (passedPart l w p).tu = p.tu := by
  simp [passedPart]

@[simp] theorem loadClaimTimer_nu (l : Link) (p : Part) : (loadClaimTimer l p).nu = p.nu := by
  simp only [loadClaimTimer]
  repeat' split
  all_goals rfl

@[simp] theorem passedPart_nu (l : Link) (w : WaitReq) (p : Part) : (passedPart l w p).nu = p.nu := by
  simp [passedPart]

@[simp] theorem loadClaimTimer_bc (l : Link) (p : Part) : (loadClaimTimer l p).bc = p.bc := by
  simp only [loadClaimTimer]
  repeat' split
  all_goals rfl

@[simp] theorem passedPart_bc (l : Link) (w : WaitReq) (p : Part) : (passedPart l w p).bc = p.bc := by
  simp [passedPart]

@[simp] theorem loadClaimTimer_ru (l : Link) (p : Part) : (loadClaimTimer l p).ru = p.ru := by
  simp only [loadClaimTimer]
  repeat' split
  all_goals rfl

@[simp] theorem passedPart_ru (l : Link) (w : WaitReq) (p : Part) : (passedPart l w p).ru = p.ru := by
  simp [passedPart]

@[simp] theorem loadClaimTimer_rs (l : Link) (p : Part) : (loadClaimTimer l p).rs = p.rs := by
  simp only [loadClaimTimer]
  repeat' split
  all_goals rfl

@[simp] theorem passedPart_rs (l : Link) (w : WaitReq) (p : Part) : (passedPart l w p).rs = p.rs := by
  simp [passedPart]

@[simp] theorem loadClaimTimer_tb (l : Link) (p : Part) : (loadClaimTimer l p).tb = p.tb := by
  simp only [loadClaimTimer]
  repeat' split
  all_goals rfl

@[simp] theorem passedPart_tb (l : Link) (w : WaitReq) (p : Part) : (passedPart l w p).tb = p.tb := by
  simp [passedPart]

@[simp] theorem loadClaimTimer_restart (l : Link) (p : Part) : (loadClaimTimer l p).restart = p.restart := by
  simp only [loadClaimTimer]
  repeat' split
  all_goals rfl

@[simp] theorem passedPart_restart (l : Link) (w : WaitReq) (p : Part) : (passedPart l w p).restart = p.restart := by
  simp [passedPart]

@[simp] theorem loadClaimTimer_li (l : Link) (p : Part) : (loadClaimTimer l p).li = p.li := by
  simp only [loadClaimTimer]
  repeat' split
  all_goals rfl

/-- The claim timer is all that a passed request changes at the Profile Unit (R89). -/
theorem loadClaimTimer_pu (l : Link) (p : Part) :
    (loadClaimTimer l p).pu = { p.pu with claim := (loadClaimTimer l p).pu.claim } := by
  simp only [loadClaimTimer]
  repeat' split
  all_goals rfl

/-- On a free link a request that its link may send reaches its owner at once (R181 to R184). -/
theorem arrive_taken {l : Link} {tag : Byte} {r : Request} {p : Part} (ha : arrive.admitted r = true)
    (hm : linkMay l r = true) (hf : p.free l) (hp : passRefusal l r p = none) :
    arrive l tag r p = passToOwner l ⟨tag, r⟩ p := by
  obtain ⟨h1, h2, h3, h4⟩ := hf
  simp [arrive, h1, ha, hm, takeRequest, h2, h3, h4, pass, hp, Config.waitingMax]

/-- A request that a link takes at once: its command answers the part its owner and the answer leave (R185). -/
theorem request_taken {s : State} {l : Link} {tag : Byte} {r : Request} (h : s.taken l r) :
    request l tag r s = .next { s with part := passToOwner l ⟨tag, r⟩ s.found } := by
  obtain ⟨ho, ha, hm, hf, hp⟩ := h
  have := arrive_taken (tag := tag) ha hm hf hp
  simp only [request, linkEvent, State.onPart, whileOn_of_on ho]
  exact congrArg _ (congrArg _ this)

/-- A request answered at once (R185). -/
theorem passToOwner_answered {l : Link} {w : WaitReq} {p q : Part} {code : AnswerCode} {content : List Byte}
    (h : handle l w.tag w.req (passedPart l w p) = (q, some (code, content))) :
    passToOwner l w p =
      refreshAfter w.req p (afterAnswer w.req (setUnder l none (answer l w.tag w.req code content q))) := by
  unfold passedPart at h
  simp [passToOwner, h]

/-- A request whose answer waits for a write (R185). -/
theorem passToOwner_waits {l : Link} {w : WaitReq} {p q : Part}
    (h : handle l w.tag w.req (passedPart l w p) = (q, none)) : passToOwner l w p = refreshAfter w.req p q := by
  unfold passedPart at h
  simp [passToOwner, h]

/-- What an event's command answers while the part has power. -/
theorem event_on {f : Part → Part} {s : State} (h : s.part.on = true) :
    event f s = .next { s with part := endEvent s.found (f s.found) } := by
  simp [event, State.onPart, whileOn_of_on h, atPart, State.found]

/-- What a step of the part's own answers while the part has power. -/
theorem ownStep_on {f : Part → Part} {s : State} (h : s.part.on = true) :
    ownStep f s = .next { s with part := endEvent s.part (f s.part) } := by
  simp [ownStep, State.onPart, whileOn_of_on h]

/-- What a command that brings bytes answers while the part has power. -/
theorem linkEvent_on {f : Part → Part} {s : State} (h : s.part.on = true) :
    linkEvent f s = .next { s with part := f s.found } := by
  simp [linkEvent, State.onPart, whileOn_of_on h, State.found]

end Sys2Proof.Machine
end

