-- ==== Sys2Proof/Laws/PerInstr.lean ====
section
/-! SUPPORT. Per command: a request that is well formed reads back from the body its link carries. -/

namespace Sys2Proof.Laws.Form

open Sys2Proof.Machine

/-- A well-formed request is read from its kind byte and its body as its link lays them out, with every operand as it was
(R203, R206); nothing is said of a command that is no request. -/
def Statement (c : Instr) : Prop :=
  c.wf = true → ∀ l tag r, asRequest c = some (l, tag, r) → requestOf l r.kindByte (requestBody l r) = some r

/-- The statement of a command that is a request. -/
theorem of_request {c : Instr} {l : Link} {tag : Byte} {r : Request} (e : asRequest c = some (l, tag, r))
    (h : c.wf = true → requestOf l r.kindByte (requestBody l r) = some r) : Statement c := by
  intro w l' tag' r' e'
  rw [e] at e'
  cases e'
  exact h w

/-- The statement of a command that is no request. -/
theorem of_other {c : Instr} (e : asRequest c = none) : Statement c := by
  intro _ l tag r e'
  rw [e] at e'
  cases e'

theorem powerUp (lines : Lines) (bad : List Item) : Statement (.powerUp lines bad) := of_other rfl

theorem restartSequenceBegin (bad : List Item) : Statement (.restartSequenceBegin bad) := of_other rfl

theorem frameReceive (l : Link) (kind tag : Byte) (body : List Byte) (check : Half) : Statement (.frameReceive l kind tag body check) :=
    of_other rfl

theorem gapTimerExpiry (l : Link) : Statement (.gapTimerExpiry l) := of_other rfl

theorem messageLeft (l : Link) : Statement (.messageLeft l) := of_other rfl

theorem measurement (body : List Byte) : Statement (.measurement body) := of_other rfl

theorem contactChange (x : Pole) (aClosed bClosed coilOpen : Bool) : Statement (.contactChange x aClosed bClosed coilOpen) :=
    of_other rfl

theorem supplySenseChange (present : Bool) : Statement (.supplySenseChange present) := of_other rfl

theorem trip (l : Link) (tag poles flags : Byte) (crew : Option Half) : Statement (.trip l tag poles flags crew) := by
  apply of_request rfl
  intro h
  cases crew with
  | none => rfl
  | some c =>
    have hl : l = .CREW := by simpa [Instr.wf] using h
    subst hl
    simp [Request.kindByte, requestBody, requestOf, tripBody, two, half_two]

theorem close (l : Link) (tag poles : Byte) (crew : Half) : Statement (.close l tag poles crew) := by
  apply of_request rfl
  intro h
  cases l with
  | CREW => simp [Request.kindByte, requestBody, requestOf, closeBody, two, half_two]
  | RADIO | PROTECTION => simp_all [Request.kindByte, requestBody, requestOf, closeBody, Instr.wf, crewOperand]

theorem closeCancel (l : Link) (tag : Byte) : Statement (.closeCancel l tag) := of_request rfl fun _ => rfl

theorem clearMechFault (l : Link) (tag : Byte) (crew : Half) (poles : Byte) : Statement (.clearMechFault l tag crew poles) :=
    by
  apply of_request rfl
  intro _
  simp [Request.kindByte, requestBody, requestOf, two, half_two]

theorem resetWear (l : Link) (tag : Byte) (crew : Half) (poles : Byte) : Statement (.resetWear l tag crew poles) := by
  apply of_request rfl
  intro _
  simp [Request.kindByte, requestBody, requestOf, two, half_two]

theorem historyRead (l : Link) (tag position : Byte) : Statement (.historyRead l tag position) :=
    of_request rfl fun _ => rfl

theorem tagApply (l : Link) (tag kind poles : Byte) (crew : Half) (note : List Byte) : Statement (.tagApply l tag kind poles crew note) :=
    by
  apply of_request rfl
  intro h
  have hn : note.length ≤ 16 := by simpa [Instr.wf] using h
  have hb : (byte note.length).toNat = note.length := by simp only [byte, BitVec.toNat_ofNat]; omega
  simp [Request.kindByte, requestBody, requestOf, tagApplyBody, two, textBytes, half_two, hb, hn]

theorem tagRemove (l : Link) (tag number : Byte) (crew : Half) : Statement (.tagRemove l tag number crew) := by
  apply of_request rfl
  intro h
  cases l with
  | CREW => simp [Request.kindByte, requestBody, requestOf, tagRemoveBody, two, half_two]
  | RADIO | PROTECTION => simp_all [Request.kindByte, requestBody, requestOf, tagRemoveBody, Instr.wf, crewOperand]

theorem rosterPut (l : Link) (tag : Byte) (crew : Half) (rights presence : Byte) (validUntil : Long) : Statement (.rosterPut l tag crew rights presence validUntil) :=
    by
  apply of_request rfl
  intro _
  simp [Request.kindByte, requestBody, requestOf, two, four, half_two, long_four]

theorem rosterDrop (l : Link) (tag : Byte) (crew : Half) : Statement (.rosterDrop l tag crew) := by
  apply of_request rfl
  intro _
  simp [Request.kindByte, requestBody, requestOf, two, half_two]

theorem editBegin (l : Link) (tag target : Byte) : Statement (.editBegin l tag target) := of_request rfl fun _ => rfl

theorem editPut (l : Link) (tag : Byte) (body : List Byte) : Statement (.editPut l tag body) := by
  apply of_request rfl
  intro h
  simp_all [Request.kindByte, requestBody, requestOf, within, Instr.wf]

theorem editCommit (l : Link) (tag : Byte) : Statement (.editCommit l tag) := of_request rfl fun _ => rfl

theorem editDrop (l : Link) (tag : Byte) : Statement (.editDrop l tag) := of_request rfl fun _ => rfl

theorem readPending (l : Link) (tag : Byte) : Statement (.readPending l tag) := of_request rfl fun _ => rfl

theorem selectGroup (l : Link) (tag group : Byte) : Statement (.selectGroup l tag group) := of_request rfl fun _ => rfl

theorem temporaryGroup (l : Link) (tag group : Byte) (seconds : Long) : Statement (.temporaryGroup l tag group seconds) :=
    by
  apply of_request rfl
  intro _
  simp [Request.kindByte, requestBody, requestOf, four, long_four]

theorem temporaryCancel (l : Link) (tag : Byte) : Statement (.temporaryCancel l tag) := of_request rfl fun _ => rfl

theorem batteryTest (l : Link) (tag : Byte) : Statement (.batteryTest l tag) := of_request rfl fun _ => rfl

theorem permitGrant (l : Link) (tag n : Byte) : Statement (.permitGrant l tag n) := of_request rfl fun _ => rfl

theorem queuePoll (l : Link) (tag : Byte) : Statement (.queuePoll l tag) := of_request rfl fun _ => rfl

theorem setTime (l : Link) (tag : Byte) (seconds : Long) (millis : Half) : Statement (.setTime l tag seconds millis) :=
    by
  apply of_request rfl
  intro _
  simp [Request.kindByte, requestBody, requestOf, two, four, half_two, long_four]

theorem restart (l : Link) (tag : Byte) (crew : Half) : Statement (.restart l tag crew) := by
  apply of_request rfl
  intro h
  cases l with
  | CREW => simp [Request.kindByte, requestBody, requestOf, restartBody, two, half_two]
  | RADIO | PROTECTION => simp_all [Request.kindByte, requestBody, requestOf, restartBody, Instr.wf, crewOperand]

theorem readPoles (l : Link) (tag : Byte) : Statement (.readPoles l tag) := of_request rfl fun _ => rfl

theorem readSequence (l : Link) (tag part : Byte) : Statement (.readSequence l tag part) := of_request rfl fun _ => rfl

theorem readTags (l : Link) (tag start : Byte) : Statement (.readTags l tag start) := of_request rfl fun _ => rfl

theorem readRoster (l : Link) (tag start : Byte) : Statement (.readRoster l tag start) := of_request rfl fun _ => rfl

theorem readGroup (l : Link) (tag group : Byte) : Statement (.readGroup l tag group) := of_request rfl fun _ => rfl

theorem readUnit (l : Link) (tag : Byte) : Statement (.readUnit l tag) := of_request rfl fun _ => rfl

theorem readOverrides (l : Link) (tag : Byte) : Statement (.readOverrides l tag) := of_request rfl fun _ => rfl

theorem readReservations (l : Link) (tag : Byte) : Statement (.readReservations l tag) := of_request rfl fun _ => rfl

theorem readBattery (l : Link) (tag : Byte) : Statement (.readBattery l tag) := of_request rfl fun _ => rfl

theorem readTest (l : Link) (tag : Byte) : Statement (.readTest l tag) := of_request rfl fun _ => rfl

theorem readQueue (l : Link) (tag start : Byte) : Statement (.readQueue l tag start) := of_request rfl fun _ => rfl

theorem readTime (l : Link) (tag : Byte) : Statement (.readTime l tag) := of_request rfl fun _ => rfl

theorem tripFire : Statement .tripFire := of_other rfl

theorem closeStart : Statement .closeStart := of_other rfl

theorem tripWindowExpiry : Statement .tripWindowExpiry := of_other rfl

theorem retryFire : Statement .retryFire := of_other rfl

theorem retryWindowExpiry : Statement .retryWindowExpiry := of_other rfl

theorem closeWindowExpiry : Statement .closeWindowExpiry := of_other rfl

theorem closeDelayExpiry : Statement .closeDelayExpiry := of_other rfl

theorem lossTimerExpiry : Statement .lossTimerExpiry := of_other rfl

theorem deadTimerExpiry (x : Pole) : Statement (.deadTimerExpiry x) := of_other rfl

theorem reclaimTimerExpiry (x : Pole) : Statement (.reclaimTimerExpiry x) := of_other rfl

theorem energyWaitLimit (x : Pole) : Statement (.energyWaitLimit x) := of_other rfl

theorem openCountTick (x : Pole) : Statement (.openCountTick x) := of_other rfl

theorem claimTimerExpiry : Statement .claimTimerExpiry := of_other rfl

theorem coldLoadExpiry : Statement .coldLoadExpiry := of_other rfl

theorem temporaryExpiry : Statement .temporaryExpiry := of_other rfl

theorem rosterExpiry (crew : Half) : Statement (.rosterExpiry crew) := of_other rfl

theorem taperResync : Statement .taperResync := of_other rfl

theorem socPeriodicWrite : Statement .socPeriodicWrite := of_other rfl

theorem absorbTaperExpiry : Statement .absorbTaperExpiry := of_other rfl

theorem absorbTimeExpiry : Statement .absorbTimeExpiry := of_other rfl

theorem floatLowExpiry : Statement .floatLowExpiry := of_other rfl

theorem testStepComplete : Statement .testStepComplete := of_other rfl

theorem testSuspendLimit : Statement .testSuspendLimit := of_other rfl

theorem testResume : Statement .testResume := of_other rfl

theorem testIntervalHour : Statement .testIntervalHour := of_other rfl

theorem periodicTestBegin : Statement .periodicTestBegin := of_other rfl

theorem exhaustionWaitExpiry : Statement .exhaustionWaitExpiry := of_other rfl

theorem dormantEntry : Statement .dormantEntry := of_other rfl

theorem permitCallRepeatExpiry : Statement .permitCallRepeatExpiry := of_other rfl

theorem statusIntervalExpiry : Statement .statusIntervalExpiry := of_other rfl

theorem reportSend : Statement .reportSend := of_other rfl

theorem retainedWriteEnd (item : Item) (ok : Bool) : Statement (.retainedWriteEnd item ok) := of_other rfl

theorem heldSettingsApply : Statement .heldSettingsApply := of_other rfl

theorem byteReceive (l : Link) (b : Byte) : Statement (.byteReceive l b) := of_other rfl

theorem powerLoss : Statement .powerLoss := of_other rfl

end Sys2Proof.Laws.Form
end

