-- ==== Sys2Proof/Tests/Slice0.lean ====
section
/-! SUPPORT. Small checks on fixed values: the ill-formed commands that WellFormed refuses, worked values of the manual, and for
every statement with hypotheses a state and operands that meet them together. -/

set_option Elab.async false

namespace Sys2Proof.Tests

open Sys2Proof.Machine

/-! ### States -/

/-- Measured values of a quiet line with a good bank. -/
def quiet : Values := ⟨10, ⟨150, 160, 170⟩, 0, 90, 13400, 100, 20⟩

/-- The body of the measurement message with those values (R206). -/
def quietBody : List Byte := [10, 150, 0, 160, 0, 170, 0, 0, 0, 90, 88, 52, 100, 0, 20]

/-- A part in RUN with measurement OK, one crew of every right, and nothing pending, queued or being written. -/
def ready : Part :=
  let p := State.reset.part
  { p with
    eu := { p.eu with state := .OK, lossTimer := some 60, latest := some ⟨quiet, p.tb⟩ }
    sq := { p.sq with meas := .OK }
    nu := { p.nu with level := some 90, fresh := true }
    tu := { p.tu with roster := [⟨41, ⟨true, true, true⟩, none, true⟩] }
    bc := { p.bc with vals := some ⟨13400, 100, 20, 10⟩ }
    ru := { p.ru with queue := [], called := false, callTimer := none }
    li := ⟨startLink, startLink, startLink⟩
    rs := p.rs.mapItems fun _ w => idleWrite false w.stored }

/-- The same part with every pole OPEN and locked out. -/
def opened : Part :=
  { ready with
    dc := { ready.dc with poles := .const (startPole false true 0 0) }
    sq := { ready.sq with recs := .const (startSeqRec .OPEN (some .SHOTS)) }
    nu := { ready.nu with tripReserve := 0 } }

/-- A part as a state with no command waiting. -/
def at' (p : Part) : State := ⟨[], p⟩

/-- The part after a command. -/
def after (c : Instr) (p : Part) : Part :=
  match exec c (at' p) with
  | .next t => t.part
  | _ => p

/-- A part with a link's record changed. -/
def withLink (l : Link) (f : LinkRec → LinkRec) (p : Part) : Part := { p with li := p.li.set l (f (p.li.get l)) }

/-- A part with the write of an item in progress. -/
def writing (i : Item) (p : Part) : Part := { p with rs := p.rs.set i ((p.rs.get i).hand (imageOf p i)) }

/-- A part with the records of the poles of the sequence changed. -/
def withSeq (f : SeqRec → SeqRec) (p : Part) : Part := mapSeq .full (fun _ r => f r) p

/-- A part with a trip of all poles pending. -/
def pendingTrip : Part := after (.trip .RADIO 7 7 0 none) ready

/-- A part with that trip in flight. -/
def tripping : Part := after .tripFire pendingTrip

/-- A part with the operation in flight in a phase, and pole A moved. -/
def inPhase (ph : FlightPhase) (p : Part) : Part :=
  { p with dc := { p.dc with flight := p.dc.flight.map fun f => { f with phase := ph, moved := .single .A } } }

/-- A part with a crew close of A and B waiting out its delay. -/
def delayed : Part := after (.close .CREW 7 3 41) opened

/-- A part with that close PENDING. -/
def closing : Part := after .closeDelayExpiry delayed

/-- A part that has lost its battery tests' causes and runs a test from the crew link. -/
def testing : Part := after (.batteryTest .CREW 5) ready

/-- A claim of the radio link on a group. -/
def editing (n : Nat) : Part := { ready with pu := { ready.pu with claim := some ⟨.RADIO, .group n defaultGroup, .EDITING 9⟩ } }

/-- The same claim with its commit held. -/
def held (n : Nat) : Part :=
  { ready with
    pu := { ready.pu with claim := some ⟨.RADIO, .group n defaultGroup, .COMMIT_WAIT 3⟩ }
    dc := (after (.close .RADIO 7 3 0) opened).dc
    sq := { ready.sq with quiescent := false } }

/-- A part with one tag of a kind on all poles, applied from a link. -/
def tagged (k : TagKind) (byCrew : Bool) (p : Part) : Part :=
  { p with tu := { p.tu with tags := [⟨5, k, .full, 41, byCrew, ⟨0, 0, false⟩, []⟩] } }

/-- A report record of a kind. -/
def record (k : ReportKind) : Report := ⟨0, k, none, ⟨0, 0, false⟩, ⟨0, 0, false⟩, 1, false, []⟩

/-- A part with records in its report queue and permits. -/
def queued (rs : List Report) (permits : Nat) : Part :=
  { ready with ru := { ready.ru with queue := rs, permits := permits, called := true, callTimer := some 9 } }

/-! ### Well-formed commands -/

theorem test_wf_powerUp : (Instr.powerUp resetLines [.UNIT, .UNIT]).wf = false := by decide

theorem test_wf_restartSequenceBegin : (Instr.restartSequenceBegin [.UNIT, .UNIT]).wf = false := by decide

theorem test_wf_frameReceive : (Instr.frameReceive .CREW 0x12 1 (List.replicate 97 0) 0).wf = false := by decide

theorem test_wf_measurement : (Instr.measurement (List.replicate 97 0)).wf = false := by decide

theorem test_wf_trip : (Instr.trip .RADIO 1 7 0 (some 41)).wf = false := by decide

theorem test_wf_close : (Instr.close .RADIO 1 7 41).wf = false := by decide

theorem test_wf_tagApply : (Instr.tagApply .CREW 1 1 7 41 (List.replicate 17 0x41)).wf = false := by decide

theorem test_wf_tagRemove : (Instr.tagRemove .RADIO 1 1 41).wf = false := by decide

theorem test_wf_editPut_short : (Instr.editPut .RADIO 1 [7]).wf = false := by decide

theorem test_wf_editPut_long : (Instr.editPut .RADIO 1 (List.replicate 97 0)).wf = false := by decide

theorem test_wf_restart : (Instr.restart .RADIO 1 41).wf = false := by decide

/-! ### Worked values -/

/-- The check of R204 over the nine digits. -/
theorem test_check_digits : crc [0x31, 0x32, 0x33, 0x34, 0x35, 0x36, 0x37, 0x38, 0x39] = 0x29B1 := by decide +kernel

/-- Chapter 2, first example: a rise of 125 at a multiple of 25 with 800 ms. -/
theorem test_accumulator_example :
    advance { defaultGroup with fast := defaultCurve [3000, 1500, 800, 400, 200, 100, 60, 40] } .FAST 0 1000 400 10 =
      125 := by decide +kernel

/-- Chapter 2: a measurement body reads as its values. -/
theorem test_measurement_body : readMeasurement quietBody = some quiet := by decide +kernel

/-- A trip of A and C from the radio link takes both, and is answered STARTED. -/
theorem test_trip_answer : (after (.trip .RADIO 7 5 0 none) ready).li.radio.outbound = [.answer 0x90 7 .STARTED []] ∧
    (after (.trip .RADIO 7 5 0 none) ready).dc.pendingPoles = ⟨true, false, true⟩ := by decide +kernel

/-- Chapter 6, second example: a close of two poles needs 44 BU. -/
theorem test_acceptance_example :
    Part.closeFits { opened with nu := { opened.nu with level := some 44 } } ⟨true, true, false⟩ = true ∧
      Part.closeFits { opened with nu := { opened.nu with level := some 43 } } ⟨true, true, false⟩ = false := by
  decide +kernel

/-- Chapter 7: a charge that passes below a whole mAh is rounded toward minus infinity. -/
theorem test_charge_rounds_down : countCharge 100 0 20000 (-1) = (99, 3599999) := by decide +kernel

/-- Chapter 5: the tag number after 255 is 1, past a number held. -/
theorem test_tag_numbers_wrap : freeTag [⟨1, .CLEARANCE, .full, 41, true, ⟨0, 0, false⟩, []⟩] 255 255 = 2 := by
  decide +kernel

/-- A retained item handed twice while it is written is written once more. -/
theorem test_dirty : ((retain .UNIT (retain .UNIT (writing .UNIT ready))).rs.unit.dirty) = true := by decide +kernel

/-- The clock passes from its last moment to 0 and stays SET (R201). -/
theorem test_clock_wraps : Stamp.tick ⟨4294967295, 999, true⟩ = ⟨0, 0, true⟩ := by decide

/-! ### Hypotheses that are met -/

/-- Whether a link is free in a part as a command finds it. -/
def frees (l : Link) (p : Part) : Bool :=
  let r := (at' p).found.li.get l
  r.powered && r.under.isNone && r.waiting.isEmpty && (at' p).found.restart.isNone

/-- Whether a request reaches its owner at once. -/
def takes (l : Link) (r : Request) (p : Part) : Bool :=
  p.on && arrive.admitted r && linkMay l r && frees l p && (passRefusal l r (at' p).found).isNone

theorem free_of_frees {l : Link} {p : Part} (h : frees l p = true) : (at' p).found.free l := by
  simpa [frees, Part.free, and_assoc] using h

theorem taken_of_takes {l : Link} {r : Request} {p : Part} (h : takes l r p = true) : (at' p).taken l r := by
  simp only [takes, Bool.and_eq_true, Option.isNone_iff_eq_none] at h
  exact ⟨h.1.1.1.1, h.1.1.1.2, h.1.1.2, free_of_frees h.1.2, h.2⟩

theorem test_met_StepRunsFrontCommand :
    (State.mk [.readTime .CREW 1, .closeCancel .CREW 2] ready).pending = .readTime .CREW 1 :: [.closeCancel .CREW 2] := rfl

theorem test_met_StepWithoutCommand :
    newPart.on = false ∧ (at' newPart).pending = [] ∧ (pendingTrip.on = true ∧ (nextInternal pendingTrip).isSome = true) ∧
      ready.on = true ∧ nextInternal ready = none := by
  decide +kernel

theorem test_met_EveryCommandAnswers :
    (at' newPart).part.on = false ∧ ∀ lines bad, Instr.closeCancel .CREW 1 ≠ .powerUp lines bad := ⟨rfl, nofun⟩

theorem test_met_PowerLossKeepsImages :
    (writing .WEAR ready).on = true ∧
      ((at' (writing .WEAR ready)).found.rs.get .WEAR).writing = some (imageOf ready .WEAR) := by
  decide +kernel

theorem test_met_RestartKeepsTimeAndHistory :
    (after (.restart .RADIO 4 0) ready).on = true ∧
      (after (.messageLeft .RADIO) (after (.restart .RADIO 4 0) ready)).restartDue = true ∧
      (Instr.restartSequenceBegin [.UNIT]).wf = true ∧ Item.UNIT ∈ [Item.UNIT] ∧ Item.UNIT ∉ [Item.TAGS] := by
  decide +kernel

theorem test_met_RestartIsTaken :
    ((at' ready).taken .CREW (.restart 41) ∧ restartRefusal .CREW 41 (at' ready).found = none) ∧
      ((at' ready).taken .CREW (.restart 40) ∧ restartRefusal .CREW 40 (at' ready).found = some .UNKNOWN_CREW) ∧
      ((at' delayed).taken .RADIO (.restart 0) ∧ restartRefusal .RADIO 0 (at' delayed).found = none ∧
        (LinkClose.poles (at' delayed).found.dc.crew).isEmpty = false) := 
  ⟨⟨taken_of_takes (by decide +kernel), by decide +kernel⟩, ⟨taken_of_takes (by decide +kernel), by decide +kernel⟩,
    taken_of_takes (by decide +kernel), by decide +kernel⟩

theorem test_met_FramesAreSorted :
    (at' ready).part.on = true ∧ ((at' ready).found.li.get .RADIO).powered = true ∧ (0 : Half) ≠ frameCheck 1 1 [] ∧
      (List.replicate 96 (0 : Byte)).length ≤ 96 ∧ isRequestKind 2 = false ∧
      (isRequestKind 0x10 = true ∧ requestOf .RADIO 0x10 [] = none) ∧
      (isRequestKind 0x45 = true ∧ requestOf .RADIO 0x45 [13, 0] = some (.read 13 0) ∧ readItemKnown 13 = false ∧
        readItemKnown 12 = true) ∧
      (requestOf .PROTECTION 0x11 [1] = some (.close 1 0) ∧ linkMay .PROTECTION (.close 1 0) = false ∧
        linkMay .RADIO (.close 1 0) = true) ∧
      (let p := withLink .RADIO (fun r => r.unpowered) ready;
        p.on = true ∧ ((at' p).found.li.get .RADIO).powered = false) := by
  decide +kernel

theorem test_met_BytesCollectToFrame :
    (ready.li.get .CREW).powered = true ∧ (ready.li.get .CREW).phase = .HUNTING ∧
      (List.replicate 96 (0 : Byte)).length ≤ 96 := by
  decide +kernel

theorem test_met_RequestFramesReadBack :
    (Instr.tagApply .CREW 9 2 1 41 [0x41]).wf = true ∧
      asRequest (.tagApply .CREW 9 2 1 41 [0x41]) = some (.CREW, 9, .tagApply 2 1 41 [0x41]) ∧
      (ready.li.get .CREW).powered = true ∧ (ready.li.get .CREW).phase = .HUNTING ∧ (ready.li.get .CREW).frame = [] ∧
      (ready.li.get .CREW).gap = none := by
  decide +kernel

theorem test_met_HuntingAndGap :
    ready.on = true ∧ ((at' ready).found.li.get .CREW).phase = .HUNTING ∧ ((at' ready).found.li.get .CREW).powered = true ∧
      (0xC2 : Byte) ≠ 0xC3 ∧ ((at' ready).found.li.get .CREW).gap = none ∧
      ((at' (after (.byteReceive .CREW 0xC3) ready)).found.li.get .CREW).gap = some 5 ∧
      (let p := withLink .RADIO (fun r => r.unpowered) ready;
        p.on = true ∧ ((at' p).found.li.get .RADIO).powered = false) ∧
      (let p := after (.byteReceive .CREW 7) (after (.byteReceive .CREW 0x20) (after (.byteReceive .CREW 0xC3) ready));
        p.on = true ∧ ((at' p).found.li.get .CREW).powered = true ∧ ((at' p).found.li.get .CREW).phase = .IN_FRAME ∧
          ((at' p).found.li.get .CREW).frame = [0x20, 7] ∧ 96 < (97 : Byte).toNat) := by
  decide +kernel

theorem test_met_MessageLeavesInOrder :
    pendingTrip.on = true ∧ ((at' pendingTrip).found.li.get .RADIO).outbound = .answer 0x90 7 .STARTED [] :: [] ∧
      (let p := withLink .RADIO (fun r => { r with outbound := [.report (record .LOCKOUT)] }) ready;
        ((at' p).found.li.get .RADIO).outbound = .report (record .LOCKOUT) :: []) := by
  decide +kernel

/-- A part whose radio link works on a request, with waiting requests. -/
def atWork (n : Nat) : Part :=
  withLink .RADIO (fun r => { r with under := some ⟨0x22, 1⟩, waiting := List.replicate n ⟨2, .queuePoll⟩ }) ready

theorem test_met_RequestsAreTakenInOrder :
    asRequest (.queuePoll .RADIO 2) = some (.RADIO, 2, .queuePoll) ∧ arrive.admitted .queuePoll = true ∧
      ((at' ready).found.li.get .PROTECTION).powered = true ∧ linkMay .PROTECTION .queuePoll = false ∧
      linkMay .RADIO .queuePoll = true ∧ ((at' (atWork 3)).found.li.get .RADIO).waiting.length = 3 ∧
      ((at' (atWork 2)).found.li.get .RADIO).waiting.length = 2 ∧ ((at' (atWork 2)).found.li.get .RADIO).under.isSome = true ∧
      frees .RADIO ready = true ∧ passRefusal .RADIO .queuePoll (at' ready).found = none := by
  decide +kernel

theorem test_busy_read : (after (.readSequence .RADIO 2 1) (atWork 3)).li.radio.outbound = [.answer 0xC5 2 .BUSY [2, 1]] := by
  decide +kernel

/-- The part in DORMANT. -/
def dormant : Part :=
  { ready with
    bc := { ready.bc with partState := .DORMANT, supply := false, level := .EXHAUSTED }
    eu := { ready.eu with state := .WAITING }
    sq := { ready.sq with meas := .WAITING } }

theorem test_met_RestrictionsAtPassing :
    (frees .CREW dormant = true ∧ dormant.on = true ∧ (at' dormant).found.bc.partState = .DORMANT ∧ linkMay .CREW .closeCancel = true) ∧
      (let p := tagged .LOCAL_CONTROL true ready;
        frees .RADIO p = true ∧ (at' p).found.tu.tags.any (fun g => g.kind == .LOCAL_CONTROL) = true ∧
          underLocalControl (.restart 0) = false ∧ linkMay .RADIO (.restart 0) = true) := by
  decide +kernel

theorem test_met_ReadsAnswer :
    ready.on = true ∧ frees .CREW ready = true ∧ (readSequenceContent 1 (at' ready).found).isSome = true ∧
      (readTagsContent 7 (at' ready).found).isSome = true ∧ (readRosterContent 15 (at' ready).found).isSome = true ∧
      (readQueueContent 31 (at' ready).found).isSome = true ∧ 1 < (2 : Byte).toNat ∧ 7 < (8 : Byte).toNat ∧
      15 < (16 : Byte).toNat ∧ 31 < (32 : Byte).toNat ∧ 1 ≤ (4 : Byte).toNat ∧ (4 : Byte).toNat ≤ 4 ∧ 4 < (5 : Byte).toNat := by
  decide +kernel

theorem test_met_TagRecordLayout :
    (List.replicate 16 (0x41 : Byte)).length ≤ 16 ∧ (readTagsContent 7 ready).isSome = true := by
  decide +kernel

theorem test_met_HistoryAndPendingAnswer :
    frees .RADIO ready = true ∧ (15 : Byte).toNat ≤ 15 ∧ 15 < (16 : Byte).toNat ∧
      passRefusal .RADIO .readPending (at' ready).found = none ∧ (at' ready).found.pu.claim = none ∧
      (frees .RADIO (editing 2) = true ∧ passRefusal .RADIO .readPending (at' (editing 2)).found = none ∧
        (loadClaimTimer .RADIO (at' (editing 2)).found).pu.claim = some ⟨.RADIO, .group 2 defaultGroup, .EDITING 300000⟩) := by
  decide +kernel

theorem test_met_QueuePollAnswers :
    frees .RADIO ready = true ∧ (at' ready).found.ru.queue = [] ∧
      (let p := queued [record .SNAPSHOT, record .LOCKOUT] 0;
        frees .RADIO p = true ∧ (at' p).found.ru.queue.all ((at' p).found.ru.sendable ·) = true) := by
  decide +kernel

theorem test_met_LinkTripMerges :
    (at' ready).taken .RADIO (.trip 5 0 none) ∧
      (at' ready).taken .CREW (.trip 0 0 (some 41)) ∧
      (at' opened).taken .PROTECTION (.trip 7 0 none) ∧
      (at' delayed).taken .RADIO (.trip 7 0 none) ∧
      PoleSet.ofByteNonempty 5 = some ⟨true, false, true⟩ ∧ PoleSet.ofByteNonempty 0 = none ∧
      (at' ready).found.bc.partState = .RUN ∧ (at' ready).found.position .A ≠ .OPEN ∧
      (at' ready).found.dc.tripping.has .A = false ∧ (at' opened).found.position .A = .OPEN ∧
      (at' opened).found.dc.flight = none ∧
      (LinkClose.poles (at' delayed).found.dc.crew).overlaps .full = true :=
  ⟨taken_of_takes (by decide +kernel),
    taken_of_takes (by decide +kernel),
    taken_of_takes (by decide +kernel),
    taken_of_takes (by decide +kernel),
    by decide +kernel⟩

/-- A part whose poles stand OPEN in DEAD with a running timer. -/
def dead : Part := withSeq (fun r => { r with state := .DEAD, deadTimer := some 1, lockout := none }) opened

/-- The same poles as one gang. -/
def deadGang : Part := withSeq (fun r => { r with ganged := true }) dead

theorem test_met_TripAtFreeDrive_dead :
    (at' dead).taken .PROTECTION (.trip 1 1 none) ∧ (at' deadGang).taken .PROTECTION (.trip 7 1 none) ∧
      (at' dead).found.bc.partState = .RUN ∧ PoleSet.ofByteNonempty 7 = some .full ∧ (at' deadGang).found.dc.flight = none ∧
      ((at' dead).found.seq .A).state = .DEAD ∧ ((at' deadGang).found.seq .C).state = .DEAD ∧
      ((at' deadGang).found.seq .C).deadTimer.isSome = true ∧ ((at' deadGang).found.seq .C).ganged = true :=
  ⟨taken_of_takes (by decide +kernel),
    taken_of_takes (by decide +kernel),
    by decide +kernel⟩

theorem test_met_TripAtFreeDrive :
    (at' ready).taken .PROTECTION (.trip 1 1 none) ∧
      (at' ready).taken .PROTECTION (.trip 1 0 none) ∧
      PoleSet.ofByteNonempty 1 = some (.single .A) ∧ (at' ready).found.bc.partState = .RUN ∧
      (at' ready).found.dc.flight = none ∧ (at' ready).found.dc.trip = none ∧
      ((PoleSet.single .A).inter (at' ready).found.notOpen).isEmpty = false ∧
      ((at' ready).found.seq .A).state = .CLOSED_IDLE ∧
      ((at' (withSeq SeqRec.toTiming ready)).found.seq .A).state = .TIMING ∧
      ((at' (withSeq (SeqRec.toReclaim · (.running 9)) ready)).found.seq .A).state = .RECLAIM :=
  ⟨taken_of_takes (by decide +kernel),
    taken_of_takes (by decide +kernel),
    by decide +kernel⟩

theorem test_met_CloseIsTaken :
    (at' opened).taken .CREW (.close 3 41) ∧
      (at' opened).taken .RADIO (.close 3 0) ∧
      PoleSet.ofByteNonempty 3 = some ⟨true, true, false⟩ ∧
      (at' opened).found.tu.crewRefusal (41 : Half).toNat .LOCAL_OPERATE = none ∧
      linkHasClose .CREW (at' opened).found.dc = false ∧
      linkHasClose .RADIO (at' opened).found.dc = false ∧
      ((PoleSet.mk true true false).diff (at' opened).found.showsClosed).isEmpty = false ∧
      ((PoleSet.mk true true false).diff (at' (mapPoles (.single .A) (fun _ r => { r with aClosed := true, bClosed := false })
        opened)).found.showsClosed) = .single .B ∧
      closeRefusal ((PoleSet.mk true true false).diff (at' opened).found.showsClosed) (at' opened).found = none :=
  ⟨taken_of_takes (by decide +kernel),
    taken_of_takes (by decide +kernel),
    by decide +kernel⟩

/-- The opened part with HANDLE set on pole A. -/
def handled : Part := mapPoles (.single .A) (fun _ r => { r with handle := true }) opened

/-- The opened part with a bank level that covers no close. -/
def drained : Part := { opened with nu := { opened.nu with level := some 21 } }

theorem test_met_CloseIsRefused :
    (at' opened).taken .CREW (.close 0 41) ∧
      (at' opened).taken .CREW (.close 1 99) ∧
      (at' delayed).taken .CREW (.close 1 41) ∧
      (at' ready).taken .RADIO (.close 1 0) ∧
      (at' handled).taken .RADIO (.close 1 0) ∧
      (at' delayed).taken .RADIO (.close 1 0) ∧
      (at' (tagged .CLEARANCE true opened)).taken .RADIO (.close 1 0) ∧
      (at' drained).taken .RADIO (.close 1 0) ∧
      PoleSet.ofByteNonempty 0 = none ∧ PoleSet.ofByteNonempty 1 = some (.single .A) ∧
      (at' opened).found.tu.crewRefusal (99 : Half).toNat .LOCAL_OPERATE = some .UNKNOWN_CREW ∧
      linkHasClose .CREW (at' delayed).found.dc = true ∧
      ((PoleSet.single .A).diff (at' ready).found.showsClosed).isEmpty = true ∧
      ((PoleSet.single .A).diff (at' opened).found.showsClosed) = .single .A ∧
      (PoleSet.single .A).any (at' handled).found.closeBad = true ∧
      (PoleSet.single .A).any (at' opened).found.closeBad = false ∧
      (PoleSet.single .A).overlaps ((at' delayed).found.dc.listed.union (at' delayed).found.dc.firing) = true ∧
      (PoleSet.single .A).overlaps ((at' opened).found.dc.listed.union (at' opened).found.dc.firing) = false ∧
      (at' (tagged .CLEARANCE true opened)).found.tu.closeForbidden .A = true ∧
      (at' opened).found.tu.closeForbidden .A = false ∧
      (at' ({ opened with eu := { opened.eu with state := .LOST } })).found.eu.state ≠ .OK ∧
      (at' drained).found.eu.state = .OK ∧ (at' drained).found.closeFits (.single .A) = false :=
  ⟨taken_of_takes (by decide +kernel),
    taken_of_takes (by decide +kernel),
    taken_of_takes (by decide +kernel),
    taken_of_takes (by decide +kernel),
    taken_of_takes (by decide +kernel),
    taken_of_takes (by decide +kernel),
    taken_of_takes (by decide +kernel),
    taken_of_takes (by decide +kernel),
    by decide +kernel⟩

/-- The crew close of `closing` in flight. -/
def crewFlight : Part := after .closeStart closing

theorem test_met_CloseDelayAndCancel :
    (at' delayed).taken .CREW .closeCancel ∧
      (at' crewFlight).taken .CREW .closeCancel ∧
      (at' ready).taken .CREW .closeCancel ∧
      delayed.on = true ∧ ((at' delayed).found.dc.crew.bind fun e => e.delay) = some 10000 ∧
      ((at' delayed).found.dc.crew.map fun e => e.op.requesters) = some [⟨.CREW_LINK, .MANUAL_CLOSE, ⟨true, true, false⟩, some 7⟩] ∧
      (at' crewFlight).found.dc.crew = none ∧ linkHasClose .CREW (at' crewFlight).found.dc = true ∧
      (at' ready).found.dc.crew = none ∧ linkHasClose .CREW (at' ready).found.dc = false :=
  ⟨taken_of_takes (by decide +kernel),
    taken_of_takes (by decide +kernel),
    taken_of_takes (by decide +kernel),
    by decide +kernel⟩

/-- Pole A in travel. -/
def travelling : Part := mapPoles (.single .A) (fun _ r => { r with aClosed := false, bClosed := false }) ready

theorem test_met_ClearMechFaultClears :
    (at' ready).taken .CREW (.clearMechFault 41 1) ∧
      (at' ready).taken .CREW (.clearMechFault 41 0) ∧
      (at' ready).taken .CREW (.clearMechFault 99 1) ∧
      (at' tripping).taken .CREW (.clearMechFault 41 1) ∧
      (at' travelling).taken .CREW (.clearMechFault 41 1) ∧
      PoleSet.ofByteNonempty 0 = none ∧ PoleSet.ofByteNonempty 1 = some (.single .A) ∧
      (at' ready).found.tu.crewRefusal (99 : Half).toNat .SUPERVISE = some .UNKNOWN_CREW ∧
      (at' ready).found.tu.crewRefusal (41 : Half).toNat .SUPERVISE = none ∧
      (PoleSet.single .A).overlaps (at' tripping).found.dc.firing = true ∧
      (PoleSet.single .A).overlaps (at' ready).found.dc.firing = false ∧
      (at' travelling).found.position .A = .UNKNOWN ∧ (at' ready).found.position .A ≠ .UNKNOWN :=
  ⟨taken_of_takes (by decide +kernel),
    taken_of_takes (by decide +kernel),
    taken_of_takes (by decide +kernel),
    taken_of_takes (by decide +kernel),
    taken_of_takes (by decide +kernel),
    by decide +kernel⟩

theorem test_met_ResetWearWaitsForWrite :
    (at' ready).taken .CREW (.resetWear 41 1) ∧
      (at' (writing .WEAR ready)).taken .CREW (.resetWear 41 1) ∧
      PoleSet.ofByteNonempty 1 = some (.single .A) ∧
      (at' ready).found.tu.crewRefusal (41 : Half).toNat .SUPERVISE = none ∧
      (PoleSet.single .A).overlaps (at' ready).found.dc.firing = false ∧
      (at' ready).found.rs.wear.writing = none ∧
      (at' (writing .WEAR ready)).found.rs.wear.writing.isSome = true :=
  ⟨taken_of_takes (by decide +kernel),
    taken_of_takes (by decide +kernel),
    by decide +kernel⟩

/-- The pending trip, after its poles have come to show OPEN. -/
def emptyTrip : Part := { pendingTrip with dc := { pendingTrip.dc with poles := .const (startPole false true 0 0) } }

theorem test_met_TripFires :
    pendingTrip.on = true ∧ pendingTrip.dc.flight = none ∧
      (pendingTrip.dc.trip.map fun t => ((t.op.poles.inter pendingTrip.notOpen).union t.closing).isEmpty) = some false ∧
      emptyTrip.on = true ∧ emptyTrip.dc.flight = none ∧
      (emptyTrip.dc.trip.map fun t => ((t.op.poles.inter emptyTrip.notOpen).union t.closing).isEmpty) = some true ∧
      (emptyTrip.dc.trip.map fun t => t.op.requesters) = some [⟨.RADIO_LINK, .COMMAND, .full, some 7⟩] ∧
      emptyTrip.li.radio.powered = true := by
  decide +kernel

theorem test_met_UnmovedPolesAreRetried :
    tripping.on = true ∧
      ((at' (inPhase .TRIP_WINDOW tripping)).found.dc.flight.map fun f => (f.phase, f.fire.subset (f.moved.union (f.mustLeave.diff (at' (inPhase .TRIP_WINDOW tripping)).found.notOpen)))) = some (.TRIP_WINDOW, false) ∧
      ((at' (inPhase .RETRY_GAP tripping)).found.dc.flight.map fun f => (f.phase, (f.fire.diff f.moved).isEmpty)) = some (.RETRY_GAP, false) := by
  decide +kernel

/-- A part with the operation in flight changed. -/
def withFlight (f : Flight → Flight) (p : Part) : Part := { p with dc := { p.dc with flight := p.dc.flight.map f } }

/-- That trip with pole A the last to move. -/
def lastToTrip : Part := withFlight (fun f => { f with moved := ⟨false, true, true⟩ }) tripping

/-- That trip with pole A a closing pole that showed OPEN at the fire and has left OPEN. -/
def hasLeftOpen : Part := withFlight (fun f => { f with mustLeave := .single .A, hasLeft := .single .A }) lastToTrip

/-- The crew close in flight with pole A the last to move. -/
def lastToClose : Part := withFlight (fun f => { f with moved := .single .B }) crewFlight

/-- A close of A and B that has ended, of which a set has moved. -/
def endedClose (c : OpCause) (moved : PoleSet) : Flight :=
  ⟨⟨0, .CLOSE, ⟨true, true, false⟩, c, [], .IN_FLIGHT, none⟩, .CLOSE_WINDOW, 9, ⟨true, true, false⟩, .empty, moved, .empty,
    .empty, ⟨0, 0, false⟩⟩

/-- A part whose poles wait in CLOSE_WAIT, at an open count at departure. -/
def closeWaits (departure : Nat) : Part :=
  withSeq (fun r => { r with state := .CLOSE_WAIT, lockout := none, departure := departure }) opened

/-- That part as a gang, with pole A in the pickup copy and an entry of pole C. -/
def pickupHeld : Part :=
  let p := withSeq (fun r => { r with ganged := true }) (closeWaits 600)
  { p with sq := { p.sq with pickup := .single .A }, dc := { p.dc with seq := ⟨none, none, some .WAIT_ENERGY⟩ } }

theorem test_met_WindowsEndOperations :
    ((at' (inPhase .RETRY_WINDOW tripping)).found.dc.flight.map fun f => (f.phase, f.fire.diff f.moved)) =
        some (.RETRY_WINDOW, ⟨false, true, true⟩) ∧
      ((at' crewFlight).found.dc.flight.map fun f => (f.phase, f.fire.diff f.moved)) =
        some (.CLOSE_WINDOW, ⟨true, true, false⟩) ∧
      ([lastToTrip, hasLeftOpen].all fun p =>
        decide (((at' p).found.dc.poles.get .A).motion ≠ .NONE) && decide (positionOf false true ≠ (at' p).found.position .A) &&
          decide (((at' p).found.dc.flight.map fun f => (f.op.kind, decide (f.phase = .RETRY_GAP),
            f.fire.subset (f.moved.union (.single .A)), !f.mustLeave.has .A || f.hasLeft.has .A)) =
              some (.TRIP, false, true, true))) = true ∧
      (((at' lastToClose).found.dc.poles.get .A).motion ≠ .NONE ∧ positionOf true false ≠ (at' lastToClose).found.position .A ∧
        positionOf true false = .CLOSED ∧ positionOf false true = .OPEN ∧
        ((at' lastToClose).found.dc.flight.map fun f => (f.op.kind, decide (f.phase = .RETRY_GAP),
          f.fire.subset (f.moved.union (.single .A)))) = some (.CLOSE, false, true)) := by
  decide +kernel

theorem test_met_WindowsEndOperations_close :
    (closeWaits 600).dc.flight = none ∧ (closeWaits 600).bc.partState = .RUN ∧
      (endedClose .RECLOSE (.single .A)).op.kind = .CLOSE ∧ ((closeWaits 600).seq .A).state = .CLOSE_WAIT ∧
      ((closeWaits 600).seq .C).state = .CLOSE_WAIT ∧ (closeWaits 600).position .A = .OPEN ∧ ready.position .A ≠ .OPEN ∧
      (endedClose .RECLOSE (.single .A)).moved.has .B = false ∧
      (endedClose .RECLOSE ⟨true, true, false⟩).moved.has .B = true ∧ pickupHeld.dc.flight = none ∧
      (pickupHeld.dc.seq.get .C).isSome = true ∧ (pickupHeld.seq .C).state = .CLOSE_WAIT ∧ pickupHeld.position .C = .OPEN ∧
      (endedClose .MANUAL_CLOSE (.single .A)).op.cause ≠ .RECLOSE ∧ (opened.seq .B).state = .LOCKOUT ∧
      (closeWaits 600).sq.pickup.has .A = false ∧ ((closeWaits 600).seq .A).ganged = false ∧
      pickupHeld.sq.pickup.has .A = true ∧ (pickupHeld.seq .B).ganged = true ∧ (pickupHeld.seq .A).ganged = true ∧
      opened.pu.unit.coldOpenS = 600 ∧ ¬ (opened.pu.unit.coldOpenS < ((closeWaits 600).seq .A).departure) ∧
      opened.pu.unit.coldOpenS < ((closeWaits 601).seq .A).departure := by
  decide +kernel

/-- A trip of all poles whose pole A has moved from CLOSED. -/
def movedTrip : Flight :=
  ⟨⟨0, .TRIP, .full, .COMMAND, [], .IN_FLIGHT, none⟩, .TRIP_WINDOW, 9, .full, .full, .single .A, .empty, .empty, ⟨0, 0, false⟩⟩

theorem test_met_CountsAndWear :
    movedTrip.op.kind = .TRIP ∧ ((countAndWear movedTrip ready).dc.poles.get .A).wear = 50 ∧
      (ready.dc.poles.get .A).wear = 0 ∧ ((countAndWear movedTrip ready).dc.poles.get .B).wear = 0 ∧
      wearOf (some 999) = 1 ∧ wearOf (some 1000) = 3 ∧ wearOf (some 2999) = 3 ∧ wearOf (some 3000) = 10 ∧
      wearOf (some 5999) = 10 ∧ wearOf (some 6000) = 25 ∧ wearOf (some 9999) = 25 ∧
      wearOf (some 10000) = 50 := by
  decide +kernel

/-- A part with a radio close of A and B PENDING. -/
def closingRadio : Part := after (.close .RADIO 7 3 0) opened

/-- A part whose poles are all in CLOSE_WAIT with their entries PENDING, in a gang or not. -/
def reclosing (ganged : Bool) : Part :=
  let p := withSeq (fun r => { r with ganged := ganged }) (closeWaits 0)
  { p with dc := { p.dc with seq := .const (some .PENDING) }, nu := { p.nu with level := some 90, tripReserve := 24 } }

/-- That part with a bank level. -/
def reclosingAt (n : Nat) : Part :=
  let p := reclosing false
  { p with nu := { p.nu with level := some n, closes := [⟨.SEQ .A, 14⟩, ⟨.SEQ .B, 14⟩, ⟨.SEQ .C, 14⟩] } }

/-- The gang's entries with a tag that blocks pole A alone. -/
def blockedGang : Part :=
  { reclosing true with tu := { ready.tu with tags := [⟨5, .CLEARANCE, .single .A, 41, true, ⟨0, 0, false⟩, []⟩] } }

theorem test_met_CrewCloseStarts :
    closing.on = true ∧ closing.closeDue = true ∧
      (closing.dc.crew.map fun e => (e.op.state, (closing.forbidden e.op.poles).isEmpty)) = some (.PENDING, true) ∧
      closing.startFits = true ∧ (tagged .HOT_LINE true closing).closeDue = true ∧
      ((tagged .HOT_LINE true closing).dc.crew.map fun e => ((tagged .HOT_LINE true closing).forbidden e.op.poles).isEmpty) = some false ∧
      Part.startFits { closing with nu := { closing.nu with level := some 43 } } = false ∧
      (closing.dc.crew.map fun e => e.op.requesters) = some [⟨.CREW_LINK, .MANUAL_CLOSE, ⟨true, true, false⟩, some 7⟩] ∧
      closing.li.crew.powered = true := by
  decide +kernel

theorem test_met_CrewCloseStarts_radio :
    closingRadio.on = true ∧ closingRadio.closeDue = true ∧ linkReady closingRadio.dc.crew = false ∧
      closingRadio.dc.readySeq.isEmpty = true ∧
      (closingRadio.dc.radio.map fun e => (e.op.requesters, (closingRadio.forbidden e.op.poles).isEmpty)) =
        some ([⟨.RADIO_LINK, .MANUAL_CLOSE, ⟨true, true, false⟩, some 7⟩], true) ∧
      closingRadio.startFits = true ∧ closingRadio.li.radio.powered = true ∧
      ((tagged .HOT_LINE true closingRadio).dc.radio.map fun e =>
        ((tagged .HOT_LINE true closingRadio).forbidden e.op.poles).isEmpty) = some false ∧
      Part.startFits { closingRadio with nu := { closingRadio.nu with level := some 43 } } = false := by
  decide +kernel

theorem test_met_CrewCloseStarts_sequencer :
    (reclosingAt 66).on = true ∧ (reclosingAt 66).closeDue = true ∧ linkReady (reclosingAt 66).dc.crew = false ∧
      (reclosingAt 66).dc.readySeq = .full ∧ ((reclosingAt 66).forbidden .full).isEmpty = true ∧
      (reclosingAt 66).startFits = true ∧ (reclosingAt 65).closeDue = true ∧ (reclosingAt 65).startFits = false ∧
      ((reclosingAt 65).forbidden .full).isEmpty = true ∧ blockedGang.on = true ∧ blockedGang.closeDue = true ∧
      blockedGang.dc.readySeq = .full ∧ (blockedGang.seq .A).state = .CLOSE_WAIT ∧ (blockedGang.seq .B).state = .CLOSE_WAIT ∧
      (blockedGang.seq .C).state = .CLOSE_WAIT ∧ blockedGang.tu.closeForbidden .A = true ∧
      blockedGang.tu.closeForbidden .B = false ∧ (blockedGang.seq .A).ganged = true ∧ (blockedGang.seq .B).ganged = true ∧
      blockedGang.waitingPoles.has .B = true ∧ (∀ x ∈ Pole.all, (blockedGang.seq x).state ≠ .DEAD) := by
  decide +kernel

/-- The gang's entries of A and B with that tag, and C still in DEAD with none. -/
def blockedGangDead : Part :=
  let p := blockedGang.setSeq .C (blockedGang.seq .C).deadStopped
  { p with dc := { p.dc with seq := ⟨some .PENDING, some .PENDING, none⟩ } }

theorem test_met_CrewCloseStarts_dead :
    blockedGangDead.closeDue = true ∧ blockedGangDead.entriesSane = true ∧
      blockedGangDead.dc.readySeq = ⟨true, true, false⟩ ∧ blockedGangDead.tu.closeForbidden .A = true ∧
      (blockedGangDead.seq .A).ganged = true ∧ (blockedGangDead.seq .C).ganged = true ∧
      (blockedGangDead.seq .C).state = .DEAD ∧ blockedGangDead.dc.seq.get .C = none ∧
      blockedGangDead.waitingPoles.has .C = true ∧
      (∀ x ∈ [Pole.A, Pole.B], (blockedGangDead.seq x).state = .CLOSE_WAIT) := by
  decide +kernel

/-- A part whose poles of a set show CLOSED, as those that have bounced back after a trip do. -/
def showing (ps : PoleSet) (p : Part) : Part :=
  { p with dc := { p.dc with poles := p.dc.poles.mapOn ps fun x _ => { ready.dc.poles.get x with handle := true } } }

/-- A reclose of poles that all show CLOSED at the fire ends COMPLETE with it, its fire lines pulsed (R11, R14, R20, R55). -/
theorem test_close_of_closed_poles_ends_at_once :
    let p := after .closeStart (showing .full (reclosingAt 66))
    p.dc.flight = none ∧ p.dc.closePulse = .full ∧ (p.seq .A).state = .RECLAIM ∧ (p.dc.poles.get .B).mechFail = none ∧
      (p.dc.poles.get .C).count = 1 ∧ (p.dc.poles.get .A).handle = false ∧ p.nu.closes = [] ∧
      (p.dc.history.map fun h => (h.op.kind, h.op.result)) = [(.CLOSE, some .COMPLETE)] := by
  decide +kernel

/-- A pole that shows CLOSED from the fire on has moved at the end of the window, the others not: PARTIAL (R11). -/
theorem test_close_window_counts_closed_pole :
    let p := after .closeWindowExpiry (after .closeStart (showing (.single .A) (reclosingAt 66)))
    (p.dc.history.map fun h => h.op.result) = [some .PARTIAL] ∧ (p.dc.poles.get .A).mechFail = none ∧
      (p.dc.poles.get .B).mechFail = some .NO_MOTION ∧ (p.seq .A).state = .RECLAIM ∧ (p.seq .C).state = .LOCKOUT := by
  decide +kernel

theorem test_met_CrewCloseStarts_closed :
    (∀ x ∈ Pole.all, (reclosingAt 66).position x ≠ .CLOSED) ∧
      (∀ x ∈ Pole.all, (showing .full (reclosingAt 66)).position x = .CLOSED) ∧
      (showing .full (reclosingAt 66)).closeDue = true ∧ (showing .full (reclosingAt 66)).startFits = true ∧
      (∀ x ∈ Pole.all, ((showing .full (reclosingAt 66)).seq x).state = .CLOSE_WAIT) ∧
      (showing ⟨true, true, false⟩ closing).closeDue = true ∧ (showing ⟨true, true, false⟩ closing).startFits = true ∧
      (closing.dc.crew.map fun e => (e.op.kind, e.op.poles)) = some (.CLOSE, ⟨true, true, false⟩) ∧
      (showing (.single .A) closing).position .B ≠ .CLOSED ∧
      (after .closeStart (showing (.single .A) closing)).dc.flight.isSome = true ∧
      (after .closeStart (showing ⟨true, true, false⟩ closing)).li.crew.outbound =
        closing.li.crew.outbound ++ [.endMsg 7 (.operation .COMPLETE 0)] := by
  decide +kernel

/-- Single entries that have split back at a level that would cover the first of them, the sum once given up (R124). -/
theorem test_split_back_is_not_granted :
    (after .closeStart (reclosingAt 45)).dc.seq = .const (some .WAIT_ENERGY) ∧
      (after .closeStart (reclosingAt 45)).nu.waiting = [.single .A, .single .B, .single .C] ∧
      (after (.measurement quietBody) (after .closeStart (reclosingAt 45))).dc.seq = .const (some .PENDING) := by
  decide +kernel

theorem test_met_ContactsSetPosition :
    ready.on = true ∧ (at' ready).found.driveSane = true ∧ (at' opened).found.driveSane = true ∧
      (at' tripping).found.driveSane = true ∧ (at' crewFlight).found.driveSane = true ∧
      Part.driveSane (mapPoles (.single .A) (fun _ r => { r with motion := .NONE }) crewFlight) = false ∧
      (at' ready).found.position .A ≠ .OPEN ∧ positionOf false true = .OPEN ∧
      ((at' ready).found.dc.poles.get .A).motion = .NONE ∧
      ((at' ready).found.dc.poles.get .A).handle = false ∧
      (at' opened).found.position .A ≠ .CLOSED ∧ positionOf true false = .CLOSED ∧
      ((at' opened).found.dc.poles.get .A).motion = .NONE ∧ (at' opened).found.tu.hotLine = false ∧
      (at' delayed).found.driveSane = true ∧ (LinkClose.poles (at' delayed).found.dc.crew).has .A = true ∧
      (at' delayed).found.position .A ≠ .CLOSED ∧ ((at' delayed).found.dc.poles.get .A).motion = .NONE ∧
      (let p : Part := { delayed with dc := { delayed.dc with crew := none, radio := delayed.dc.crew } };
        (at' p).found.driveSane = true ∧ (LinkClose.poles (at' p).found.dc.radio).has .A = true ∧
          (at' p).found.position .A ≠ .CLOSED ∧ ((at' p).found.dc.poles.get .A).motion = .NONE) := by
  decide +kernel

/-- HANDLE set on pole A, which shows CLOSED, UNKNOWN after CLOSED, or UNKNOWN after OPEN: the opening by hand counts in the first
two, and repeats nothing in the third. -/
theorem test_met_ContactsSetPosition_handle :
    let r : PoleRec := { startPole true false 0 5 with handle := true }
    let p (r : PoleRec) : Part := ready.setPole .A r
    let back : PoleRec := { startPole false true 0 5 with handle := true }
    (∀ q ∈ [r, r.contacts false false], (at' (p q)).found.driveSane = true ∧ (at' (p q)).found.dc.poles.get .A = q ∧
      ((after (.contactChange .A false true false) (p q)).dc.poles.get .A).count = 6 ∧
      ((after (.contactChange .A false true false) (p q)).seq .A).lockout = some .HANDLE) ∧
      (let q := back.contacts false false;
        (at' (p q)).found.driveSane = true ∧ q.closedSince = false ∧ q.position = .UNKNOWN ∧
          ((after (.contactChange .A false true false) (p q)).dc.poles.get .A).count = 5) := by
  decide +kernel

/-- A waiting unit whose pole has an entry: the closing by hand of that pole withdraws it. -/
theorem test_met_ContactsSetPosition_waiting :
    let p : Part := withSeq (fun r => { r with state := .CLOSE_WAIT, lockout := none }) opened
    let q : Part := { p with
      dc := { p.dc with seq := ⟨some .WAIT_ENERGY, none, none⟩ }
      nu := { p.nu with level := some 21, tripReserve := 8, waiting := [.single .A] } }
    (at' q).found.driveSane = true ∧ (at' q).found.nu.waiting = [.single .A] ∧
      (at' q).found.dc.seq.get .A = some .WAIT_ENERGY ∧
      (after (.contactChange .A true false false) q).dc.seq.get .A = none := by
  decide +kernel

theorem test_met_MeasurementIsTaken :
    ready.on = true ∧ readMeasurement quietBody = some quiet ∧ (at' ready).found.bc.partState = .RUN ∧
      readMeasurement [] = none ∧ readMeasurement (5 :: quietBody.drop 1) ≠ none ∧
      readMeasurement (4 :: quietBody.drop 1) = none ∧ (at' dormant).found.eu.state ≠ .OK := by
  decide +kernel

/-- A part at a loss, with a number of good messages in its run. -/
def lost (run : Nat) : Part :=
  { ready with eu := { ready.eu with state := .LOST, run := run }, sq := { ready.sq with meas := .LOST } }

/-- A part with a state of charge. -/
def charged (soc rem : Nat) : Part := { ready with bc := { ready.bc with soc := soc, rem := rem } }

theorem test_met_MeasurementIsTaken_run :
    (at' (lost 1)).found.eu.state ≠ .OK ∧ (at' (lost 1)).found.eu.run < 2 ∧ (at' (lost 2)).found.eu.state ≠ .OK ∧
      2 ≤ (at' (lost 2)).found.eu.run ∧ (at' (lost 2)).found.bc.partState = .RUN ∧
      (after (.measurement quietBody) (lost 2)).eu.state = .OK ∧ (at' ready).found.eu.state = .OK ∧
      (at' dormant).found.bc.partState = .DORMANT := by
  decide +kernel

theorem test_met_MeasurementIsTaken_charge :
    ((charged 0 0).bc.soc : Int) * 3600000 + (charged 0 0).bc.rem + -100 * 10 < 0 ∧
      (charged 20000 3599999).bc.capacity = 20000 ∧
      (20001 : Int) ≤ (((charged 20000 3599999).bc.soc : Int) * 3600000 + (charged 20000 3599999).bc.rem + 100 * 10) / 3600000 ∧
      (after (.measurement quietBody) (charged 7999 3599999)).bc.soc = 8000 ∧
      (after (.measurement quietBody) (charged 7999 3599999)).bc.rem = 999 ∧
      (after (.measurement quietBody) (charged 7999 3599999)).bc.permille ≠ (at' (charged 7999 3599999)).found.bc.permille ∧
      (after (.measurement quietBody) ready).bc.permille = (at' ready).found.bc.permille := by
  decide +kernel

theorem test_met_LossMakesMeasurementLost :
    delayed.on = true ∧ (at' delayed).found.eu.lossTimer.isSome = true ∧
      (at' delayed).found.eu.state = .OK ∧ (LinkClose.poles (at' delayed).found.dc.crew).isEmpty = false ∧
      (at' ({ ready with eu := { ready.eu with state := .LOST } })).found.eu.state ≠ .OK := by
  decide +kernel

theorem test_met_DisabledGroundStaysIdle :
    Group.groundEnabled { defaultGroup with groundEnabled := false } = false ∧
      defaultGroup.groundEnabled = true ∧ ready.eu.ground.state = .IDLE := by
  decide +kernel

/-- An Element Unit whose phase elements have all reached 10000. -/
def reachedAll : ElementUnit := { ready.eu with phase := .const ⟨.PICKED_UP, 10000, .FAST, true⟩ }

theorem test_met_AskPoleSet :
    2 ≤ reachedAll.phasesUp.count ∧ reachedAll.reached.isEmpty = false ∧
      ElementUnit.groundReached { ready.eu with ground := ⟨.PICKED_UP, 10000, .FAST, true⟩ } = true ∧
      ElementUnit.reached { ready.eu with phase := ready.eu.phase.set .A ⟨.PICKED_UP, 10000, .FAST, true⟩ } = .single .A ∧
      ElementUnit.phasesUp { ready.eu with phase := ready.eu.phase.set .A ⟨.PICKED_UP, 10000, .FAST, true⟩ } = .single .A ∧
      (PoleSet.single .A).count < 2 ∧ ready.eu.reached.isEmpty = true ∧ (ready.eu.phase.get .B).armed = false ∧
      ready.eu.phasesUp.count < 2 ∧ ready.bc.partState = .RUN ∧ (ready.seq .A).state = .CLOSED_IDLE ∧
      (askOf .SINGLE { ready.eu with phase := .const ⟨.IDLE, 0, .FAST, true⟩ } { quiet with phase := ⟨7, 9, 9⟩ }).1 =
        .single .B := by
  decide +kernel

/-- An element in a state with its accumulator at 5000. -/
def halfway (state : ElemState) : Element := ⟨state, 5000, .FAST, true⟩

theorem test_met_ElementAccumulates :
    (Element.step ⟨.PICKED_UP, 10000, .FAST, true⟩ defaultGroup true .FAST 379 400 10).state = .IDLE ∧
      (Element.step ⟨.PICKED_UP, 10000, .FAST, true⟩ defaultGroup true .FAST 380 400 10).state = .HELD ∧
      (Element.step ⟨.IDLE, 0, .FAST, true⟩ defaultGroup true .FAST 380 400 10).state = .IDLE ∧
      (Element.step ⟨.IDLE, 0, .FAST, true⟩ defaultGroup true .FAST 399 400 10).state = .IDLE ∧
      (Element.step ⟨.IDLE, 0, .FAST, true⟩ defaultGroup true .FAST 400 400 10).state = .PICKED_UP ∧
      (halfway .PICKED_UP).acc ≤ 10000 ∧ ((halfway .PICKED_UP).step defaultGroup true .FAST 399 400 10).state = .HELD ∧
      ((halfway .PICKED_UP).step defaultGroup true .FAST 400 400 10).state = .PICKED_UP ∧
      ((halfway .PICKED_UP).step defaultGroup false .FAST 400 400 10).state = .PICKED_UP ∧
      Group.highSet { defaultGroup with highSet := some 20 } = some 20 ∧ 20 ≤ 10 * 800 / 400 ∧ 10 * 799 / 400 < 20 ∧
      defaultGroup.highSet = none ∧ ascending defaultGroup.fast = true ∧ ascending defaultGroup.delayed = true := by
  decide +kernel

/-- The default fast curve at its first point, just below its second and at it; a curve whose first point is not reached; and an
operate time of 0. -/
theorem test_met_ElementAccumulates_curve :
    (defaultGroup.fast.head?.map fun q => (q.multiple, q.time)) = some (10, 2000) ∧
      ((halfway .PICKED_UP).step defaultGroup true .FAST 400 400 10).acc = 5050 ∧
      ((halfway .PICKED_UP).step defaultGroup true .FAST 599 400 10).acc = 5050 ∧
      ((halfway .PICKED_UP).step defaultGroup true .FAST 600 400 10).acc = 5100 ∧
      ((halfway .PICKED_UP).step { defaultGroup with fast := [⟨15, 2000⟩] } true .FAST 400 400 10).acc = 5050 ∧
      ((halfway .PICKED_UP).step { defaultGroup with fast := [⟨15, 0⟩] } true .FAST 600 400 10).acc = 10000 := by
  decide +kernel

theorem test_met_ElementAccumulates_arming :
    ready.armed .A = true ∧ opened.armed .A = false ∧ (ready.seq .A).shot + 1 ≤ defaultGroup.fastOps ∧
      ((withSeq (fun r => { r with shot := 1 }) ready).seq .A).shot + 1 ≤ defaultGroup.fastOps ∧
      defaultGroup.fastOps < ((withSeq (fun r => { r with shot := 2 }) ready).seq .A).shot + 1 := by
  decide +kernel

/-- A part whose pole A waits for energy in CLOSE_WAIT. -/
def energyWaits : Part :=
  let p := withSeq (fun r => { r with state := .CLOSE_WAIT, lockout := none }) opened
  { p with
    dc := { p.dc with seq := ⟨some .WAIT_ENERGY, none, none⟩ }
    nu := { p.nu with level := some 21, tripReserve := 8, waiting := [.single .A] } }

theorem test_met_SequenceTimersEnd :
    dead.on = true ∧ ((at' dead).found.seq .A).state = .DEAD ∧
      ((at' dead).found.seq .A).deadTimer.isSome = true ∧ ((at' dead).found.seq .A).ganged = false ∧
      expiryCause (at' dead).found .A = none ∧
      expiryCause (at' (tagged .RECLOSE_BLOCK true dead)).found .A = some .RECLOSE_BLOCK ∧
      ((at' (tagged .RECLOSE_BLOCK true dead)).found.seq .A).state = .DEAD ∧
      ((at' (withSeq (SeqRec.toReclaim · (.running 1)) ready)).found.seq .A).state = .RECLAIM ∧
      ((at' (withSeq (SeqRec.toReclaim · (.running 1)) ready)).found.seq .A).reclaim = .running 1 := by
  decide +kernel

theorem test_met_SequenceTimersEnd_gang :
    deadGang.on = true ∧ ((at' deadGang).found.seq .A).state = .DEAD ∧
      ((at' deadGang).found.seq .A).deadTimer.isSome = true ∧ ((at' deadGang).found.seq .A).ganged = true ∧
      (at' deadGang).found.nu.waiting = [] ∧ (at' deadGang).found.closeFits .full = true ∧
      (∀ x ∈ Pole.all, expiryCause (at' deadGang).found x = none) ∧
      (let p : Part := { deadGang with tu := blockedGang.tu };
        expiryCause (at' p).found .A = some .RECLOSE_BLOCK ∧ expiryCause (at' p).found .B = none ∧
          (after (.deadTimerExpiry .B) p).seq .B = ((at' p).found.seq .B).locked .GANG) := by
  decide +kernel

/-- A gang of which A and B wait in DEAD with the timer running, and C awaits the end of a trip in flight. -/
def deadGangAwaits : Part :=
  let p := { deadGang with dc := tripping.dc, nu := tripping.nu }
  let q := mapPoles ⟨true, true, false⟩ (fun _ r => { r.contacts false true with motion := .NONE }) p
  withFlight (fun f => { f with op := { f.op with poles := .single .C }, fire := .single .C, closedAtFire := .single .C })
    (q.setSeq .C { q.seq .C with state := .TRIP_WAIT, deadTimer := none })

theorem test_met_SequenceTimersEnd_awaits :
    (at' deadGangAwaits).found.gangAwaits = true ∧ ((at' deadGangAwaits).found.seq .A).state = .DEAD ∧
      ((at' deadGangAwaits).found.seq .A).deadTimer.isSome = true ∧ (at' deadGangAwaits).found.nu.waiting = [] ∧
      (at' deadGang).found.gangAwaits = false ∧
      (let p := after (.deadTimerExpiry .B) deadGangAwaits;
        (Pole.all.map fun x => ((p.seq x).state, (p.seq x).deadTimer)) =
          [(.DEAD, none), (.DEAD, none), (.TRIP_WAIT, none)]) := by
  decide +kernel

theorem test_met_WaitAndOpenCounts :
    energyWaits.on = true ∧ (at' energyWaits).found.dc.seq.get .A = some .WAIT_ENERGY ∧
      ((at' energyWaits).found.seq .A).state = .CLOSE_WAIT ∧
      ((at' energyWaits).found.seq .A).ganged = false ∧ (at' energyWaits).found.position .A = .OPEN ∧
      (at' ready).found.position .A ≠ .OPEN := by
  decide +kernel

/-- A gang of which A and B wait for energy, and C waits in DEAD with no entry. -/
def energyWaitsGang : Part :=
  let p := withSeq (fun r => { r with ganged := true }) energyWaits
  let q := p.setSeq .C (p.seq .C).deadStopped
  { q with
    dc := { q.dc with seq := ⟨some .WAIT_ENERGY, some .WAIT_ENERGY, none⟩ }
    nu := { q.nu with tripReserve := 16, waiting := [⟨true, true, false⟩] } }

theorem test_met_WaitAndOpenCounts_gang :
    (at' energyWaitsGang).found.dc.seq = ⟨some .WAIT_ENERGY, some .WAIT_ENERGY, none⟩ ∧
      (∀ x ∈ Pole.all, ((at' energyWaitsGang).found.seq x).ganged = true ∧
        (at' energyWaitsGang).found.position x = .OPEN) ∧
      (∀ x ∈ [Pole.A, Pole.B], ((at' energyWaitsGang).found.seq x).state = .CLOSE_WAIT) ∧
      ((at' energyWaitsGang).found.seq .C).state = .DEAD ∧
      (Pole.all.map fun x => ((after (.energyWaitLimit .B) energyWaitsGang).seq x).lockout) =
        [some .NO_ENERGY, some .GANG, some .GANG] := by
  decide +kernel

theorem test_met_LockoutRecords :
    (opened.seq .A).state = .LOCKOUT ∧ (LockSet.of (.single .A) .WEAR).get .B = none ∧
      (ready.seq .A).state ≠ .LOCKOUT ∧ (LockSet.of (.single .A) .WEAR).get .A = some .WEAR ∧
      newlyLocked ready (enterLockout (.of (.single .A) .WEAR) ready) = .single .A ∧ newlyLocked ready ready = .empty ∧
      ready.ru.queue.length < 32 ∧ ready.locked = .empty ∧ opened.locked = .full := by
  decide +kernel

/-- A loss of measurement that locks out: the LOCKOUT report stands before the MEAS_LOST report (R28), and there is one. -/
theorem test_lockout_before_meas_lost :
    ((after .lossTimerExpiry dead).ru.queue.map fun r => r.kind) = [.LOCKOUT, .MEAS_LOST] ∧
      (after .lossTimerExpiry dead).sq.told = .empty := by
  decide +kernel

/-- A trip of A and B that has ended, of which a set has moved from CLOSED. -/
def endedTrip (c : OpCause) (moved : PoleSet) : Flight :=
  ⟨⟨0, .TRIP, ⟨true, true, false⟩, c, [⟨.SEQUENCER, c, ⟨true, true, false⟩, none⟩], .IN_FLIGHT, none⟩, .TRIP_WINDOW, 9,
    ⟨true, true, false⟩, ⟨true, true, false⟩, moved, .empty, .empty, ⟨0, 0, false⟩⟩

/-- A part whose poles A and B have opened in TRIP_WAIT, in a gang or not, with their shots. -/
def tripped (ganged : Bool) (shot : Nat) : Part :=
  let p := mapSeq ⟨true, true, false⟩ (fun _ r => { r with state := .TRIP_WAIT, ganged := ganged, shot := shot }) ready
  { p with dc := { p.dc with poles := ⟨startPole false true 0 0, startPole false true 0 0, startPole true false 0 0⟩ } }

theorem test_met_LockoutRecords_trip :
    (tripped false 0).dc.flight = none ∧ (tripped false 0).bc.partState = .RUN ∧ ((tripped false 0).seq .A).state = .TRIP_WAIT ∧
      ((endedTrip .PROTECTIVE ⟨true, true, false⟩).op.requesters.any fun e => e.cause == .PROTECTIVE) = true ∧
      ((endedTrip .COMMAND ⟨true, true, false⟩).op.requesters.any fun e => e.cause == .PROTECTIVE) = false ∧
      (endedTrip .PROTECTIVE (.single .A)).moved.has .B = false ∧ (endedTrip .PROTECTIVE (.single .A)).fire.has .B = true ∧
      ((tripped false 0).dc.poles.get .A).mechFail = none ∧ (tripped false 0).tu.tags = [] ∧
      (tripped false 0).profile.opsToLockout = 4 ∧ (tripped false 0).sq.meas = .OK ∧
      ((sqTripEnd (endedTrip .PROTECTIVE ⟨true, true, false⟩) (tripped false 2)).seq .A).shot = 3 ∧
      ((sqTripEnd (endedTrip .PROTECTIVE ⟨true, true, false⟩) (tripped false 2)).seq .A).state = .DEAD ∧
      ((sqTripEnd (endedTrip .PROTECTIVE ⟨true, true, false⟩) (tripped false 3)).seq .A).lockout = some .SHOTS ∧
      (tripped true 0).dc.trip = none ∧ ((tripped true 0).seq .A).ganged = true ∧ ((tripped true 0).seq .C).ganged = false ∧
      ((tripped true 0).seq .B).state = .TRIP_WAIT ∧ (tripped true 0).position .C ≠ .OPEN ∧
      ((tripped true 0).seq .C).state = .CLOSED_IDLE ∧ (opened.seq .A).state = .LOCKOUT := by
  decide +kernel

/-- The other conditions of a decision at a trip's end, and the poles of the trip that are not settled. -/
theorem test_met_LockoutRecords_causes :
    ((setMech .COIL_OPEN .A (tripped false 0)).dc.poles.get .A).mechFail = some .COIL_OPEN ∧
      ((tagged .HOT_LINE true (tripped false 0)).tu.tags.map fun g => g.kind) = [.HOT_LINE] ∧
      ((tagged .CLEARANCE true (tripped false 0)).tu.tags.map fun g => (g.kind, g.poles)) = [(.CLEARANCE, .full)] ∧
      ((mapPoles (.single .A) (fun _ r => { r with wear := 1000 }) (tripped false 0)).dc.poles.get .A).wear = 1000 ∧
      ((notePoles (.single .A) .SHOTS (tripped false 0)).seq .A).endNote = some .SHOTS ∧
      Sequencer.meas { ready.sq with meas := .LOST } ≠ .OK ∧
      ((withSeq (fun r => { r with state := .CLOSE_WAIT, superseded := true }) (tripped false 0)).seq .A).superseded = true ∧
      ((at' ready).found.seq .A).state = .CLOSED_IDLE ∧
      ((notePoles (.single .A) .COMMAND ready).seq .A).endNote = some .COMMAND ∧
      (closeWaits 0).dc.flight = none ∧ ((closeWaits 0).seq .C).state = .CLOSE_WAIT ∧ (pickupHeld.dc.seq.get .C).isSome = true := by
  decide +kernel

theorem test_met_EnergyIsJudged :
    energyWaits.nu.waiting = [.single .A] ∧ (energyWaits.dc.seq.get .A).isSome = true ∧
      energyWaits.nu.freshCovers (energyWaits.listSum + 14 * 1) = false ∧ newPart.nu.waiting = [] ∧
      newPart.nu.level = none ∧ energyWaits.nu.level = some 21 ∧ energyWaits.nu.fresh = true ∧
      energyWaits.nu.deficit = false ∧ EnergyUnit.deficit { ready.nu with deficit := true } = true := by
  decide +kernel

/-- That part with a bank level and poles that have split back. -/
def energyWaitsAt (level : Nat) (split : PoleSet) : Part :=
  { energyWaits with nu := { energyWaits.nu with level := some level, split := split } }

theorem test_met_EnergyIsJudged_grant :
    (energyWaitsAt 22 .empty).nu.waiting = [.single .A] ∧ ((energyWaitsAt 22 .empty).dc.seq.get .A).isSome = true ∧
      (energyWaitsAt 22 .empty).nu.freshCovers ((energyWaitsAt 22 .empty).listSum + 14 * 1) = true ∧
      (PoleSet.single .A).overlaps (energyWaitsAt 22 .empty).nu.split = false ∧
      (refresh (energyWaitsAt 22 .empty)).dc.seq.get .A = some .PENDING ∧
      (PoleSet.single .A).overlaps (energyWaitsAt 22 (.single .A)).nu.split = true ∧
      (energyWaitsAt 22 (.single .A)).nu.tripReserve ≤ 8 * (energyWaitsAt 22 (.single .A)).counted.count ∧
      (refresh (energyWaitsAt 22 (.single .A))).dc.seq.get .A = some .WAIT_ENERGY := by
  decide +kernel

theorem test_met_EditBeginTakesClaim :
    (at' ready).taken .RADIO (.editBegin 1) ∧
      (at' (editing 2)).taken .RADIO (.editBegin 5) ∧
      (at' (editing 2)).taken .PROTECTION (.editBegin 1) ∧
      (at' (held 1)).taken .RADIO (.editBegin 1) ∧
      (at' ready).taken .RADIO (.editBegin 6) ∧
      targetOf 0 (at' ready).found.pu = none ∧ targetOf 6 (at' ready).found.pu = none ∧
      (targetOf 5 (at' ready).found.pu).isSome = true ∧ (targetOf 1 (at' ready).found.pu).isSome = true ∧
      (at' ready).found.pu.claim = none ∧
      (at' (editing 2)).found.pu.claim = some ⟨.RADIO, .group 2 defaultGroup, .EDITING 9⟩ ∧
      (Claim.mk .RADIO (.group 2 defaultGroup) (.EDITING 9)).holder ≠ .PROTECTION ∧
      (at' (held 1)).found.pu.claim = some ⟨.RADIO, .group 1 defaultGroup, .COMMIT_WAIT 3⟩ :=
  ⟨taken_of_takes (by decide +kernel),
    taken_of_takes (by decide +kernel),
    taken_of_takes (by decide +kernel),
    taken_of_takes (by decide +kernel),
    taken_of_takes (by decide +kernel),
    by decide +kernel⟩

theorem test_met_EditPutWritesItems :
    (at' ready).taken .RADIO (.editPut [7, 4]) ∧
      (at' (editing 2)).taken .RADIO (.editPut [7, 4]) ∧
      (at' (editing 2)).taken .RADIO (.editPut [7, 5]) ∧
      (at' (editing 2)).taken .PROTECTION (.editPut [7, 4]) ∧
      (at' (held 1)).taken .RADIO (.editPut [7, 4]) ∧
      (at' ready).found.pu.claim = none ∧
      (at' (editing 2)).found.pu.claim = some ⟨.RADIO, .group 2 defaultGroup, .EDITING 9⟩ ∧
      (at' (held 1)).found.pu.claim = some ⟨.RADIO, .group 1 defaultGroup, .COMMIT_WAIT 3⟩ ∧
      putItems [7, 4] (.group 2 defaultGroup) = .ok (.group 2 { defaultGroup with opsToLockout := 4 }) ∧
      putItems [7, 5] (.group 2 defaultGroup) = .error (1, 7) ∧
      putItems [7, 4, 7, 4] (.group 2 defaultGroup) = .error (2, 7) :=
  ⟨taken_of_takes (by decide +kernel),
    taken_of_takes (by decide +kernel),
    taken_of_takes (by decide +kernel),
    taken_of_takes (by decide +kernel),
    taken_of_takes (by decide +kernel),
    by decide +kernel⟩

/-- A claim of the radio link on the UNIT record. -/
def editingUnit : Part := { ready with pu := { ready.pu with claim := some ⟨.RADIO, .unit defaultUnit, .EDITING 9⟩ } }

/-- The claim on group 1 in use, with the Sequencer not quiescent. -/
def editingBusy : Part :=
  { editing 1 with dc := (held 1).dc, sq := (held 1).sq }

/-- The claim on group 2 with more fast operations than operations. -/
def editingBad : Part :=
  { ready with pu := { ready.pu with claim := some ⟨.RADIO, .group 2 { defaultGroup with opsToLockout := 1 }, .EDITING 9⟩ } }

theorem test_met_CommitAndDropEndClaim :
    (at' editingUnit).taken .RADIO .editCommit ∧
      (at' editingBad).taken .RADIO .editCommit ∧
      (at' editingBusy).taken .RADIO .editCommit ∧
      (at' (editing 1)).taken .RADIO .editCommit ∧
      (at' (editing 2)).taken .RADIO .editCommit ∧
      (at' (editing 1)).taken .RADIO .editDrop ∧
      (at' (held 1)).taken .RADIO .editDrop ∧
      ((at' editingUnit).found.pu.claim.map fun c => c.pending.firstFailing) = some none ∧
      ((at' editingBad).found.pu.claim.map fun c => c.pending.firstFailing) = some (some 1) ∧
      (at' editingBusy).found.pu.inUse 1 = true ∧ (at' editingBusy).found.sq.quiescent = false ∧
      (at' (editing 2)).found.pu.inUse 2 = false ∧ (at' (editing 1)).found.sq.quiescent = true ∧
      ((at' (held 1)).found.pu.claim.map fun c => c.state) = some (.COMMIT_WAIT 3) :=
  ⟨taken_of_takes (by decide +kernel),
    taken_of_takes (by decide +kernel),
    taken_of_takes (by decide +kernel),
    taken_of_takes (by decide +kernel),
    taken_of_takes (by decide +kernel),
    taken_of_takes (by decide +kernel),
    taken_of_takes (by decide +kernel),
    by decide +kernel⟩

theorem test_met_SelectGroupAppliesOrHolds :
    (at' ready).taken .RADIO (.selectGroup 0) ∧
      (at' ready).taken .RADIO (.selectGroup 1) ∧
      (at' ready).taken .PROTECTION (.selectGroup 4) ∧
      (at' editingBusy).taken .RADIO (.selectGroup 4) ∧
      (at' ready).taken .RADIO (.selectGroup 5) ∧
      (at' ready).found.pu.selected = 1 ∧ (at' ready).found.sq.quiescent = true ∧
      (at' editingBusy).found.sq.quiescent = false ∧ (at' editingBusy).found.pu.selected = 1 ∧
      (5 : Byte).toNat = 5 :=
  ⟨taken_of_takes (by decide +kernel),
    taken_of_takes (by decide +kernel),
    taken_of_takes (by decide +kernel),
    taken_of_takes (by decide +kernel),
    taken_of_takes (by decide +kernel),
    by decide +kernel⟩

theorem test_met_FramesAndClaimEnd :
    (at' ready).taken .RADIO (.temporaryGroup 4 86400) ∧
      (at' ready).taken .RADIO (.temporaryGroup 5 60) ∧
      (at' ready).taken .RADIO .temporaryCancel ∧
      (60 : Long).toNat = 60 ∧ (86400 : Long).toNat = 86400 ∧ (59 : Long).toNat < 60 ∧ ready.on = true ∧
      ((at' (editing 2)).found.pu.claim.map fun c => c.state) = some (.EDITING 9) ∧
      ((at' (held 1)).found.pu.claim.map fun c => c.state) = some (.COMMIT_WAIT 3) :=
  ⟨taken_of_takes (by decide +kernel),
    taken_of_takes (by decide +kernel),
    taken_of_takes (by decide +kernel),
    by decide +kernel⟩

/-- A part with override frames. -/
def framed (hot : Bool) (group : Option Nat) (cold : Bool) : Part :=
  { ready with pu := { ready.pu with
    hotLine := hot, temporary := group.map (⟨·, 9⟩), coldLoad := if cold then some 9 else none } }

theorem test_met_FramesAndClaimEnd_profile :
    (after (.temporaryGroup .RADIO 1 4 60) ready).pu.effective ≠ (at' ready).found.pu.effective ∧
      (at' ready).found.ru.queue.length < 31 ∧ (at' ready).found.isQuiescent = true ∧
      (after (.temporaryGroup .RADIO 1 4 60) (framed true none false)).pu.effective =
        (at' (framed true none false)).found.pu.effective ∧
      (framed false (some 2) true).pu.hotLine = false ∧ (framed false (some 2) true).pu.temporary = some ⟨2, 9⟩ ∧
      (framed false none true).pu.temporary = none ∧ (framed false none true).pu.coldLoad.isSome = true ∧
      (framed false none false).pu.coldLoad = none ∧ (framed true none true).pu.hotLine = true ∧
      (framed false none true).profile.phasePickup = 800 := by
  decide +kernel

/-- A part whose group 2 has pole mode SINGLE, with another as given. -/
def singleTwo (p : Part) : Part :=
  { p with pu := { p.pu with groups := p.pu.groups.set 2 { defaultGroup with mode := .SINGLE } } }

/-- A changed pole mode is in force at once while the Sequencer is quiescent, and pending while a close waits (R71, R72). -/
theorem test_met_FramesAndClaimEnd_mode :
    (at' (singleTwo ready)).found.isQuiescent = true ∧ (at' (singleTwo delayed)).found.isQuiescent = false ∧
      (after (.temporaryGroup .RADIO 1 2 60) (singleTwo ready)).sq.mode = .SINGLE ∧
      (after (.temporaryGroup .RADIO 1 2 60) (singleTwo delayed)).sq.mode = .GANGED ∧
      (after (.temporaryGroup .RADIO 1 2 60) (singleTwo delayed)).sq.pendingMode = some .SINGLE := by
  decide +kernel

/-- A part under a TEMPORARY frame of pole mode SINGLE that has lost measurement. -/
def blindSingle : Part :=
  let p := after (.temporaryGroup .RADIO 1 2 60) (singleTwo ready)
  { p with eu := { p.eu with state := .LOST, lossTimer := none }, sq := { p.sq with meas := .LOST } }

/-- The trip of R69 is pending when the HOT_LINE frame reaches the Sequencer, so that the frame's pole mode is pending too (R71, R72,
R101). -/
theorem test_hot_line_mode_is_pending :
    let p := after (.tagApply .CREW 7 1 7 41 []) blindSingle
    p.dc.pendingPoles = .full ∧ p.pu.hotLine = true ∧ p.sq.quiescent = false ∧ p.sq.mode = .SINGLE ∧
      p.sq.pendingMode = some .GANGED := by
  decide +kernel

/-- A protection-link TRIP that ends the last entry of the drive finds the Sequencer quiescent, with the pending pole mode in force
(R16, R71, R72; assumption 70). -/
theorem test_trip_takes_pending_mode :
    let p := after (.temporaryGroup .RADIO 1 2 60) (singleTwo delayed)
    p.sq.pendingMode = some .SINGLE ∧ (after (.trip .PROTECTION 9 1 1 none) p).sq.mode = .SINGLE := by
  decide +kernel

/-- A part whose pole mode SINGLE is pending while pole A stands in TIMING, HOT_LINE in force, so that the operate time is 0. -/
def timingA (meas : MeasState) : Part :=
  { ready with
    eu := { ready.eu with state := meas, run := 2, pickup := .single .A }
    sq := { ready.sq with
      meas := meas, mode := .GANGED, pendingMode := some .SINGLE, pickup := .single .A
      recs := ready.sq.recs.set .A { ready.sq.recs.get .A with state := .TIMING } }
    pu := { ready.pu with hotLine := true } }

/-- The measured values of a fault on pole B alone. -/
def faultB : Values := { quiet with phase := ⟨150, 1000, 170⟩ }

theorem test_met_FramesAndClaimEnd_dropout :
    (recover (timingA .LOST)).isQuiescent = true ∧ (recover (timingA .LOST)).sq.mode = .SINGLE ∧
      (formPickups (timingA .OK)).isQuiescent = true ∧ (formPickups (timingA .OK)).sq.pendingMode = none ∧
      (recover { timingA .LOST with dc := delayed.dc }).isQuiescent = false ∧
      (formPickups { timingA .OK with dc := delayed.dc }).isQuiescent = false ∧
      (formPickups { timingA .OK with dc := delayed.dc }).sq.pendingMode = some .SINGLE := by
  decide +kernel

/-- The message that returns measurement to OK empties the pickup set, which makes the Sequencer quiescent: the pole mode that was
pending is in force when the trip decision of the same message is made, and its trip is of pole B alone (R29, R40, R71, R72). -/
theorem test_mode_taken_before_trip_decision :
    let p := goodMessage faultB (timingA .LOST)
    p.sq.mode = .SINGLE ∧ p.sq.pendingMode = none ∧ p.dc.pendingPoles = .single .B ∧ p.gang.isEmpty = true := by
  decide +kernel

/-- A part with every pole locked out but C, which is in DEAD; the pole mode SINGLE is pending. -/
def lastDead : Part :=
  { opened with
    sq := { opened.sq with
      mode := .GANGED, pendingMode := some .SINGLE
      recs := opened.sq.recs.set .C { opened.sq.recs.get .C with state := .DEAD, lockout := none } } }

/-- The lockout of the last pole that does not rest makes the Sequencer quiescent at once (R46, R71, R72). -/
theorem test_lockout_takes_pending_mode :
    lastDead.isQuiescent = false ∧ (enterLockout (.of (.single .C) .HANDLE) lastDead).sq.mode = .SINGLE := by
  decide +kernel

/-- The drive is free only after the last step of R14: a manual close whose pole goes from LOCKOUT to RECLAIM never leaves the
Sequencer quiescent in between, and the pole mode stays pending (R14, R55, R72; assumption 70). -/
theorem test_close_end_keeps_mode_pending :
    let f : Flight :=
      ⟨⟨4, .CLOSE, .full, .MANUAL_CLOSE, [⟨.CREW_LINK, .MANUAL_CLOSE, .full, some 7⟩], .IN_FLIGHT, none⟩, .CLOSE_WINDOW, 9,
        .full, .empty, .full, .empty, .empty, opened.tb⟩
    let p := { opened with
      dc := { opened.dc with flight := some f, poles := ready.dc.poles }
      sq := { opened.sq with mode := .GANGED, pendingMode := some .SINGLE } }
    let q := finish f .COMPLETE p
    q.dc.ending = false ∧ (q.seq .A).state = .RECLAIM ∧ q.sq.mode = .GANGED ∧ q.sq.pendingMode = some .SINGLE := by
  decide +kernel

/-- A commit and a selection held at quiescence. -/
def heldBoth : Part :=
  { ready with
    pu := { ready.pu with claim := some ⟨.RADIO, .group 1 defaultGroup, .COMMIT_WAIT 3⟩, held := some ⟨2, .PROTECTION, 4⟩ } }

theorem test_met_HeldSettingsTakeForce :
    heldBoth.on = true ∧ heldBoth.heldDue = true ∧ heldBoth.pu.held = some ⟨2, .PROTECTION, 4⟩ ∧
      heldBoth.pu.heldCommit = some (.RADIO, 3, 1, defaultGroup) := by
  decide +kernel

theorem test_met_TagsAreAppliedAndRemoved :
    (at' delayed).taken .CREW (.tagApply 1 0 41 [0x41]) ∧
      (at' ready).taken .RADIO (.tagApply 3 1 41 []) ∧
      (at' (tagged .HOT_LINE true ready)).taken .CREW (.tagRemove 5 41) ∧
      TagKind.ofCode 1 = some .HOT_LINE ∧ TagKind.ofCode 3 = some .RECLOSE_BLOCK ∧
      List.all [0x41] printable = true ∧ tagPoles .HOT_LINE 0 = some .full ∧
      tagPoles .RECLOSE_BLOCK 1 = some (.single .A) ∧
      tagRefusal .CREW .HOT_LINE .full 41 (at' delayed).found = none ∧
      tagRefusal .RADIO .RECLOSE_BLOCK (.single .A) 41 (at' ready).found = none ∧
      (at' delayed).found.tu.hotLine = false ∧
      (LinkClose.poles (at' delayed).found.dc.crew).isEmpty = false ∧
      (match tagRemoval .CREW 5 41 (at' (tagged .HOT_LINE true ready)).found.tu with | .ok (g, w) => g.kind == .HOT_LINE && w == .HOLDER | .error _ => false) = true :=
  ⟨taken_of_takes (by decide +kernel),
    taken_of_takes (by decide +kernel),
    taken_of_takes (by decide +kernel),
    by decide +kernel⟩

/-- A part with the time SET, and a crew's entry with a valid-until. -/
def timed : Part :=
  { ready with
    tb := ⟨100, 0, true⟩
    tu := { ready.tu with roster := ready.tu.roster ++ [⟨12, ⟨true, false, false⟩, some 200, true⟩] } }

theorem test_met_RosterChanges :
    (at' timed).taken .RADIO (.rosterPut 9999 7 1 101) ∧
      (at' timed).taken .RADIO (.rosterDrop 12) ∧
      timed.on = true ∧ Rights.ofByte 7 = some ⟨true, true, true⟩ ∧ validUntilOf 1 101 = some (some 101) ∧
      validUntilOf 0 0 = some none ∧ pastValidUntil (some 101) (at' timed).found.tb = false ∧
      pastValidUntil (some 100) (at' timed).found.tb = true ∧
      ((at' timed).found.tu.entry 9999).isSome = false ∧ (at' timed).found.tu.roster.length = 2 ∧
      ((at' timed).found.tu.entry 12).isSome = true ∧ (at' timed).found.tu.held 12 = 0 ∧
      (at' timed).found.tu.entry 12 = some ⟨12, ⟨true, false, false⟩, some 200, true⟩ ∧
      (at' timed).found.tb.isSet = true :=
  ⟨taken_of_takes (by decide +kernel),
    taken_of_takes (by decide +kernel),
    by decide +kernel⟩

theorem test_met_SetTimeJudgesRoster :
    (at' timed).taken .RADIO (.setTime 200 999) ∧
      (at' timed).taken .RADIO (.setTime 0 1000) ∧
      999 < (1000 : Half).toNat ∧ (999 : Half).toNat ≤ 999 ∧
      ((after (.setTime .RADIO 1 200 999) timed).tu.roster.map fun e => e.valid) = [true, false] :=
  ⟨taken_of_takes (by decide +kernel),
    taken_of_takes (by decide +kernel),
    by decide +kernel⟩

/-- A part in RUN without supply. -/
def unsupplied : Part := after (.supplySenseChange false) ready

/-- The ready part with battery fields changed. -/
def withBattery (f : Battery → Battery) : Part := { ready with bc := f ready.bc }

theorem test_met_SupplyIsFollowed :
    ready.on = true ∧ (at' ready).found.bc.supply = true ∧ (at' unsupplied).found.bc.supply = false ∧
      (at' unsupplied).found.bc.partState = .RUN ∧ (at' unsupplied).found.bc.testRunning = false ∧
      (at' dormant).found.bc.supply = false ∧ (at' dormant).found.bc.partState = .DORMANT ∧
      (at' dormant).found.bc.testRunning = false := by
  decide +kernel

/-- A part with a test RUNNING and a mode to restore, its charger's timers running. -/
def restoring (m : ChargerMode) : Part :=
  { testing with bc := { testing.bc with
    absorbTaper := some 1800000, absorbTime := some 14400000, floatLow := some 60000
    test := { testing.bc.test with restore := some m } } }

theorem test_met_ChargerTimersAct :
    (at' (withBattery fun b => { b with mode := .FLOAT, taperRun := some 600000, floatLow := some 60000 })).found.bc.taperRun.isSome = true ∧
      (at' (withBattery fun b => { b with mode := .FLOAT, taperRun := some 600000, floatLow := some 60000 })).found.bc.floatLow.isSome = true ∧
      (at' (withBattery fun b => { b with mode := .FLOAT, taperRun := some 600000, floatLow := some 60000 })).found.bc.inForce = .FLOAT ∧
      (at' (withBattery fun b => { b with mode := .ABSORB, absorbTaper := some 1800000, absorbTime := some 14400000 })).found.bc.absorbTaper.isSome = true ∧
      (at' (withBattery fun b => { b with mode := .ABSORB, absorbTaper := some 1800000, absorbTime := some 14400000 })).found.bc.absorbTime.isSome = true ∧
      (at' (withBattery fun b => { b with mode := .ABSORB, absorbTaper := some 1800000, absorbTime := some 14400000 })).found.bc.inForce = .ABSORB ∧
      (at' (withBattery fun b => { b with mode := .ABSORB, absorbTaper := some 1800000, absorbTime := some 14400000 })).found.eu.state = .OK ∧
      (at' ready).found.bc.partState = .RUN ∧
      ([restoring .ABSORB, restoring .FLOAT].all fun p => (at' p).found.bc.testRunning && !testCause (at' p).found &&
        (at' p).found.nu.waiting.isEmpty && p.on) = true ∧
      (at' (restoring .ABSORB)).found.bc.inForce = .ABSORB ∧ (at' (restoring .FLOAT)).found.bc.inForce = .FLOAT ∧
      (at' (restoring .ABSORB)).found.bc.absorbTaper.isSome = true ∧ (at' (restoring .ABSORB)).found.bc.absorbTime.isSome = true ∧
      (at' (restoring .FLOAT)).found.bc.floatLow.isSome = true ∧ (at' (restoring .ABSORB)).found.eu.state = .OK := by
  decide +kernel

/-- A test SUSPENDED, with its cause gone. -/
def suspended : Part := withBattery fun b => { b with test := newTest .CREW_LINK (some 5) }

/-- A periodic test posted. -/
def posted : Part := withBattery fun b => { b with level := .NORMAL, soc := 20000, posted := true }

/-- A test RUNNING in its last step. -/
def lastStep : Part := { testing with bc := { testing.bc with test := { testing.bc.test with steps := 9 } } }

/-- A pole picked up. -/
def pickedUp : Part := { ready with eu := { ready.eu with pickup := .single .A } }

theorem test_met_BatteryTestRuns :
    (at' ready).taken .CREW .batteryTest ∧
      (at' pickedUp).taken .CREW .batteryTest ∧
      (at' testing).taken .RADIO .batteryTest ∧
      ready.nu.waiting = [] ∧ (at' ready).found.nu.waiting = [] ∧ testRefusal (at' ready).found = none ∧
      testCause (at' ready).found = false ∧ testRefusal (at' pickedUp).found = none ∧
      testCause (at' pickedUp).found = true ∧ testRefusal (at' testing).found = some .BUSY ∧
      resumeDue suspended = true ∧ periodicDue posted = true ∧ (at' lastStep).found.bc.testRunning = true ∧
      (at' lastStep).found.bc.test.steps = 9 ∧ (at' lastStep).found.bc.test.before = some 13400 ∧
      (at' lastStep).found.bc.test.minimum = some 13400 ∧
      ((at' lastStep).found.bc.vals.map fun w => w.voltage) = some 13400 ∧
      (at' ({ pickedUp with bc := suspended.bc })).found.bc.test.state = .SUSPENDED ∧
      (at' ready).found.bc.supply = true ∧ (at' ready).found.bc.partState = .RUN :=
  ⟨taken_of_takes (by decide +kernel),
    taken_of_takes (by decide +kernel),
    taken_of_takes (by decide +kernel),
    by decide +kernel⟩

/-- An exhaustion wait with a remaining time. -/
def exhausted (ms : Nat) : Part :=
  withBattery fun b => { b with supply := false, level := .EXHAUSTED, mode := .OFF, wait := some ⟨ms, false⟩ }

theorem test_met_ExhaustionEndsInDormant :
    (at' (exhausted 9)).found.bc.wait = some ⟨9, false⟩ ∧ (exhausted 0).on = true ∧
      (exhausted 0).dormantDue = true := by
  decide +kernel

theorem test_met_PermitsAndCalls :
    (at' ready).taken .RADIO (.permitGrant 1) ∧
      (at' ready).taken .RADIO (.permitGrant 16) ∧
      (at' ready).taken .RADIO (.permitGrant 0) ∧
      (at' ready).taken .RADIO (.permitGrant 17) ∧
      ready.on = true ∧ (1 : Byte).toNat = 1 ∧ (16 : Byte).toNat = 16 ∧ 16 < (17 : Byte).toNat ∧
      (at' (queued [record .LOCKOUT] 0)).found.ru.called = true ∧
      (at' (queued [record .LOCKOUT] 0)).found.ru.queue.length < 31 ∧
      ReportUnit.callDue { (at' (queued [record .LOCKOUT] 0)).found.ru with called := false } (at' (queued [record .LOCKOUT] 0)).found.pu.unit.callThreshold = true ∧
      (at' (queued [] 0)).found.ru.called = true ∧ (at' ready).found.ru.statusTimer.isSome = true :=
  ⟨taken_of_takes (by decide +kernel),
    taken_of_takes (by decide +kernel),
    taken_of_takes (by decide +kernel),
    taken_of_takes (by decide +kernel),
    by decide +kernel⟩

theorem test_met_ReportIsSent :
    (queued [record .LOCKOUT, record .EXHAUSTION] 1).on = true ∧
      (queued [record .LOCKOUT, record .EXHAUSTION] 1).ru.sendDue = true ∧
      (queued [record .SNAPSHOT, record .LOCKOUT] 1).ru.sendDue = true ∧
      (queued [record .SNAPSHOT] 1).li.radio.powered = true := by
  decide +kernel

/-- A part whose queue holds two kinds of records, one and the other in turn. -/
def filled (n : Nat) (k l : ReportKind) : Part := queued (List.replicate (n / 2) (record k) ++ List.replicate (n - n / 2) (record l)) 0

theorem test_met_ReportIsSent_entry :
    (filled 2 .SNAPSHOT .LOCKOUT).ru.queue[0]? = some (record .SNAPSHOT) ∧ (record .SNAPSHOT).poles = none ∧
      ReportKind.cls .SNAPSHOT = .STATUS ∧ (filled 31 .LOCKOUT .LOCKOUT).ru.queue.length = 31 ∧
      (filled 32 .LOCKOUT .SNAPSHOT).ru.queue.length = 32 ∧
      (filled 32 .LOCKOUT .SNAPSHOT).ru.queue[16]? = some (record .SNAPSHOT) ∧
      (∀ e ∈ (filled 32 .LOCKOUT .SNAPSHOT).ru.queue.take 16, e.kind.cls ≠ .STATUS) ∧
      ReportKind.cls .LOCKOUT = .OPERATION ∧ ReportClass.code .OPERATION < ReportClass.code .STATUS ∧
      (∀ e ∈ (filled 32 .EXHAUSTION .MECH_FAIL).ru.queue, e.kind.cls = .ALARM) ∧
      (filled 32 .EXHAUSTION .MECH_FAIL).ru.queue[16]? = some (record .MECH_FAIL) ∧
      (∀ e ∈ (filled 32 .EXHAUSTION .MECH_FAIL).ru.queue.take 16, e.kind = .EXHAUSTION) ∧
      (∀ e ∈ (filled 32 .EXHAUSTION .EXHAUSTION).ru.queue, e.kind = .EXHAUSTION) ∧
      (∀ e ∈ (filled 32 .LOCKOUT .LOCKOUT).ru.queue, e.kind.cls.code ≤ ReportClass.code .TAG) := by
  decide +kernel

/-- The tag table in writing with an answer that waits for it, and one more change. -/
def waitingWrite : Part :=
  retain .TAGS (retainFor .TAGS (.answer .CREW 0 0xA0 1 [5]) (withLink .CREW (fun r => { r with under := some ⟨0x20, 1⟩ }) ready))

theorem test_met_WritesEnd :
    waitingWrite.on = true ∧ ((at' waitingWrite).found.rs.get .TAGS).writing = some (.tags [] 1) ∧
      ((at' waitingWrite).found.rs.get .TAGS).dirty = true ∧
      ((at' waitingWrite).found.rs.get .TAGS).waiting = [⟨false, .answer .CREW 0 0xA0 1 [5]⟩] ∧
      ((at' waitingWrite).found.li.get .CREW).wakes = 0 ∧
      ((at' (withLink .CREW (fun r => { r with wakes := 1 }) waitingWrite)).found.li.get .CREW).wakes ≠ 0 ∧
      ((at' waitingWrite).found.li.get .CREW).powered = true ∧
      ((at' ready).found.rs.get .TAGS).writing = none := by
  decide +kernel

theorem test_met_CapacitiesAreKept :
    ready.bounded = true ∧ (atWork 3).bounded = true ∧ (atWork 4).bounded = false ∧
      (queued (List.replicate 32 (record .LOCKOUT)) 16).bounded = true ∧
      (queued (List.replicate 33 (record .LOCKOUT)) 16).bounded = false ∧ (queued [] 17).bounded = false := by
  decide +kernel

theorem test_met_LinksStaySane :
    ready.linksSane = true ∧
      (withLink .CREW (fun r => { r with powered := false }) ready).linksSane = false ∧
      (withLink .RADIO LinkRec.unpowered ready).linksSane = true := by
  decide +kernel

theorem test_met_InvariantsAtReset :
    energyWaitsGang.entriesSane = true ∧ (reclosingAt 66).entriesSane = true ∧ crewFlight.entriesSane = true ∧
      energyWaitsGang.driveSane = true ∧ (reclosingAt 66).driveSane = true ∧ crewFlight.driveSane = true ∧
      (withSeq SeqRec.deadStopped (reclosingAt 66)).entriesSane = false ∧
      Part.entriesSane { energyWaitsGang with nu := { energyWaitsGang.nu with waiting := [.full] } } = false ∧
      Part.entriesSane { energyWaitsGang with nu := { energyWaitsGang.nu with waiting := [.single .A, .single .A] } } =
        false := by
  decide +kernel

theorem test_met_InvariantsAtReset_quiescence :
    Part.quiescenceSane { ready with sq := { ready.sq with quiescent := true } } = true ∧ delayed.quiescenceSane = true ∧
      pendingTrip.quiescenceSane = true ∧ tripping.quiescenceSane = true ∧
      Part.quiescenceSane { delayed with sq := { delayed.sq with quiescent := true } } = false ∧
      Part.quiescenceSane { delayed with dc := { delayed.dc with ending := true } } = false ∧
      Part.quiescenceSane { ready with sq := { ready.sq with quiescent := true, pendingMode := some .SINGLE } } = false := by
  decide +kernel

/-- A step of each of two parts of those answers a next state. -/
theorem test_met_step : (∃ t, step (at' ready) = .next t) ∧ ∃ t, step ⟨[.readTime .CREW 1], ready⟩ = .next t :=
  ⟨⟨_, rfl⟩, _, rfl⟩

end Sys2Proof.Tests
end

section
/-! PROOFS. The capacities of the tables, operation by operation, and the calm changes: those that leave the drive's operations,
the entries and the waiting order alone (R14, R22, R94, R99, R160, R168, R178). -/

namespace Sys2Proof.Machine

/-! ### The capacities -/

/-- The capacities but those of the images (`Part.bounded`). -/
def Part.tablesFit (p : Part) : Prop :=
  p.ru.queue.length ≤ Config.queueMax ∧ p.ru.permits ≤ Config.permitMax ∧ p.tu.tags.length ≤ Config.tagMax ∧
    p.tu.roster.length ≤ Config.rosterMax ∧ p.dc.history.length ≤ Config.historyMax ∧
    ∀ l, (p.li.get l).waiting.length ≤ Config.waitingMax

theorem Part.bounded_iff (p : Part) : p.bounded = true ↔ p.tablesFit ∧ ∀ i, (p.rs.get i).bounded = true := by
  have hall : (∀ i ∈ allItems, (p.rs.get i).bounded = true) ↔ ∀ i, (p.rs.get i).bounded = true :=
    ⟨fun h i => h i (by cases i <;> simp [allItems]), fun h i _ => h i⟩
  have hli : (∀ l, (p.li.get l).waiting.length ≤ Config.waitingMax) ↔
      p.li.protection.waiting.length ≤ Config.waitingMax ∧ p.li.radio.waiting.length ≤ Config.waitingMax ∧
        p.li.crew.waiting.length ≤ Config.waitingMax :=
    ⟨fun h => ⟨h .PROTECTION, h .RADIO, h .CREW⟩, fun ⟨a, b, c⟩ l => by cases l <;> assumption⟩
  simp only [Part.bounded, Part.tablesFit, Bool.and_eq_true, decide_eq_true_eq, List.all_eq_true, hall, hli]
  tauto

/-- A change that keeps the capacities. -/
def Fits (p q : Part) : Prop := p.bounded = true → q.bounded = true

theorem Fits.trans {p q r : Part} (h : Fits p q) (k : Fits q r) : Fits p r := fun hp => k (h hp)

/-- An image handed on holds no more than its table may (R94, R99). -/
theorem imageOf_bounded {p : Part} (h : p.bounded = true) (i : Item) : (imageOf p i).bounded = true := by
  obtain ⟨⟨_, _, ht, hr, _⟩, _⟩ := (Part.bounded_iff p).1 h
  cases i <;> simp [imageOf, Image.bounded, ht, hr]

/-- Records of which the capacities are those of the tables of another part. -/
theorem Fits.of_blocks {p q : Part} (hru : p.bounded = true → q.ru.queue.length ≤ Config.queueMax ∧ q.ru.permits ≤ Config.permitMax)
    (htu : p.bounded = true → q.tu.tags.length ≤ Config.tagMax ∧ q.tu.roster.length ≤ Config.rosterMax)
    (hdc : p.bounded = true → q.dc.history.length ≤ Config.historyMax)
    (hli : p.bounded = true → ∀ l, (q.li.get l).waiting.length ≤ Config.waitingMax)
    (hrs : p.bounded = true → ∀ i, (q.rs.get i).bounded = true) : Fits p q := fun h =>
  (Part.bounded_iff q).2 ⟨⟨(hru h).1, (hru h).2, (htu h).1, (htu h).2, hdc h, hli h⟩, hrs h⟩

/-- A report record or a permit more or less, and messages handed on. -/
theorem Fits.of_reports {p q : Part} (hdc : q.dc.history = p.dc.history) (htu : q.tu = p.tu) (hrs : q.rs = p.rs)
    (hli : Grows p q) (hru : p.bounded = true → q.ru.queue.length ≤ Config.queueMax ∧ q.ru.permits ≤ Config.permitMax) :
    Fits p q := by
  refine .of_blocks hru ?_ ?_ ?_ ?_ <;> intro h <;> obtain ⟨⟨_, _, h3, h4, h5, h6⟩, h7⟩ := (Part.bounded_iff p).1 h
  · simp [htu, h3, h4]
  · simp [hdc, h5]
  · intro l
    obtain ⟨ms, hm⟩ := hli l
    simpa [hm] using h6 l
  · simpa [hrs] using h7

/-! ### Calm changes -/

/-- A sequence record that does not come to stand in DEAD or TRIP_WAIT, nor under the superseded mark. -/
structure SeqRec.Calm (r s : SeqRec) : Prop where
  rests : s.state = .DEAD ∨ s.state = .TRIP_WAIT → s.state = r.state
  mark : s.superseded = true → r.superseded = true

theorem SeqRec.Calm.refl (r : SeqRec) : r.Calm r := ⟨fun _ => rfl, id⟩

theorem SeqRec.Calm.trans {r s t : SeqRec} (h : r.Calm s) (k : s.Calm t) : r.Calm t :=
  ⟨fun ht => by have e := k.rests ht; rw [e]; exact h.rests (e ▸ ht), fun ht => h.mark (k.mark ht)⟩

/-- A drive whose operations are the same, but for a pending trip and link entries that have left. -/
structure Drive.Calm (d e : Drive) : Prop where
  motion : ∀ x, (e.poles.get x).motion = (d.poles.get x).motion
  flight : e.flight = d.flight
  trip : e.trip = d.trip ∨ e.trip = none
  crew : e.crew = d.crew ∨ e.crew = none
  radio : e.radio = d.radio ∨ e.radio = none
  seq : e.seq = d.seq
  ending : e.ending = d.ending

theorem Drive.Calm.refl (d : Drive) : d.Calm d := ⟨fun _ => rfl, rfl, .inl rfl, .inl rfl, .inl rfl, rfl, rfl⟩

theorem Drive.Calm.of_eq {d e : Drive} (h : e = d) : d.Calm e := h ▸ .refl d

theorem Drive.Calm.trans {d e f : Drive} (h : d.Calm e) (k : e.Calm f) : d.Calm f where
  motion x := (k.motion x).trans (h.motion x)
  flight := k.flight.trans h.flight
  trip := k.trip.elim (fun e => h.trip.imp e.trans e.trans) .inr
  crew := k.crew.elim (fun e => h.crew.imp e.trans e.trans) .inr
  radio := k.radio.elim (fun e => h.radio.imp e.trans e.trans) .inr
  seq := k.seq.trans h.seq
  ending := k.ending.trans h.ending

/-- A change that leaves the drive's operations, the sequencer entries and the waiting order as they were, brings no pole into
DEAD or TRIP_WAIT or under the superseded mark, and keeps the capacities. -/
structure Calm (p q : Part) : Prop where
  drive : p.dc.Calm q.dc
  recs : ∀ x, (p.seq x).Calm (q.seq x)
  waiting : q.nu.waiting = p.nu.waiting
  fits : Fits p q

theorem Calm.refl (p : Part) : Calm p p := ⟨.refl _, fun _ => .refl _, rfl, id⟩

theorem Calm.trans {p q r : Part} (h : Calm p q) (k : Calm q r) : Calm p r :=
  ⟨h.drive.trans k.drive, fun x => (h.recs x).trans (k.recs x), k.waiting.trans h.waiting, h.fits.trans k.fits⟩

/-- A change outside the drive, the sequence records and the waiting order. -/
theorem Calm.of_core {p q : Part} (hdc : q.dc = p.dc) (hsq : q.sq.recs = p.sq.recs) (hnu : q.nu.waiting = p.nu.waiting)
    (hf : Fits p q) : Calm p q :=
  ⟨.of_eq hdc, fun x => by simp only [Part.seq, hsq]; exact .refl _, hnu, hf⟩

/-- A calm change after another: the last first, as the operations are written. -/
theorem Calm.after {p q r : Part} (k : Calm q r) (h : Calm p q) : Calm p r := h.trans k

theorem Calm.applyAll {α : Type} {f : α → Part → Part} (h : ∀ a p, Calm p (f a p)) (as : List α) (p : Part) :
    Calm p (applyAll f as p) := by
  induction as generalizing p with
  | nil => exact .refl p
  | cons a as ih => exact (h a p).trans (ih _)

/-- A choice between two calm changes. -/
theorem Calm.ite {c : Prop} [Decidable c] {p q r : Part} (h : c → Calm p q) (k : ¬ c → Calm p r) :
    Calm p (if c then q else r) := by
  split
  · exact h ‹_›
  · exact k ‹_›

/-! ### Messages and reports (R160 to R186) -/

theorem send_calm (l : Link) (m : Message) (p : Part) : Calm p (send l m p) :=
  .of_core (by simp) (by simp) (by simp) <| .of_reports (by simp) (by simp) (by simp) (send_grows _ _ _) fun h => by
    obtain ⟨⟨h1, h2, _⟩, _⟩ := (Part.bounded_iff p).1 h
    simp [h1, h2]

/-- A change of the Report Unit alone. -/
theorem Calm.of_ru {p : Part} {u : ReportUnit}
    (h : p.ru.queue.length ≤ Config.queueMax → p.ru.permits ≤ Config.permitMax →
      u.queue.length ≤ Config.queueMax ∧ u.permits ≤ Config.permitMax) : Calm p { p with ru := u } :=
  .of_core rfl rfl rfl <| .of_reports rfl rfl rfl (.of_li rfl) fun hp => by
    obtain ⟨⟨h1, h2, _⟩, _⟩ := (Part.bounded_iff p).1 hp
    exact h h1 h2

theorem judgeCall_calm (p : Part) : Calm p (judgeCall p) := by
  unfold judgeCall
  exact .ite (fun _ => (send_calm _ _ _).after (.of_ru fun h k => ⟨h, k⟩)) fun _ => .refl p

theorem judgeSending_calm (p : Part) : Calm p (judgeSending p) := by
  unfold judgeSending
  exact .ite (fun _ => .refl p) fun _ => judgeCall_calm p

@[simp] theorem length_mergeInto (k : ReportKind) (s : Option PoleSet) (t : Stamp) (b : List Byte) (q : List Report) :
    (mergeInto k s t b q).length = q.length := by
  induction q with
  | nil => rfl
  | cons r rs ih =>
    unfold mergeInto
    split <;> simp [ih]

/-- A record that passes the test leaves the queue. -/
theorem length_dropFirst (f : Report → Bool) (q : List Report) (h : q.any f = true) :
    (dropFirst f q).length + 1 = q.length := by
  induction q with
  | nil => simp at h
  | cons r rs ih =>
    unfold dropFirst
    split
    · rfl
    · rename_i hr
      simp only [List.any_cons, Bool.or_eq_true, hr, false_or, Bool.false_eq_true] at h
      simp [ih h]

/-- A queue that is not empty holds a record of its lowest class (R162). -/
theorem any_lowestClass (q : List Report) (h : q ≠ []) : (q.any fun r => r.kind.cls == lowestClass q) = true := by
  cases hf : allClasses.reverse.find? (fun c => q.any fun r => r.kind.cls == c) with
  | some c =>
    rw [show lowestClass q = c by simp [lowestClass, hf]]
    exact List.find?_some (p := fun c => q.any fun r => r.kind.cls == c) hf
  | none =>
    obtain ⟨r, rs, rfl⟩ := List.exists_cons_of_ne_nil h
    have hn := List.find?_eq_none.1 hf r.kind.cls (by cases r.kind.cls <;> simp [allClasses])
    simp at hn

/-- Room made in a queue is room for one record (R162, R163). -/
theorem length_makeRoom {q r : List Report} {k : ReportKind} (hq : q ≠ []) (h : makeRoom q k = some r) :
    r.length + 1 = q.length := by
  simp only [makeRoom] at h
  split at h
  · cases h
    exact length_dropFirst _ _ (any_lowestClass q hq)
  · split at h
    · rename_i hk
      cases h
      exact length_dropFirst _ _ hk.2
    · cases h

@[simp] theorem ReportUnit.join_permits (u : ReportUnit) (q : List Report) (k : ReportKind) (s : Option PoleSet) (t : Stamp)
    (b : List Byte) : (u.join q k s t b).permits = u.permits := by
  simp only [join]
  split <;> rfl

@[simp] theorem ReportUnit.join_length (u : ReportUnit) (q : List Report) (k : ReportKind) (s : Option PoleSet) (t : Stamp)
    (b : List Byte) : (u.join q k s t b).queue.length = q.length + 1 := by
  simp [join]

theorem enterReport_calm (k : ReportKind) (s : Option PoleSet) (b : List Byte) (p : Part) :
    Calm p (enterReport k s b p) := by
  simp only [enterReport]
  refine .ite (fun _ => .of_ru fun h g => ⟨by simpa using h, g⟩) fun _ => .ite (fun hl => ?_) fun hl => ?_
  · exact (judgeSending_calm _).after (.of_ru fun _ g => ⟨by simpa using hl, by simpa using g⟩)
  · have hne : p.ru.queue ≠ [] := by
      intro he
      simp [he, Config.queueMax] at hl
    split
    · rename_i q hq
      have hlen := length_makeRoom hne hq
      exact (judgeSending_calm _).after (.of_ru fun h g => ⟨by simp; omega, by simpa using g⟩)
    · exact .of_ru fun h g => ⟨h, g⟩

theorem reportLevel_calm (l : EnergyLevel) (p : Part) : Calm p (reportLevel l p) :=
  (judgeSending_calm _).after (.of_ru fun h k => ⟨h, k⟩)

theorem reportSend_calm (p : Part) : Calm p (reportSend p) := by
  unfold reportSend
  refine .ite (fun _ => ?_) fun _ => .refl p
  split
  · refine (Calm.trans (.of_ru fun h g => ⟨?_, ?_⟩) (send_calm _ _ _)).trans (judgeCall_calm _)
    · exact (List.length_erase_le ..).trans h
    · exact (Nat.sub_le _ _).trans g
  · exact .refl p

/-! ### The store (R194 to R196) -/

/-- A write record of one item that keeps its images within their table. -/
theorem Fits.of_write {p : Part} {i : Item} {w : WriteRec} (h : p.bounded = true → w.bounded = true) :
    Fits p { p with rs := p.rs.set i w } := fun hp => by
  obtain ⟨ht, hr⟩ := (Part.bounded_iff p).1 hp
  refine (Part.bounded_iff _).2 ⟨ht, fun j => ?_⟩
  rw [Store.get_set]
  split
  · exact h hp
  · exact hr j

theorem WriteRec.bounded_iff (w : WriteRec) :
    w.bounded = true ↔ w.stored.bounded = true ∧ ∀ i, w.writing = some i → i.bounded = true := by
  cases hw : w.writing <;> simp [WriteRec.bounded, hw]

theorem WriteRec.hand_bounded {w : WriteRec} {i : Image} (hw : w.bounded = true) (hi : i.bounded = true) :
    (w.hand i).bounded = true := by
  unfold hand
  split
  · exact (bounded_iff _).2 ⟨((bounded_iff w).1 hw).1, fun j hj => by cases hj; exact hi⟩
  · exact hw

theorem retain_fits (i : Item) (p : Part) : Fits p (retain i p) :=
  .of_write fun h => WriteRec.hand_bounded (((Part.bounded_iff p).1 h).2 i) (imageOf_bounded h i)

theorem retain_calm (i : Item) (p : Part) : Calm p (retain i p) := .of_core rfl rfl rfl (retain_fits i p)

theorem retainFor_calm (i : Item) (w : Held) (p : Part) : Calm p (retainFor i w p) :=
  (retain_calm i _).after (.of_core rfl rfl rfl (.of_write fun h => ((Part.bounded_iff p).1 h).2 i))

/-- A change of one link record that makes its waiting list no longer than it may be. -/
theorem Calm.of_link {p : Part} {l : Link} {r : LinkRec}
    (h : (p.li.get l).waiting.length ≤ Config.waitingMax → r.waiting.length ≤ Config.waitingMax) :
    Calm p { p with li := p.li.set l r } :=
  .of_core rfl rfl rfl fun hp => by
    obtain ⟨⟨h1, h2, h3, h4, h5, h6⟩, h7⟩ := (Part.bounded_iff p).1 hp
    refine (Part.bounded_iff _).2 ⟨⟨h1, h2, h3, h4, h5, fun k => ?_⟩, h7⟩
    rw [LinkInterface.get_set]
    split
    · exact h (h6 l)
    · exact h6 k

theorem clearUnder_calm (l : Link) (p : Part) : Calm p (clearUnder l p) := .of_link id

theorem setUnder_calm (l : Link) (u : Option UnderAnswer) (p : Part) : Calm p (setUnder l u p) := .of_link id

theorem release_calm (ok : Bool) (w : Waiting) (p : Part) : Calm p (release ok w p) := by
  unfold release
  split
  · exact .ite (fun _ => (send_calm _ _ _).trans (clearUnder_calm _ _)) fun _ => .refl p
  · exact send_calm _ _ _

theorem WriteRec.ended_bounded {w : WriteRec} {i j : Image} (ok : Bool) (hw : w.bounded = true) (hi : w.writing = some i)
    (hj : j.bounded = true) : (w.ended i j ok).bounded = true := by
  obtain ⟨hs, hm⟩ := (bounded_iff w).1 hw
  refine (bounded_iff _).2 ⟨?_, fun k hk => ?_⟩
  · cases ok
    · exact hs
    · exact hm i hi
  · cases hd : w.dirty <;> simp [ended, hd] at hk
    exact hk ▸ hj

theorem writeEnd_calm (i : Item) (ok : Bool) (p : Part) : Calm p (writeEnd i ok p) := by
  simp only [writeEnd]
  split
  · exact .refl p
  · rename_i image hi
    have hw : Calm p { p with rs := p.rs.set i ((p.rs.get i).ended image (imageOf p i) ok) } :=
      .of_core rfl rfl rfl (.of_write fun h =>
        WriteRec.ended_bounded ok (((Part.bounded_iff p).1 h).2 i) hi (imageOf_bounded h i))
    have hr := hw.trans (Calm.applyAll (release_calm ok) ((p.rs.get i).waiting.filter fun a => !a.further) _)
    exact .ite (fun _ => hr.trans (enterReport_calm _ _ _ _)) fun _ => hr

end Sys2Proof.Machine
end

section
/-! PROOFS. The moves of the part: every change an operation makes to the drive's operations, the sequencer entries, the waiting
order and the states DEAD and TRIP_WAIT is one of these (chapters 1, 3 and 6). What a move keeps, every operation keeps. -/

namespace Sys2Proof.Machine

/-- What an operation has left open so far: the poles that may stand in TRIP_WAIT with an entry still to be cleared (R16, R49), and,
while the steps of R14 are taken, the poles of the reclose that has ended (none where another operation has). -/
structure Loose where
  awaiting : PoleSet
  ending : Option PoleSet

/-- Nothing is left open. -/
def Loose.none : Loose := ⟨.empty, .none⟩

/-- The poles of an operation that is a reclose (R3). -/
def OpRec.reclosed (op : OpRec) : PoleSet := if op.kind = .CLOSE ∧ op.cause = .RECLOSE then op.poles else .empty

/-- An operation in flight that goes on: the same poles, kind and fire set, in a window of its kind, and no pole counted as moved
beside those of its fire set. -/
structure Flight.Calm (f g : Flight) : Prop where
  kind : g.op.kind = f.op.kind
  poles : g.op.poles = f.op.poles
  cause : f.op.kind = .CLOSE → g.op.cause = f.op.cause
  phase : (g.phase = .CLOSE_WINDOW) ↔ (f.phase = .CLOSE_WINDOW)
  fire : g.fire = f.fire
  closedAtFire : g.closedAtFire = f.closedAtFire
  moved : g.moved = f.moved
  mustLeave : g.mustLeave = f.mustLeave

/-- A flight between the first window and the second fire (R10). -/
def Flight.toGap (f : Flight) (p : Part) : Flight :=
  { f with
    op := { f.op with state := .RETRYING }, phase := .RETRY_GAP, window := Config.retryGap
    moved := f.moved.union (f.mustLeave.diff p.notOpen) }

/-- The part as a close has just been fired (R11), before a window that ends at once. -/
def closeFired (op : OpRec) (p : Part) : Part :=
  let q := mapPoles op.poles (fun _ r => { r with motion := .CLOSING }) p
  { q with dc := { q.dc with flight := some (closeFlight op p), closePulse := q.dc.closePulse.union op.poles } }

/-- A part as a start-up leaves the drive, the Sequencer and the waiting order (R1, R45, R132). -/
structure Part.Fresh (p : Part) : Prop where
  flight : p.dc.flight = none
  trip : p.dc.trip = none
  crew : p.dc.crew = none
  radio : p.dc.radio = none
  ending : p.dc.ending = false
  motion : ∀ x, (p.dc.poles.get x).motion = .NONE
  seq : ∀ x, p.dc.seq.get x = none
  state : ∀ x, (p.seq x).state ≠ .DEAD ∧ (p.seq x).state ≠ .TRIP_WAIT
  waiting : p.nu.waiting = []

/-- The changes of which every operation is made. -/
inductive Move : Loose → Part → Loose → Part → Prop
  /-- A calm change. -/
  | calm {G : Loose} {p q : Part} : Calm p q → Move G p G q
  /-- A sequencer entry leaves the list (R127, R128). -/
  | drop {G : Loose} {p : Part} (x : Pole) : Move G p G (dropSeq x p)
  /-- A sequencer entry ends CANCELLED (R65). -/
  | cancel {G : Loose} {p : Part} (x : Pole) : (p.dc.seq.get x).isSome = true → Move G p G (cancelSeq x p)
  /-- Poles that wait come to stand in DEAD with their gang (R48). -/
  | stop {G : Loose} {p : Part} (s : PoleSet) : (∀ x, s.has x = true → p.waitingPoles.has x = true) →
      Move G p G (mapSeq s (fun _ r => { r.deadStopped with ganged := true })
        (applyAll dropSeq (s.inter p.dc.seqPoles).members p))
  /-- Poles come to await the end of a trip (R48), some with an entry that is still to be cleared. -/
  | await {G : Loose} {p : Part} (s : PoleSet) (f : Pole → SeqRec → SeqRec) :
      (∀ x, s.has x = true → (p.seq x).Calm (f x (p.seq x)) ∨
        (f x (p.seq x)).state = .TRIP_WAIT ∧ (f x (p.seq x)).superseded = (p.seq x).superseded) →
      Move G p { G with awaiting := G.awaiting.union (s.inter p.dc.seqPoles) } (mapSeq s f p)
  /-- Poles without an entry await nothing more. -/
  | cleared {G : Loose} {p : Part} (s : PoleSet) : (∀ x, s.has x = true → p.dc.seq.get x = none) →
      Move G p { G with awaiting := G.awaiting.diff s } p
  /-- More poles are taken to be open than are. -/
  | widen {G : Loose} {p : Part} (s : PoleSet) : (∀ x, G.awaiting.has x = true → s.has x = true) →
      Move G p { G with awaiting := s } p
  /-- The poles of an ended trip are settled (R50, R51, R60). -/
  | settle {N : PoleSet} {p : Part} (s : PoleSet) (f : Pole → SeqRec → SeqRec) :
      (∀ x, s.has x = true → (p.seq x).Calm (f x (p.seq x)) ∨ (p.seq x).settles = true ∧ (f x (p.seq x)).superseded = false) →
      Move ⟨.empty, some N⟩ p ⟨.empty, some N⟩ (mapSeq s f p)
  /-- The poles of a superseded reclose are marked (R50, R55). -/
  | mark {A N : PoleSet} {p : Part} (s : PoleSet) : (∀ x, s.has x = true → N.has x = true) →
      Move ⟨A, some N⟩ p ⟨A, some N⟩ (mapSeq s (fun _ r => r.markSuperseded) p)
  /-- The entries of poles in DEAD are placed (R53, R123, R125). -/
  | place {A : PoleSet} {p : Part} (s : PoleSet) : (∀ x, s.has x = true → (p.seq x).state = .DEAD) →
      Move ⟨A, none⟩ p ⟨A, none⟩ (placeEntries s (mapSeq s (fun _ r => r.closeWait) p))
  /-- The unit at the front of the waiting order is granted (R126). -/
  | grant {G : Loose} {p : Part} (u : PoleSet) (us : List PoleSet) : p.nu.waiting = u :: us →
      Move G p G (applyAll pendingEntry u.members { p with nu := { p.nu with waiting := us } })
  /-- The ready entries split back into the waiting order (R8, R124, R125). -/
  | split {G : Loose} {p : Part} : Move G p G (splitBack p.dc.readySeq p)
  /-- The trip pending set is fired (R9). -/
  | fireTrip {A : PoleSet} {p : Part} (t : PendingTrip) : p.dc.trip = some t → p.dc.flight = none →
      (p.fireSet t).isEmpty = false → Move ⟨A, none⟩ p ⟨A, none⟩ (fireTrip t p)
  /-- The crew entry is fired (R8, R11). -/
  | fireCrew {A : PoleSet} {p : Part} (e : LinkClose) : p.dc.crew = some e → p.dc.flight = none →
      Move ⟨A, none⟩ p ⟨A, none⟩ (closeFired e.op { p with dc := { p.dc with crew := none } })
  /-- The radio entry is fired (R8, R11). -/
  | fireRadio {A : PoleSet} {p : Part} (e : LinkClose) : p.dc.radio = some e → p.dc.flight = none →
      Move ⟨A, none⟩ p ⟨A, none⟩ (closeFired e.op { p with dc := { p.dc with radio := none } })
  /-- The ready sequencer entries are fired as one (R8, R11). -/
  | fireSeq {A : PoleSet} {p : Part} (op : OpRec) : op.kind = .CLOSE → op.poles = p.dc.readySeq → p.dc.flight = none →
      Move ⟨A, none⟩ p ⟨A, none⟩
        (closeFired op { p with dc := { p.dc with seq := p.dc.seq.mapOn op.poles fun _ _ => none } })
  /-- The operation in flight goes on (R4, R10). -/
  | fly {G : Loose} {p : Part} {f g : Flight} (s : PoleSet) : p.dc.flight = some f → f.Calm g →
      Move G p G { p with dc := { p.dc with flight := some g, tripPulse := s } }
  /-- A pole in motion shows a new position (R9, R11, R13). -/
  | sees {G : Loose} {p : Part} {f : Flight} (x : Pole) (new : Position) : p.dc.flight = some f →
      (p.dc.poles.get x).motion ≠ .NONE → Move G p G { p with dc := { p.dc with flight := some (f.sees x new) } }
  /-- The first window of a trip has run out (R10). -/
  | gap {G : Loose} {p : Part} {f : Flight} : p.dc.flight = some f → f.phase = .TRIP_WINDOW →
      Move G p G (clearMotion (f.toGap p).moved { p with dc := { p.dc with flight := some (f.toGap p) } })
  /-- The end of the operation in flight begins (R14). -/
  | land {G : Loose} {p : Part} {f : Flight} : p.dc.flight = some f →
      Move G p { G with ending := some f.op.reclosed } (clearMotion f.fire (beginEnd p))
  /-- The end of a trip that was not fired begins (R9, R14). -/
  | landUnfired {G : Loose} {p : Part} (s : PoleSet) : p.dc.flight = none →
      Move G p { G with ending := some .empty } (clearMotion s (beginEnd p))
  /-- The drive is free after the last step of R14. -/
  | freed {G : Loose} {p : Part} : Move G p { G with ending := none } (driveFreed p)
  /-- Poles join the trip pending set (R4). -/
  | join {G : Loose} {p : Part} (s : PoleSet) (e : ReqEntry) : Move G p G (joinPending s e p)
  /-- The trip pending set takes the poles of a superseded close (R13). -/
  | takeClosing {G : Loose} {p : Part} (s : PoleSet) : Move G p G (takeClosing s p)
  /-- A crew entry is made, or made ready (R5, R15). -/
  | crew {G : Loose} {p : Part} (e : LinkClose) : (e.op.kind = .CLOSE ∧ e.op.cause ≠ .RECLOSE ∨
        ∃ d, p.dc.crew = some d ∧ e.op.kind = d.op.kind ∧ e.op.cause = d.op.cause) →
      Move G p G { p with dc := { p.dc with crew := some e } }
  /-- A radio entry is made (R5). -/
  | radio {G : Loose} {p : Part} (e : LinkClose) : e.op.kind = .CLOSE → e.op.cause ≠ .RECLOSE →
      Move G p G { p with dc := { p.dc with radio := some e } }
  /-- Every timer goes on (R201). -/
  | tick {G : Loose} {p : Part} : Move G p G (advanceTimers p)
  /-- A start-up, or the loss of power. -/
  | start {p q : Part} : q.Fresh → Fits p q → Move .none p .none q
  /-- No operation is in flight while the end of one is handled. -/
  | absurd {G H : Loose} {p q : Part} : G.ending.isSome = true → p.dc.flight.isSome = true → Move G p H q

/-- One move after another. -/
inductive Moves : Loose → Part → Loose → Part → Prop
  | refl {G : Loose} {p : Part} : Moves G p G p
  | step {G H K : Loose} {p q r : Part} : Moves G p H q → Move H q K r → Moves G p K r

theorem Moves.trans {G H K : Loose} {p q r : Part} (h : Moves G p H q) (k : Moves H q K r) : Moves G p K r := by
  induction k with
  | refl => exact h
  | step _ m ih => exact .step (ih h) m

/-- Moves after others: the last first, as the operations are written. -/
theorem Moves.after {G H K : Loose} {p q r : Part} (k : Moves H q K r) (h : Moves G p H q) : Moves G p K r := h.trans k

theorem Move.moves {G H : Loose} {p q : Part} (m : Move G p H q) : Moves G p H q := .step .refl m

theorem Calm.moves {G : Loose} {p q : Part} (h : Calm p q) : Moves G p G q := (Move.calm h).moves

theorem Moves.applyAll {α : Type} {G : Loose} {f : α → Part → Part} (h : ∀ a p, Moves G p G (f a p)) (as : List α)
    (p : Part) : Moves G p G (applyAll f as p) := by
  induction as generalizing p with
  | nil => exact .refl
  | cons a as ih => exact (h a p).trans (ih _)

/-- A choice between two operations. -/
theorem Moves.ite {c : Prop} [Decidable c] {G H : Loose} {p q r : Part} (h : c → Moves G p H q) (k : ¬ c → Moves G p H r) :
    Moves G p H (if c then q else r) := by
  split
  · exact h ‹_›
  · exact k ‹_›

/-! ### Records and drive records -/

theorem Calm.of_mapSeq {s : PoleSet} {f : Pole → SeqRec → SeqRec} {p : Part}
    (h : ∀ x, s.has x = true → (p.seq x).Calm (f x (p.seq x))) : Calm p (mapSeq s f p) where
  drive := .refl _
  recs x := by
    rw [seq_mapSeq]
    split
    · exact h x ‹_›
    · exact .refl _
  waiting := rfl
  fits := id

theorem Calm.of_setSeq {x : Pole} {r : SeqRec} {p : Part} (h : (p.seq x).Calm r) : Calm p (p.setSeq x r) where
  drive := .refl _
  recs y := by
    rw [Part.seq_setSeq]
    split
    · rename_i e
      exact e ▸ h
    · exact .refl _
  waiting := rfl
  fits := id

theorem Calm.of_mapPoles {s : PoleSet} {f : Pole → PoleRec → PoleRec} {p : Part}
    (h : ∀ x r, (f x r).motion = r.motion) : Calm p (mapPoles s f p) where
  drive :=
    { motion := fun x => by
        rw [poles_mapPoles]
        split
        · exact h x _
        · rfl
      flight := rfl, trip := .inl rfl, crew := .inl rfl, radio := .inl rfl, seq := rfl, ending := rfl }
  recs _ := .refl _
  waiting := rfl
  fits := id

theorem Calm.of_setPole {x : Pole} {r : PoleRec} {p : Part} (h : r.motion = (p.dc.poles.get x).motion) :
    Calm p (p.setPole x r) where
  drive :=
    { motion := fun y => by
        rw [Part.poles_setPole]
        split
        · rename_i e
          rw [e, h]
        · rfl
      flight := rfl, trip := .inl rfl, crew := .inl rfl, radio := .inl rfl, seq := rfl, ending := rfl }
  recs _ := .refl _
  waiting := rfl
  fits := id

/-- A record that keeps its state and its mark. -/
theorem SeqRec.Calm.of_same {r s : SeqRec} (h : s.state = r.state) (k : s.superseded = r.superseded) : r.Calm s :=
  ⟨fun _ => h, fun e => k ▸ e⟩

/-- A record that comes to another state than DEAD and TRIP_WAIT. -/
theorem SeqRec.Calm.of_rest {r s : SeqRec} (h : s.state ≠ .DEAD) (k : s.state ≠ .TRIP_WAIT)
    (hm : s.superseded = true → r.superseded = true) : r.Calm s :=
  ⟨fun e => e.elim (fun e => (h e).elim) fun e => (k e).elim, hm⟩

theorem SeqRec.locked_calm (r : SeqRec) (c : LockCause) : r.Calm (r.locked c) :=
  .of_rest (by simp [locked]) (by simp [locked]) (by simp [locked])

theorem SeqRec.note_calm (r : SeqRec) (n : EndNote) : r.Calm (r.note n) := by
  unfold note
  split
  · exact .of_same rfl rfl
  · exact .refl r

theorem judgeQuiescence_calm (p : Part) : Calm p (judgeQuiescence p) := .of_core rfl (by simp) rfl id

/-! ### Lockouts, notes and timers (chapter 3) -/

theorem enterLockout_moves {G : Loose} (c : LockSet) (p : Part) : Moves G p G (enterLockout c p) := by
  have hd := Moves.applyAll (G := G) (fun x q => (Move.drop (p := q) x).moves)
    ((p.newLocks c).poles.members.filter p.unfired) p
  refine (judgeQuiescence_calm _).moves.after (.after (Calm.moves ?_) hd)
  refine ⟨.refl _, fun x => ?_, rfl, id⟩
  simp only [Part.seq, lockRecs, PerPole.get_ofFun]
  split
  · exact SeqRec.locked_calm _ _
  · exact .refl _

theorem notePoles_calm (s : PoleSet) (n : EndNote) (p : Part) : Calm p (notePoles s n p) :=
  .of_mapSeq fun _ _ => SeqRec.note_calm _ _

/-- A dead timer starts on a record in DEAD. -/
theorem SeqRec.dead_calm {r : SeqRec} (h : r.state = .DEAD) (n : Nat) : r.Calm (r.dead n) := .of_same h.symm rfl

theorem startDead_calm {x : Pole} {p : Part} (h : (p.seq x).state = .DEAD) : Calm p (startDead x p) :=
  .of_setSeq (SeqRec.dead_calm h _)

/-- Dead timers start on poles in DEAD. -/
theorem startDeads_calm (xs : List Pole) (p : Part) (h : ∀ x ∈ xs, (p.seq x).state = .DEAD) :
    Calm p (applyAll startDead xs p) := by
  induction xs generalizing p with
  | nil => exact .refl p
  | cons x xs ih =>
    refine (startDead_calm (h x (by simp))).trans (ih _ fun y hy => ?_)
    simp only [startDead, Part.seq_setSeq]
    split
    · rfl
    · exact h y (by simp [hy])

theorem Part.gangDead_state {p : Part} {x : Pole} (h : p.gangDead.has x = true) : (p.seq x).state = .DEAD := by
  simp [gangDead] at h
  exact h.2

theorem startGang_calm (p : Part) : Calm p (startGang p) := by
  simp only [startGang]
  refine .ite (fun _ => .refl p) fun _ => ?_
  split
  · exact .refl p
  · exact .of_mapSeq fun x hx => SeqRec.dead_calm (Part.gangDead_state hx) _

theorem joinGangTimer_calm (p : Part) : Calm p (joinGangTimer p) := by
  simp only [joinGangTimer]
  split
  · exact .ite (fun _ => .refl p) fun _ => .of_mapSeq fun _ _ => .of_same rfl rfl
  · exact startGang_calm p

theorem mapReclaim_calm (f : Reclaim → Reclaim) (p : Part) : Calm p (mapReclaim f p) :=
  .of_mapSeq fun _ _ => .of_same rfl rfl

@[simp] theorem judgeMode_recs (m : PoleMode) (q : Sequencer) : (judgeMode m q).recs = q.recs := by
  simp only [judgeMode]
  repeat' split
  all_goals rfl

theorem sqProfileChanged_calm (p : Part) : Calm p (sqProfileChanged p) := by
  have h : Calm p (judgeQuiescence (mapSeq .full (fun _ r => r.judgeNewValue p.profile) p)) :=
    (judgeQuiescence_calm _).after (.of_mapSeq fun _ _ => .of_same rfl rfl)
  exact h.trans (.of_core rfl (by simp [sqProfileChanged]) rfl id)

theorem judged_calm {f : Part → Part} {p : Part} (h : Calm p (f p)) : Calm p (judged f p) := by
  simp only [judged]
  exact .ite (fun _ => h) fun _ => (enterReport_calm _ _ _ _).after ((sqProfileChanged_calm _).after h)

/-- A change of a block outside the drive, the records and the tables. -/
theorem Calm.of_pu {p : Part} (u : ProfileUnit) : Calm p { p with pu := u } := .of_core rfl rfl rfl id

theorem pushColdLoad_calm (p : Part) : Calm p (pushColdLoad p) := judged_calm (.of_pu _)

theorem coldLoadTest_calm (s : PoleSet) (p : Part) : Calm p (coldLoadTest s p) :=
  .ite (fun _ => pushColdLoad_calm p) fun _ => .refl p

theorem SeqRec.toReclaim_calm (r : SeqRec) (t : Reclaim) : r.Calm (r.toReclaim t) :=
  .of_rest (by simp [toReclaim]) (by simp [toReclaim]) id

theorem SeqRec.toTiming_calm (r : SeqRec) : r.Calm r.toTiming := .of_rest (by simp [toTiming]) (by simp [toTiming]) id

theorem SeqRec.pickedUp_calm (r : SeqRec) (own : Bool) : r.Calm (r.pickedUp own) := by
  unfold pickedUp
  split
  · split
    · exact toTiming_calm r
    · exact .refl r
  · exact toTiming_calm r
  · exact .refl r

theorem SeqRec.droppedOut_calm (r : SeqRec) (t : Reclaim) : r.Calm (r.droppedOut t) := by
  unfold droppedOut
  split
  · split
    · exact toReclaim_calm r t
    · exact .of_rest (by simp) (by simp) id
  · exact .refl r

theorem sqPickups_calm (s : PoleSet) (p : Part) : Calm p (sqPickups s p) := by
  have h : Calm p { p with sq := { p.sq with pickup := p.sq.pickup.union s } } := .of_core rfl rfl rfl id
  refine (judgeQuiescence_calm _).after (Calm.after (.of_mapSeq fun _ _ => ?_) h)
  split
  · exact SeqRec.pickedUp_calm _ _
  · exact .refl _

theorem sqDropouts_calm (s : PoleSet) (p : Part) : Calm p (sqDropouts s p) := by
  have h : Calm p { p with sq := { p.sq with pickup := p.sq.pickup.diff s } } := .of_core rfl rfl rfl id
  exact (judgeQuiescence_calm _).after (Calm.after (.of_mapSeq fun _ _ => SeqRec.droppedOut_calm _ _) h)

/-! ### Entries that end, and what every ended operation has in common (R12, R14, R16, R20 to R23) -/

theorem sendEnd_calm (r : OpResult) (n : Nat) (e : ReqEntry) (p : Part) : Calm p (sendEnd r n e p) := by
  simp only [sendEnd]
  split
  · exact send_calm _ _ _
  · exact .refl p

theorem sendEnds_calm (op : OpRec) (r : OpResult) (p : Part) : Calm p (sendEnds op r p) :=
  Calm.applyAll (fun e q => sendEnd_calm r op.number e q) _ p

theorem releaseEntry_calm (e : EntryName) (p : Part) : Calm p (releaseEntry e p) := .of_core rfl rfl rfl id

theorem endCrewEntry_calm (r : OpResult) (p : Part) : Calm p (endCrewEntry r p) := by
  unfold endCrewEntry
  split
  · refine (sendEnds_calm _ _ _).after ((releaseEntry_calm _ _).after ⟨?_, fun _ => .refl _, rfl, id⟩)
    exact ⟨fun _ => rfl, rfl, .inl rfl, .inr rfl, .inl rfl, rfl, rfl⟩
  · exact .refl p

theorem endRadioEntry_calm (r : OpResult) (p : Part) : Calm p (endRadioEntry r p) := by
  unfold endRadioEntry
  split
  · refine (sendEnds_calm _ _ _).after ((releaseEntry_calm _ _).after ⟨?_, fun _ => .refl _, rfl, id⟩)
    exact ⟨fun _ => rfl, rfl, .inl rfl, .inl rfl, .inr rfl, rfl, rfl⟩
  · exact .refl p

theorem endLinkEntries_calm (s : PoleSet) (r : OpResult) (p : Part) : Calm p (endLinkEntries s r p) := by
  have h : Calm p (if (LinkClose.poles p.dc.crew).overlaps s then endCrewEntry r p else p) :=
    .ite (fun _ => endCrewEntry_calm r p) fun _ => .refl p
  exact Calm.ite (fun _ => (endRadioEntry_calm r _).after h) fun _ => h

theorem setMech_calm (c : MechCause) (x : Pole) (p : Part) : Calm p (setMech c x p) := by
  simp only [setMech]
  split
  · exact .refl p
  · exact (enterReport_calm _ _ _ _).after (.of_setPole rfl)

theorem coilChecks_moves {G : Loose} (s : PoleSet) (p : Part) : Moves G p G (coilChecks s p) :=
  (enterLockout_moves _ _).after (Calm.applyAll (setMech_calm .COIL_OPEN) _ p).moves

theorem wearReports_calm (o n : Nat) (x : Pole) (p : Part) : Calm p (wearReports o n x p) := by
  have h : Calm p (if o < 800 ∧ 800 ≤ n then enterReport .WEAR_WARN (some (.single x)) (two n) p else p) :=
    .ite (fun _ => enterReport_calm _ _ _ _) fun _ => .refl p
  exact Calm.ite (fun _ => (enterReport_calm _ _ _ _).after h) fun _ => h

theorem addWear_calm (x : Pole) (p : Part) : Calm p (addWear x p) := (wearReports_calm _ _ _ _).after (.of_setPole rfl)

theorem countAndWear_calm (f : Flight) (p : Part) : Calm p (countAndWear f p) := by
  have h : Calm p (mapPoles f.moved (fun _ r => r.counted) p) := .of_mapPoles fun _ _ => rfl
  have hw := (Calm.applyAll addWear_calm (f.closedAtFire.inter f.moved).members _).after h
  exact Calm.ite (fun _ => .ite (fun _ => hw) fun _ => (retain_calm _ _).after hw) fun _ => h

theorem releaseFlight_calm (op : OpRec) (p : Part) : Calm p (releaseFlight op p) := by
  unfold releaseFlight
  split
  · exact .refl p
  · exact Calm.applyAll (fun _ _ => releaseEntry_calm _ _) _ p
  · exact Calm.applyAll (fun _ _ => releaseEntry_calm _ _) _ p

theorem doneReport_calm (op : OpRec) (r : OpResult) (p : Part) : Calm p (doneReport op r p) := enterReport_calm _ _ _ _

theorem pushHistory_calm (f : Flight) (r : OpResult) (p : Part) : Calm p (pushHistory f r p) where
  drive := ⟨fun _ => rfl, rfl, .inl rfl, .inl rfl, .inl rfl, rfl, rfl⟩
  recs _ := .refl _
  waiting := rfl
  fits h := by
    obtain ⟨⟨h1, h2, h3, h4, _, h6⟩, h7⟩ := (Part.bounded_iff p).1 h
    exact (Part.bounded_iff _).2 ⟨⟨h1, h2, h3, h4, by simp only [pushHistory]; exact List.length_take_le .., h6⟩, h7⟩

theorem endLast_calm (f : Flight) (r : OpResult) (p : Part) : Calm p (endLast f r p) :=
  (sendEnds_calm _ _ _).after ((pushHistory_calm f r _).after ((doneReport_calm _ _ _).after (releaseFlight_calm _ p)))

/-- Steps 1 to 3 of R14: the operation lands. -/
theorem endFirst_moves {G : Loose} {f g : Flight} {p : Part} (h : p.dc.flight = some f) (hf : g.fire = f.fire) :
    Moves G p { G with ending := some f.op.reclosed } (endFirst g p) := by
  refine (countAndWear_calm g _).moves.after ((coilChecks_moves _ _).after ?_)
  rw [hf]
  exact (Move.land h).moves

end Sys2Proof.Machine
end

section
/-! PROOFS. The moves of the trip requests, of the ends of operations and of the judgements (chapters 1, 3 and 6). -/

namespace Sys2Proof.Machine

/-! ### Entries that are cancelled (R16, R65) -/

/-- Fewer poles await the end of a trip with an entry to be cleared. -/
def Loose.clear (G : Loose) (s : PoleSet) : Loose := { G with awaiting := G.awaiting.diff s }

/-- Poles taken out of the open ones may be taken for open again. -/
theorem Loose.unclear {G : Loose} {p : Part} (s : PoleSet) : Moves (G.clear s) p G p :=
  (Move.widen (G := G.clear s) G.awaiting fun x h => by simp [clear] at h; exact h.1).moves

/-- Moves after which fewer poles are taken to be open: the rest is taken for open again. -/
theorem Moves.widen {G : Loose} {A : PoleSet} {e : Option PoleSet} {p q : Part} (h : Moves G p ⟨A, e⟩ q) {B : PoleSet}
    (hs : ∀ x, A.has x = true → B.has x = true) : Moves G p ⟨B, e⟩ q :=
  .step h (Move.widen (G := ⟨A, e⟩) B hs)

theorem PoleSet.nodup_members (s : PoleSet) : s.members.Nodup := List.Nodup.filter _ (by decide)

theorem dropSeq_dc_seq (x y : Pole) (p : Part) :
    (dropSeq x p).dc.seq.get y = if y = x then none else p.dc.seq.get y := PerPole.get_set _ _ _ _

theorem cancelSeq_dc_seq (x y : Pole) (p : Part) :
    (cancelSeq x p).dc.seq.get y = if y = x then none else p.dc.seq.get y := by
  simp only [cancelSeq]
  split <;> simp [dropSeq_dc_seq]

/-- The entries of a list of poles change by a step for each. -/
theorem applyAll_dc_seq {f : Pole → Part → Part} {e : Option SeqEntry}
    (h : ∀ x y p, (f x p).dc.seq.get y = if y = x then e else p.dc.seq.get y) (xs : List Pole) (y : Pole) (p : Part) :
    (applyAll f xs p).dc.seq.get y = if y ∈ xs then e else p.dc.seq.get y := by
  induction xs generalizing p with
  | nil => rfl
  | cons x xs ih =>
    rw [applyAll, ih, h]
    by_cases hy : y ∈ xs <;> by_cases hx : y = x <;> simp [hy, hx]

theorem cancels_moves {G : Loose} {xs : List Pole} (hn : xs.Nodup) {p : Part}
    (h : ∀ x ∈ xs, (p.dc.seq.get x).isSome = true) : Moves G p G (applyAll cancelSeq xs p) := by
  induction xs generalizing p with
  | nil => exact .refl
  | cons x xs ih =>
    obtain ⟨hx, hn⟩ := List.nodup_cons.1 hn
    refine (Move.cancel x (h x (by simp))).moves.trans (ih hn fun y hy => ?_)
    have hne : y ≠ x := fun e => hx (e ▸ hy)
    simp [cancelSeq_dc_seq, hne, h y (by simp [hy])]

/-- Every sequencer entry that covers a pole of the set has left (R16). -/
theorem clearEntries_dc_seq (s : PoleSet) (p : Part) {x : Pole} (hx : s.has x = true) :
    (clearEntries s p).dc.seq.get x = none := by
  simp only [clearEntries, judgeQuiescence_dc, cancelEntries, applyAll_dc_seq cancelSeq_dc_seq, PoleSet.mem_members,
    PoleSet.has_inter, hx, Bool.true_and]
  split
  · rfl
  · rename_i h
    simpa [Drive.seqPoles] using h

theorem clearEntries_moves {G : Loose} (s : PoleSet) (p : Part) : Moves G p (G.clear s) (clearEntries s p) := by
  have hc : Moves G (endLinkEntries s .CANCELLED p) G (cancelEntries s p) :=
    cancels_moves (PoleSet.nodup_members _) fun x hx => by
      simp [Drive.seqPoles] at hx
      exact hx.2
  refine .trans ?_ (Move.cleared s fun x hx => clearEntries_dc_seq s p hx).moves
  exact (judgeQuiescence_calm _).moves.after (hc.after (endLinkEntries_calm s .CANCELLED p).moves)

/-! ### The merge (R4, R13) -/

@[simp] theorem takeClosing_dc_flight (s : PoleSet) (p : Part) : (takeClosing s p).dc.flight = p.dc.flight := by
  simp only [takeClosing]
  split <;> rfl

@[simp] theorem joinPending_dc_flight (s : PoleSet) (e : ReqEntry) (p : Part) :
    (joinPending s e p).dc.flight = p.dc.flight := by
  simp only [joinPending]
  split <;> rfl

theorem endSuperseded_moves {G : Loose} {f : Flight} {p : Part} (h : p.dc.flight = some f) (hk : f.op.kind = .CLOSE) :
    Moves G p G (endSuperseded f p) := by
  cases hG : G.ending with
  | some N => exact (Move.absurd (by simp [hG]) (by simp [h])).moves
  | none =>
    have hm : Moves { G with ending := some f.op.reclosed } (endFirst f p) { G with ending := some f.op.reclosed }
        (markSuperseded f.op (endFirst f p)) := by
      refine .ite (fun hc => (Move.mark _ fun x hx => ?_).moves) fun _ => .refl
      simpa [OpRec.reclosed, hk, hc] using hx
    have hf := (Move.freed.moves.after (endLast_calm f .SUPERSEDED _).moves).after (hm.after (endFirst_moves h rfl))
    have e : ({ ({ G with ending := some f.op.reclosed } : Loose) with ending := none } : Loose) = G := by simp [← hG]
    exact e ▸ hf

theorem supersede_moves {G : Loose} (p : Part) : Moves G p G (supersede p) := by
  unfold supersede
  split
  · rename_i f hf
    exact .ite (fun hk => (endSuperseded_moves (by simp [hf]) hk).after (Move.takeClosing _).moves) fun _ => .refl
  · exact .refl

/-- Some pole of a set that is not empty. -/
theorem PoleSet.exists_of_not_empty {s : PoleSet} (h : s.isEmpty = false) : ∃ x, s.has x = true := by
  by_contra hn
  simp only [not_exists, Bool.not_eq_true] at hn
  simp [(PoleSet.isEmpty_iff s).2 hn] at h

/-- A pole of the fire set of a TRIP in flight. -/
theorem Drive.tripping_has {d : Drive} {x : Pole} (h : d.tripping.has x = true) :
    ∃ f, d.flight = some f ∧ f.op.kind = .TRIP ∧ f.fire.has x = true := by
  unfold tripping at h
  split at h
  · rename_i f hf
    split at h
    · exact ⟨f, hf, ‹_›, h⟩
    · simp at h
  · simp at h

theorem mergeTrip_moves {G : Loose} (s : PoleSet) (e : ReqEntry) (p : Part) : Moves G p G (mergeTrip s e p).1 := by
  simp only [mergeTrip]
  split
  · exact (supersede_moves _).after (Move.join _ _).moves
  · split
    · rename_i f hf
      split
      · exact .refl
      · rename_i hb
        obtain ⟨x, hx⟩ := PoleSet.exists_of_not_empty (Bool.eq_false_iff.2 hb)
        simp only [Part.beingTripped, PoleSet.has_inter, Bool.and_eq_true] at hx
        obtain ⟨g, hg, hk, -⟩ := Drive.tripping_has hx.2.2
        obtain rfl : f = g := by rw [hf] at hg; exact Option.some.inj hg
        exact (Move.fly p.dc.tripPulse hf (g := { f with op := f.op.addRequester e })
          ⟨rfl, rfl, fun h => by simp [hk] at h, .rfl, rfl, rfl, rfl, rfl⟩).moves
    · exact .refl

/-! ### The Sequencer's response to a trip request (R48, R49, R60) -/

theorem bringIn_moves {G : Loose} (s : PoleSet) (b : Bool) (p : Part) : Moves G p G (bringIn s b p) :=
  (Move.stop _ fun x hx => by simp at hx; exact hx.1).moves

/-- A protective trip leaves a record calm or brings it into TRIP_WAIT with its mark kept (R48). -/
theorem SeqRec.protect_calm_or (r : SeqRec) (fired open' gang : Bool) :
    r.Calm ((r.protect fired open').joinGang gang open') ∨
      ((r.protect fired open').joinGang gang open').state = .TRIP_WAIT ∧
        ((r.protect fired open').joinGang gang open').superseded = r.superseded := by
  have hj : ∀ q : SeqRec, (q.joinGang gang open').state = q.state ∧ (q.joinGang gang open').superseded = q.superseded := by
    intro q
    unfold joinGang
    split <;> exact ⟨rfl, rfl⟩
  have hc : r.Calm (r.protect fired open') ∨
      (r.protect fired open').state = .TRIP_WAIT ∧ (r.protect fired open').superseded = r.superseded := by
    unfold protect
    split
    · exact .inr ⟨rfl, rfl⟩
    · exact .inr ⟨rfl, rfl⟩
    · exact .inr ⟨rfl, rfl⟩
    · split
      · exact .inr ⟨rfl, rfl⟩
      · exact .inl (.refl r)
    · split
      · exact .inl (.refl r)
      · exact .inl (note_calm r _)
    · exact .inl (.refl r)
  obtain ⟨h1, h2⟩ := hj (r.protect fired open')
  exact hc.imp (fun h => h.trans (.of_same h1 h2)) fun ⟨a, b⟩ => ⟨h1.trans a, h2.trans b⟩

/-- The entries that gang trips bring in have left, and no entry is made (R48). -/
theorem bringIn_dc_seq (s : PoleSet) (b : Bool) (p : Part) {x : Pole} (h : p.dc.seq.get x = none) :
    (bringIn s b p).dc.seq.get x = none := by
  simp only [bringIn, mapSeq_dc, applyAll_dc_seq dropSeq_dc_seq, h, ite_self]

/-- Poles of a protective trip await its end; an entry still to be cleared stands on poles of the widened set that had one (R48). -/
theorem sqProtect_moves {G : Loose} (s : PoleSet) (m b : Bool) (p : Part) :
    Moves G p { G with awaiting := G.awaiting.union ((sqProtect s m b p).2.inter p.dc.seqPoles) } (sqProtect s m b p).1 := by
  simp only [sqProtect]
  split
  · have ha := (Move.await (G := G) (p := bringIn s b p) (s.union (p.gang.inter p.notOpen))
      (fun x r => (r.protect ((bringIn s b p).recloseFired x) ((bringIn s b p).showsOpen x)).joinGang
        (p.sq.mode == .GANGED || m || s.overlaps p.gang) ((bringIn s b p).showsOpen x))
      fun x _ => SeqRec.protect_calm_or ((bringIn s b p).seq x) _ _ _).moves.after (bringIn_moves s b p)
    refine ha.widen fun x hx => ?_
    simp only [PoleSet.has_union, PoleSet.has_inter, Bool.or_eq_true, Bool.and_eq_true] at hx ⊢
    refine hx.imp id fun ⟨h1, h2⟩ => ⟨h1, ?_⟩
    by_contra hn
    have hn' : p.dc.seq.get x = none := by simpa [Drive.seqPoles] using hn
    simp [Drive.seqPoles, bringIn_dc_seq s b p hn'] at h2
  · exact (Move.await s _ fun x _ => SeqRec.protect_calm_or (p.seq x) _ _ _).moves

theorem sqCommandReport_moves {G : Loose} (s : PoleSet) (c : OpCause) (n : EndNote) (p : Part) :
    Moves G p G (sqCommandReport s c n p) := (enterLockout_moves _ _).after (notePoles_calm _ _ _).moves

theorem sqTripReport_moves {G : Loose} {s : PoleSet} {c : OpCause} {w : Requester} {p : Part}
    (h : ∀ x, s.has x = true → p.dc.seq.get x = none) :
    Moves G p { G with awaiting := G.awaiting.union (sqTripReport s c w p).2 } (sqTripReport s c w p).1 := by
  have hw : ∀ t : PoleSet, Moves G p { G with awaiting := G.awaiting.union t } p := fun t =>
    (Move.widen _ fun x hx => by simp [hx]).moves
  simp only [sqTripReport]
  split
  · exact (sqCommandReport_moves _ _ _ _).after (hw _)
  · split
    · exact hw _
    · have hp := sqProtect_moves (G := G) s (decide (2 ≤ s.count)) true p
      refine hp.widen fun x hx => ?_
      simp only [PoleSet.has_union, PoleSet.has_inter, Bool.or_eq_true, Bool.and_eq_true] at hx
      simp only [PoleSet.has_union, PoleSet.has_diff, Bool.or_eq_true, Bool.and_eq_true]
      refine hx.imp id fun ⟨h1, h2⟩ => ⟨h1, ?_⟩
      by_contra hn
      simp [Drive.seqPoles, h x (by simpa using hn)] at h2

/-! ### Taking a trip request (R4) -/

theorem addTrip_moves {G : Loose} (s : PoleSet) (p : Part) : Moves G p (G.clear s) (addTrip s p) :=
  .ite (fun he => (Move.widen _ fun x hx => by simp [hx, (PoleSet.isEmpty_iff s).1 he x]).moves) fun _ =>
    (mergeTrip_moves _ _ _).after (clearEntries_moves s p)

theorem restartDead_calm (s : PoleSet) (p : Part) : Calm p (restartDead s p) :=
  (joinGangTimer_calm _).after (startDeads_calm _ p fun x hx => by simp at hx; exact hx.1.1.2)

/-- A trip request that is taken also clears the entries of its poles (R16). -/
theorem takeTrip_clears {G : Loose} (s : PoleSet) (c : OpCause) (w : Requester) (t : Option Byte) {p : Part}
    (hr : p.isRun = true) : Moves G p (G.clear s) (takeTrip s c w t p).1 := by
  simp only [takeTrip]
  split
  · rename_i h
    have he : s.isEmpty = true := by simpa [hr] using h
    exact (Move.widen _ fun x hx => by simp [hx, (PoleSet.isEmpty_iff s).1 he x]).moves
  · have hreport := sqTripReport_moves (G := G.clear s) (c := c) (w := w) fun x hx => clearEntries_dc_seq s p hx
    have hmerge := (mergeTrip_moves s ⟨w, c, s, t⟩ _).after (hreport.after (clearEntries_moves s p))
    refine (judgeQuiescence_calm _).moves.after ?_
    have hadd := (addTrip_moves (sqTripReport s c w (clearEntries s p)).2 _).after hmerge
    have hq : Moves G p (G.clear s) (addTrip (sqTripReport s c w (clearEntries s p)).2
        (mergeTrip s ⟨w, c, s, t⟩ (sqTripReport s c w (clearEntries s p)).1).1) := by
      refine hadd.widen fun x hx => ?_
      simp only [Loose.clear, PoleSet.has_diff, PoleSet.has_union, Bool.and_eq_true, Bool.or_eq_true] at hx
      simp only [PoleSet.has_diff, Bool.and_eq_true]
      exact hx.1.resolve_right fun h => by simp [h] at hx
    exact .ite (fun _ => (restartDead_calm s _).moves.after hq) fun _ => hq

theorem takeTrip_moves {G : Loose} (s : PoleSet) (c : OpCause) (w : Requester) (t : Option Byte) (p : Part) :
    Moves G p G (takeTrip s c w t p).1 := by
  cases hr : p.isRun with
  | true => exact (Loose.unclear s).after (takeTrip_clears s c w t hr)
  | false =>
    simp only [takeTrip, hr]
    exact .refl

theorem noteAndTrip_moves {G : Loose} (s : PoleSet) (n : EndNote) (c : OpCause) (p : Part) :
    Moves G p G (noteAndTrip s n c p) :=
  .ite (fun _ => .refl) fun _ => (takeTrip_moves _ _ _ _ _).after (notePoles_calm _ _ _).moves

theorem blindCheck_moves {G : Loose} (p : Part) : Moves G p G (blindCheck p) :=
  .ite (fun _ => noteAndTrip_moves _ _ _ _) fun _ => .refl

theorem protectiveAsk_moves {G : Loose} (s : PoleSet) (m : Bool) (p : Part) : Moves G p G (protectiveAsk s m p) := by
  simp only [protectiveAsk, seqTrip]
  refine .ite (fun _ => .refl) fun h => ?_
  have hr : p.isRun = true := by
    simp only [Bool.or_eq_true, not_or, Bool.not_eq_true', Bool.not_eq_false] at h
    exact h.2
  have hp := sqProtect_moves (G := G) s m false p
  have ht := takeTrip_clears (G := { G with awaiting := G.awaiting.union ((sqProtect s m false p).2.inter p.dc.seqPoles) })
    (sqProtect s m false p).2 .PROTECTIVE .SEQUENCER none (p := (sqProtect s m false p).1)
    (by simpa [Part.isRun] using hr)
  refine (ht.after hp).widen fun x hx => ?_
  simp only [PoleSet.has_diff, PoleSet.has_union, PoleSet.has_inter, Bool.and_eq_true, Bool.or_eq_true] at hx
  exact hx.1.resolve_right fun h => by simp [h.1] at hx

/-! ### The end of an operation (R14, R50 to R61) -/

theorem lockWithGang_moves {G : Loose} (l : LockSet) (b : Bool) (p : Part) : Moves G p G (lockWithGang l b p) :=
  .ite (fun _ => (noteAndTrip_moves _ _ _ _).after (enterLockout_moves _ _)) fun _ => enterLockout_moves _ _

theorem countShots_calm (f : Flight) (p : Part) : Calm p (countShots f p) :=
  Calm.after (.of_mapSeq fun _ _ => .of_same rfl rfl) (.of_mapSeq fun _ _ => .of_same rfl rfl)

theorem restartLeft_calm (s : PoleSet) (p : Part) : Calm p (restartLeft s p) :=
  startDeads_calm _ p fun x hx => by simp at hx; exact hx.1.1.2

theorem SeqRec.tripOver_calm (r : SeqRec) : r.Calm r.tripOver := ⟨fun _ => rfl, by simp [tripOver]⟩

theorem SeqRec.opened_calm (r : SeqRec) : r.Calm r.opened := by
  unfold opened
  split
  · exact .of_rest (by simp) (by simp) id
  · exact .of_rest (by simp) (by simp) id
  · exact .of_rest (by simp) (by simp) id
  · exact .refl r

/-- The poles a trip end settles go to DEAD or stay; the others stay calm (R50, R51, R60). -/
theorem settleRec_calm_or (f : Flight) (p : Part) (x : Pole) :
    (p.seq x).Calm (settleRec f p x (p.seq x)) ∨
      (p.seq x).settles = true ∧ (settleRec f p x (p.seq x)).superseded = false := by
  unfold settleRec
  split
  · rename_i h
    refine .inr ⟨by simp [Part.settledBy] at h; exact h.2, ?_⟩
    split <;> rfl
  · split
    · exact .inl ((SeqRec.opened_calm _).trans (SeqRec.tripOver_calm _))
    · exact .inl (SeqRec.tripOver_calm _)

theorem sqTripEnd_moves {N : PoleSet} (f : Flight) (p : Part) :
    Moves ⟨.empty, some N⟩ p ⟨.empty, some N⟩ (sqTripEnd f p) := by
  have hs := (Move.settle (N := N) f.op.poles _ fun x _ => settleRec_calm_or f (countShots f p) x).moves.after
    (countShots_calm f p).moves
  exact (restartLeft_calm _ _).moves.after ((startGang_calm _).moves.after ((lockWithGang_moves _ _ _).after hs))

theorem SeqRec.closed_calm (r : SeqRec) (b : Bool) (t : Reclaim) : r.Calm (r.closed b t) := by
  unfold closed
  split
  · exact toTiming_calm r
  · exact toReclaim_calm r t

theorem sqRecloseEnd_moves {G : Loose} (f : Flight) (r : OpResult) (p : Part) : Moves G p G (sqRecloseEnd f r p) := by
  have hm (s : PoleSet) : Calm p (mapSeq s (fun x r => r.closed (p.pickedUp x) (reclaimStart p.sqOk p.profile)) p) :=
    .of_mapSeq fun _ _ => SeqRec.closed_calm _ _ _
  have h (s l b) := (lockWithGang_moves (G := G) l b _).after (hm s).moves
  exact Moves.ite (fun _ => (coldLoadTest_calm _ _).moves.after (h _ _ _)) fun _ => h _ _ _

theorem sqManualEnd_moves {G : Loose} (f : Flight) (r : OpResult) (p : Part) : Moves G p G (sqManualEnd f r p) := by
  have hr (r : SeqRec) : r.Calm { r with shot := p.profile.opsToLockout - 1, lockout := none } := .of_same rfl rfl
  have hm : Calm p (mapSeq (f.op.poles.inter f.moved) (fun x r =>
      { r with shot := p.profile.opsToLockout - 1, lockout := none }.closed
        (p.pickedUp x) (reclaimStart p.sqOk p.profile)) p) :=
    .of_mapSeq fun x _ => (hr (p.seq x)).trans (SeqRec.closed_calm _ _ _)
  have h (l) := (enterLockout_moves (G := G) l _).after hm.moves
  exact Moves.ite (fun _ => (coldLoadTest_calm _ _).moves.after (h _)) fun _ => h _

theorem sqOperationEnd_moves {N : PoleSet} (f : Flight) (r : OpResult) (p : Part) :
    Moves ⟨.empty, some N⟩ p ⟨.empty, some N⟩ (sqOperationEnd f r p) := by
  unfold sqOperationEnd
  split
  · exact sqTripEnd_moves f p
  · exact sqRecloseEnd_moves f r p
  · exact sqManualEnd_moves f r p

theorem clearHandle_calm (f : Flight) (r : OpResult) (p : Part) : Calm p (clearHandle f r p) :=
  .ite (fun _ => .of_mapPoles fun _ _ => rfl) fun _ => .refl p

/-- A fired operation ends: the operation in flight, or it with more poles moved (R14). -/
theorem finish_moves {f g : Flight} {p : Part} (r : OpResult) (h : p.dc.flight = some f) (hf : g.fire = f.fire) :
    Moves .none p .none (finish g r p) :=
  Move.freed.moves.after ((clearHandle_calm _ _ _).moves.after ((endLast_calm _ _ _).moves.after
    ((sqOperationEnd_moves g r _).after (endFirst_moves (G := .none) h hf))))

@[simp] theorem setMech_dc_flight (c : MechCause) (x : Pole) (p : Part) : (setMech c x p).dc.flight = p.dc.flight := by
  simp only [setMech]
  split <;> simp

theorem finishUnmoved_moves {f : Flight} {p : Part} (h : p.dc.flight = some f) :
    Moves .none p .none (finishUnmoved f p) :=
  (finish_moves _ (by rw [applyAll_keeps (fun q => q.dc.flight) (setMech_dc_flight _), h]) rfl).after
    (Calm.applyAll (setMech_calm _) _ p).moves

theorem endUnfiredTrip_moves {op : OpRec} {p : Part} (h : p.dc.flight = none) :
    Moves .none p .none (endUnfiredTrip op p) :=
  Move.freed.moves.after ((sendEnds_calm _ _ _).moves.after
    ((sqTripEnd_moves _ _).after (Move.landUnfired (G := .none) op.poles h).moves))

/-! ### The judgements (R71, R120, R126, R130, R148) -/

theorem judgeDeficit_calm (p : Part) : Calm p (judgeDeficit p) := by
  unfold judgeDeficit
  split
  · exact .refl p
  · refine .ite (fun _ => .refl p) fun _ => .ite (fun _ => .ite (fun _ => ?_) fun _ => .refl p) fun _ =>
      .ite (fun _ => ?_) fun _ => .refl p
    · exact .of_core rfl rfl rfl id
    · exact (enterReport_calm _ _ _ _).after (.of_core rfl rfl rfl id)

theorem grantUnits_moves {G : Loose} (us : List PoleSet) {p : Part} (h : p.nu.waiting = us) :
    Moves G p G (grantUnits us p) := by
  induction us generalizing p with
  | nil => exact .refl
  | cons u us ih =>
    unfold grantUnits
    refine .ite (fun _ => (ih ?_).after (Move.grant u us h).moves) fun _ => .refl
    exact applyAll_keeps (fun q => q.nu.waiting) (f := pendingEntry) (fun _ _ => rfl) _ _

theorem energyJudge_moves {G : Loose} (p : Part) : Moves G p G (energyJudge p) :=
  (judgeDeficit_calm _).moves.after ((grantUnits_moves _ rfl).after (Calm.of_core (p := p) (q := recountReserve p) rfl rfl rfl id).moves)

theorem suspendTest_calm (p : Part) : Calm p (suspendTest p) := .ite (fun _ => .of_core rfl rfl rfl id) fun _ => .refl p

theorem refresh_moves {G : Loose} (p : Part) : Moves G p G (refresh p) :=
  (suspendTest_calm _).moves.after ((judgeQuiescence_calm _).moves.after (energyJudge_moves p))

theorem tellLockouts_calm (b a : Part) : Calm a (tellLockouts b a) :=
  Calm.ite (fun _ => .refl a) fun _ => (enterReport_calm _ _ _ _).after (.of_core rfl rfl rfl id)

theorem reportLockouts_calm (b a : Part) : Calm a (reportLockouts b a) :=
  .ite (fun _ => .refl a) fun _ =>
    Calm.trans ((tellLockouts_calm b _).after (retain_calm .LOCKOUT a)) (.of_core rfl rfl rfl id)

theorem endEvent_moves {G : Loose} (b a : Part) : Moves G a G (endEvent b a) :=
  (refresh_moves _).after (reportLockouts_calm b a).moves

end Sys2Proof.Machine
end

section
/-! PROOFS. The moves of the Drive Controller's steps and requests and of the Sequencer's timers (chapters 1 and 3). -/

namespace Sys2Proof.Machine

/-! ### Firing and the windows (R9 to R13) -/

theorem fireTrip_moves {t : PendingTrip} {p : Part} (ht : p.dc.trip = some t) (hf : p.dc.flight = none) :
    Moves .none p .none (fireTrip t p) := by
  by_cases he : (p.fireSet t).isEmpty = true
  · have hc : Calm p { p with dc := { p.dc with trip := none } } :=
      ⟨⟨fun _ => rfl, rfl, .inr rfl, .inl rfl, .inl rfl, rfl, rfl⟩, fun _ => .refl _, rfl, id⟩
    simp only [fireTrip, he, if_true]
    exact Moves.after (p := p) (endUnfiredTrip_moves (by exact hf)) hc.moves
  · exact (Move.fireTrip t ht hf (by simpa using he)).moves

theorem tripFire_moves (p : Part) : Moves .none p .none (tripFire p) := by
  unfold tripFire
  split
  · exact fireTrip_moves ‹_› ‹_›
  · exact .refl

theorem tripWindowExpiry_moves (p : Part) : Moves .none p .none (tripWindowExpiry p) := by
  unfold tripWindowExpiry
  split
  · rename_i f hf
    exact .ite (fun hp => .ite (fun _ => finish_moves _ hf rfl) fun _ => (Move.gap hf hp).moves) fun _ => .refl
  · exact .refl

theorem retryFire_moves (p : Part) : Moves .none p .none (retryFire p) := by
  unfold retryFire
  split
  · rename_i f hf
    refine .ite (fun hp => .ite (fun _ => finish_moves _ hf rfl) fun _ => (Move.fly _ hf ?_).moves) fun _ => .refl
    exact ⟨rfl, rfl, fun _ => rfl, by simp [hp], rfl, rfl, rfl, rfl⟩
  · exact .refl

theorem retryWindowExpiry_moves (p : Part) : Moves .none p .none (retryWindowExpiry p) := by
  unfold retryWindowExpiry
  split
  · exact .ite (fun _ => finishUnmoved_moves ‹_›) fun _ => .refl
  · exact .refl

theorem closeWindowExpiry_moves (p : Part) : Moves .none p .none (closeWindowExpiry p) := by
  unfold closeWindowExpiry
  split
  · exact .ite (fun _ => finishUnmoved_moves ‹_›) fun _ => .refl
  · exact .refl

theorem windowExpiry_moves (p : Part) : Moves .none p .none (windowExpiry p) := by
  unfold windowExpiry
  split
  · split
    · exact tripWindowExpiry_moves p
    · exact retryFire_moves p
    · exact retryWindowExpiry_moves p
    · exact closeWindowExpiry_moves p
  · exact .refl

/-! ### Contact changes (R2, R17, R18, R62) -/

/-- What an operation in flight has seen leaves its fire set as it was. -/
@[simp] theorem Flight.sees_fire (f : Flight) (x : Pole) (new : Position) : (f.sees x new).fire = f.fire := by
  unfold sees
  split <;> repeat' split
  all_goals rfl

theorem flightContact_moves {x : Pole} {new : Position} {p : Part} (h : (p.dc.poles.get x).motion ≠ .NONE) :
    Moves .none p .none (flightContact x new p) := by
  unfold flightContact
  split
  · rename_i f hf
    exact .ite (fun _ => finish_moves _ hf (f.sees_fire x new)) fun _ => (Move.sees x new hf h).moves
  · exact .refl

theorem uncommandedOpening_moves {G : Loose} (x : Pole) (p : Part) : Moves G p G (uncommandedOpening x p) := by
  simp only [uncommandedOpening]
  refine (Calm.of_setSeq ?_).moves.after ((enterLockout_moves _ _).after
    ((enterReport_calm _ _ _ _).after (.of_setPole ?_)).moves)
  · exact .of_same rfl rfl
  · rfl

theorem SeqRec.handClosed_calm (r : SeqRec) (b : Bool) : r.Calm (r.handClosed b) :=
  .of_rest (by simp only [handClosed]; split <;> simp) (by simp only [handClosed]; split <;> simp) (by simp [handClosed])

theorem uncommandedClosing_moves {G : Loose} (x : Pole) (p : Part) : Moves G p G (uncommandedClosing x p) := by
  simp only [uncommandedClosing]
  refine .ite (fun _ => (noteAndTrip_moves _ _ _ _).after ?_) fun _ => ?_
  all_goals
    refine (judgeQuiescence_calm _).moves.after ((Calm.of_setSeq (SeqRec.handClosed_calm _ _)).moves.after
      ((enterReport_calm _ _ _ _).moves.after ((Loose.unclear _).after ((clearEntries_moves _ _).after
        (Calm.of_setPole ?_).moves))))
    rfl

theorem uncommanded_moves {G : Loose} (x : Pole) (b : Bool) (new : Position) (p : Part) :
    Moves G p G (uncommanded x b new p) := by
  unfold uncommanded
  split
  · exact .ite (fun _ => .refl) fun _ => uncommandedOpening_moves x p
  · exact uncommandedClosing_moves x p
  · exact .refl

theorem setInputs_calm (x : Pole) (a b c : Bool) (p : Part) : Calm p (setInputs x a b c p) := by
  have h : Calm p (p.setPole x ((p.dc.poles.get x).contacts a b)) := .of_setPole rfl
  exact h.trans ⟨⟨fun _ => rfl, rfl, .inl rfl, .inl rfl, .inl rfl, rfl, rfl⟩, fun _ => .refl _, rfl, id⟩

/-- The inputs of a pole leave every motion as it was. -/
@[simp] theorem setInputs_motion (x y : Pole) (a b c : Bool) (p : Part) :
    ((setInputs x a b c p).dc.poles.get y).motion = (p.dc.poles.get y).motion :=
  (setInputs_calm x a b c p).drive.motion y

theorem SeqRec.moved_calm (r : SeqRec) (old new : Position) : r.Calm (r.moved old new) := by
  simp only [moved]
  repeat' split
  all_goals exact .of_same rfl rfl

theorem contactChange_moves (x : Pole) (a b c : Bool) (p : Part) : Moves .none p .none (contactChange x a b c p) := by
  simp only [contactChange]
  have hi := setInputs_calm x a b c p
  have hs (r) (h : ((setInputs x a b c p).seq x).Calm r) := (Calm.of_setSeq (x := x) h).after hi
  refine .ite (fun _ => hi.moves) fun _ => ?_
  have hm : Moves .none p .none (if (p.dc.poles.get x).motion = .NONE then
        uncommanded x (p.dc.poles.get x).backToOpen ((setInputs x a b c p).position x) ((setInputs x a b c p).setSeq x
          (((setInputs x a b c p).seq x).moved (p.position x) ((setInputs x a b c p).position x)))
      else flightContact x ((setInputs x a b c p).position x) ((setInputs x a b c p).setSeq x
          (((setInputs x a b c p).seq x).moved (p.position x) ((setInputs x a b c p).position x)))) :=
    .ite (fun _ => (uncommanded_moves _ _ _ _).after (hs _ (SeqRec.moved_calm _ _ _)).moves)
      fun hn => (flightContact_moves (by simpa using hn)).after (hs _ (SeqRec.moved_calm _ _ _)).moves
  exact .ite (fun _ => hm) fun _ => (blindCheck_moves _).after hm

/-! ### The arbiter (R7, R8) -/

theorem closeFired_flight (op : OpRec) (p : Part) : (closeFired op p).dc.flight = some (closeFlight op p) := rfl

/-- A close that has been fired stays in flight, or ends with the fire (R11). -/
theorem fireClose_moves (op : OpRec) {p q : Part} (h : Moves .none p .none (closeFired op q)) :
    Moves .none p .none (fireClose op q) :=
  Moves.ite (fun _ => (finish_moves _ (closeFired_flight op q) rfl).after h) fun _ => h

theorem startCrew_moves {e : LinkClose} {p : Part} (he : p.dc.crew = some e) (hf : p.dc.flight = none) :
    Moves .none p .none (startCrew e p) :=
  .ite (fun _ => (endCrewEntry_calm _ _).moves) fun _ => .ite (fun _ => (endCrewEntry_calm _ _).moves) fun _ =>
    fireClose_moves e.op (Move.fireCrew e he hf).moves

theorem startRadio_moves {e : LinkClose} {p : Part} (he : p.dc.radio = some e) (hf : p.dc.flight = none) :
    Moves .none p .none (startRadio e p) :=
  .ite (fun _ => (endRadioEntry_calm _ _).moves) fun _ => .ite (fun _ => (endRadioEntry_calm _ _).moves) fun _ =>
    fireClose_moves e.op (Move.fireRadio e he hf).moves

theorem tagOutEntries_moves {G : Loose} (s : PoleSet) (p : Part) : Moves G p G (tagOutEntries s p) := enterLockout_moves _ _

@[simp] theorem tagOutEntries_dc_flight (s : PoleSet) (p : Part) : (tagOutEntries s p).dc.flight = p.dc.flight :=
  enterLockout_dc_flight _ _

theorem nextOp_calm (p : Part) : Calm p { p with dc := { p.dc with nextOp := wrapNext p.dc.nextOp } } :=
  ⟨⟨fun _ => rfl, rfl, .inl rfl, .inl rfl, .inl rfl, rfl, rfl⟩, fun _ => .refl _, rfl, id⟩

theorem startSeq_moves {p : Part} (hf : p.dc.flight = none) : Moves .none p .none (startSeq p) := by
  simp only [startSeq]
  have ht (s) := (tagOutEntries_moves (G := .none) s _).after (nextOp_calm p).moves
  refine .ite (fun _ => ht _) fun _ => .ite (fun _ => Move.split.moves.after (ht _)) fun _ => fireClose_moves _ ?_
  exact (Move.fireSeq _ rfl rfl (by simpa using hf)).moves.after (ht _)

theorem closeStartRest_moves {p : Part} (hf : p.dc.flight = none) : Moves .none p .none (closeStart.closeStartRest p) := by
  unfold closeStart.closeStartRest
  refine .ite (fun _ => startSeq_moves hf) fun _ => ?_
  split
  · exact startRadio_moves ‹_› hf
  · exact .refl

theorem closeStart_moves (p : Part) : Moves .none p .none (closeStart p) := by
  unfold closeStart
  refine .ite (fun hd => ?_) fun _ => .refl
  have hf : p.dc.flight = none := by simp [Part.closeDue] at hd; simp [hd]
  split
  · exact .ite (fun _ => startCrew_moves ‹_› hf) fun _ => closeStartRest_moves hf
  · exact closeStartRest_moves hf

theorem closeDelayExpiry_moves {G : Loose} (p : Part) : Moves G p G (closeDelayExpiry p) := by
  unfold closeDelayExpiry
  split
  · rename_i e he
    split
    · refine (Move.crew _ (.inr ⟨e, he, ?_, ?_⟩)).moves <;> rfl
    · exact .refl
  · exact .refl

/-! ### Requests of the Drive Controller -/

theorem tripRequest_moves {G : Loose} (l : Link) (tag s f : Byte) (p : Part) : Moves G p G (tripRequest l tag s f p).1 := by
  unfold tripRequest
  split
  · exact .refl
  · exact takeTrip_moves _ _ _ _ _

theorem reserve_calm (e : EntryName) (n : Nat) (p : Part) : Calm p (reserve e n p) := .of_core rfl rfl rfl id

theorem acceptClose_moves {G : Loose} (l : Link) (tag : Byte) (asked s : PoleSet) (p : Part) :
    Moves G p G (acceptClose l tag asked s p) := by
  refine (enterLockout_moves _ _).after (.ite (fun _ => ?_) fun _ => ?_)
  · exact (reserve_calm _ _ _).moves.after ((Move.crew _ (.inl ⟨rfl, by simp⟩)).moves.after (nextOp_calm p).moves)
  · exact (reserve_calm _ _ _).moves.after ((Move.radio _ rfl (by simp)).moves.after (nextOp_calm p).moves)

theorem closeRequest_moves {G : Loose} (l : Link) (tag s : Byte) (c : Nat) (p : Part) :
    Moves G p G (closeRequest l tag s c p).1 := by
  simp only [closeRequest]
  repeat' split
  all_goals first | exact .refl | exact acceptClose_moves _ _ _ _ _

theorem closeCancelRequest_calm (p : Part) : Calm p (closeCancelRequest p).1 := by
  unfold closeCancelRequest
  repeat' split
  · exact endCrewEntry_calm _ _
  · exact .refl p
  · exact .refl p

theorem clearMechFaultRequest_calm (c : Nat) (s : Byte) (p : Part) : Calm p (clearMechFaultRequest c s p).1 := by
  unfold clearMechFaultRequest
  repeat' split
  all_goals first | exact .refl p | exact .of_mapPoles fun _ _ => rfl

theorem resetWearRequest_calm (l : Link) (tag : Byte) (c : Nat) (s : Byte) (p : Part) :
    Calm p (resetWearRequest l tag c s p).1 := by
  unfold resetWearRequest
  repeat' split
  all_goals first | exact .refl p | exact (retainFor_calm _ _ _).after (.of_mapPoles fun _ _ => rfl)

/-! ### The Sequencer's timers (R53, R54, R56, R62) -/

theorem SeqRec.deadStopped_calm {r : SeqRec} (h : r.state = .DEAD) : r.Calm r.deadStopped := .of_same h.symm rfl

theorem deadTimerExpiry_moves (x : Pole) (p : Part) : Moves .none p .none (deadTimerExpiry x p) := by
  simp only [deadTimerExpiry]
  refine .ite (fun _ => .ite (fun _ => (Calm.of_mapSeq fun y hy => ?_).moves) fun _ =>
    .ite (fun _ => (Move.place _ fun y hy => ?_).moves) fun _ => enterLockout_moves _ _) fun _ => .refl
  · exact SeqRec.deadStopped_calm (by simp at hy; exact hy.2)
  · simp at hy
    exact hy.2

theorem reclaimTimerExpiry_calm (x : Pole) (p : Part) : Calm p (reclaimTimerExpiry x p) :=
  .ite (fun _ => (enterReport_calm _ _ _ _).after ((judgeQuiescence_calm _).after
    (.of_mapSeq fun _ _ => .of_rest (by simp [SeqRec.reset]) (by simp [SeqRec.reset]) id))) fun _ => .refl p

theorem energyWaitLimit_moves {G : Loose} (x : Pole) (p : Part) : Moves G p G (energyWaitLimit x p) :=
  .ite (fun _ => lockWithGang_moves _ _ _) fun _ => .refl

theorem openCountTick_calm (x : Pole) (p : Part) : Calm p (openCountTick x p) :=
  .ite (fun _ => .of_setSeq (.of_same rfl rfl)) fun _ => .refl p

end Sys2Proof.Machine
end

section
/-! PROOFS. The moves of the Battery Controller, the Profile Unit, the Tag Unit, the Element Unit and the start-up (chapters 2, 4, 5,
7 and 10). -/

namespace Sys2Proof.Machine

/-! ### The Battery Controller (chapter 7) -/

/-- A change of the Battery Controller alone. -/
theorem Calm.of_bc {p : Part} (b : Battery) : Calm p { p with bc := b } := .of_core rfl rfl rfl id

theorem judgeHeater_calm (p : Part) : Calm p (judgeHeater p) := .of_bc _

theorem judgeLine_calm (p : Part) : Calm p (judgeLine p) := .of_core rfl rfl rfl id

theorem moveMode_calm (m : ChargerMode) (p : Part) : Calm p (moveMode m p) := by
  simp only [moveMode]
  exact .ite (fun _ => .refl p) fun _ => .ite (fun _ => .of_bc _) fun _ =>
    Calm.after (enterReport_calm _ _ _ _) (.of_bc _)

theorem testEnd_calm (t : TestRec) (r : TestResult) (p : Part) : Calm p (testEnd t r p) := by
  unfold testEnd
  split
  · exact send_calm _ _ _
  · exact .refl p

theorem abandonTest_calm (m : ChargerMode) (b : Bool) (p : Part) : Calm p (abandonTest m b p) := by
  simp only [abandonTest]
  exact .ite (fun _ => (testEnd_calm _ _ _).after
    (.ite (fun _ => Calm.after (enterReport_calm _ _ _ _) (.of_bc _)) fun _ => .of_bc _)) fun _ => .refl p

theorem abandonRestoring_calm (p : Part) : Calm p (abandonRestoring p) := abandonTest_calm _ _ _

theorem exhaustionTrip_moves {G : Loose} (p : Part) : Moves G p G (exhaustionTrip p).1 := by
  unfold exhaustionTrip
  split
  · exact (tellLockouts_calm _ _).moves.after (takeTrip_moves _ _ _ _ _)
  · exact .refl

theorem judgeExhaustion_moves {G : Loose} (p : Part) : Moves G p G (judgeExhaustion p) :=
  .ite (fun _ => (Calm.of_bc _).moves.after ((enterReport_calm _ _ _ _).moves.after (exhaustionTrip_moves p))) fun _ => .refl

theorem levelWait_moves {G : Loose} (p : Part) : Moves G p G (levelWait p) :=
  .ite (fun _ => judgeExhaustion_moves p) fun _ => (Calm.of_bc _).moves

theorem levelChanged_moves {G : Loose} (l : EnergyLevel) (p : Part) : Moves G p G (levelChanged l p) := by
  simp only [levelChanged]
  have h (body) : Calm p (judgeHeater (retain .SOC (reportLevel l (judgeLine
      (enterReport .LEVEL_CHANGE none body { p with bc := { p.bc with level := l } }))))) :=
    (judgeHeater_calm _).after ((retain_calm _ _).after ((reportLevel_calm _ _).after ((judgeLine_calm _).after
      ((enterReport_calm _ _ _ _).after (.of_bc _)))))
  exact (levelWait_moves _).after (Calm.ite (fun _ => h _) fun _ => (abandonRestoring_calm _).after (h _)).moves

theorem judgeLevel_moves {G : Loose} (p : Part) : Moves G p G (judgeLevel p) :=
  .ite (fun _ => .refl) fun _ => levelChanged_moves _ p

theorem setSoc_moves {G : Loose} (n m : Nat) (p : Part) : Moves G p G (setSoc n m p) :=
  .ite (fun _ => (Calm.of_bc _).moves) fun _ => (judgeLevel_moves _).after (Calm.of_bc _).moves

theorem takeUnit_moves {G : Loose} (p : Part) : Moves G p G (takeUnit p) :=
  .ite (fun _ => judgeLevel_moves p) fun _ => (judgeLevel_moves _).after (Calm.of_bc _).moves

theorem taperResync_moves {G : Loose} (p : Part) : Moves G p G (taperResync p) := by
  unfold taperResync
  split
  · exact (setSoc_moves _ _ _).after (Calm.of_bc _).moves
  · exact .refl

theorem socPeriodicWrite_calm (p : Part) : Calm p (socPeriodicWrite p) :=
  .ite (fun _ => Calm.after (retain_calm _ _) (.of_bc _)) fun _ => .refl p

theorem inhibitCharger_calm (m : ChargerMode) (p : Part) : Calm p (inhibitCharger m p) :=
  .ite (fun _ => Calm.after (enterReport_calm _ _ _ _) (Calm.after (abandonTest_calm _ _ _) (.of_bc _)))
    fun _ => (abandonTest_calm _ _ _).after (moveMode_calm _ _)

theorem chargerRuns_calm (v : BatValues) (p : Part) : Calm p (chargerRuns v p) := .of_bc _

theorem leaveInhibit_calm (t : Int) (p : Part) : Calm p (leaveInhibit t p) :=
  .ite (fun _ => moveMode_calm _ p) fun _ => .refl p

theorem leaveBulk_calm (v : Nat) (p : Part) : Calm p (leaveBulk v p) :=
  .ite (fun _ => moveMode_calm _ p) fun _ => .refl p

theorem chargerMessage_calm (v : BatValues) (p : Part) : Calm p (chargerMessage v p) := by
  simp only [chargerMessage]
  refine .ite (fun _ => chargerRuns_calm v p) fun _ => ?_
  split
  · exact .ite (fun _ => .refl p) fun _ => inhibitCharger_calm _ p
  · exact (chargerRuns_calm _ _).after ((leaveBulk_calm _ _).after (leaveInhibit_calm _ _))

theorem takeBattery_moves {G : Loose} (v : BatValues) (b : Bool) (p : Part) : Moves G p G (takeBattery v b p) := by
  have h (c) : Moves G p G (chargeCount v { p with bc := c }) := (setSoc_moves _ _ _).after (Calm.of_bc _).moves
  exact .ite (fun _ => ((judgeHeater_calm _).after (chargerMessage_calm _ _)).moves.after (h _)) fun _ => h _

theorem batteryMeas_calm (b : Bool) (p : Part) : Calm p (batteryMeas b p) :=
  (judgeHeater_calm _).after (.ite (fun _ => .refl p) fun _ => .of_bc _)

theorem absorbTaperExpiry_calm (p : Part) : Calm p (absorbTaperExpiry p) := by
  unfold absorbTaperExpiry
  split
  · exact .ite (fun _ => moveMode_calm _ p) fun _ => .refl p
  · exact .refl p

theorem absorbTimeExpiry_calm (p : Part) : Calm p (absorbTimeExpiry p) := by
  unfold absorbTimeExpiry
  split
  · exact .ite (fun _ => moveMode_calm _ p) fun _ => .refl p
  · exact .refl p

theorem floatLowExpiry_calm (p : Part) : Calm p (floatLowExpiry p) := by
  unfold floatLowExpiry
  split
  · exact .ite (fun _ => moveMode_calm _ p) fun _ => .refl p
  · exact .refl p

theorem beginTest_calm (p : Part) : Calm p (beginTest p) := .of_bc _

theorem setUpTest_calm (o : TestOrigin) (t : Option Byte) (p : Part) : Calm p (setUpTest o t p) :=
  .ite (fun _ => .of_bc _) fun _ => Calm.after (beginTest_calm _) (.of_bc _)

theorem batteryTestRequest_calm (l : Link) (t : Byte) (p : Part) : Calm p (batteryTestRequest l t p).1 := by
  unfold batteryTestRequest
  split
  · exact .refl p
  · exact setUpTest_calm _ _ p

theorem endTest_moves {G : Loose} (t : TestRec) (p : Part) : Moves G p G (endTest t p) := by
  have h (b : Battery) (body) : Moves G p G
      (enterReport .BATTERY_TEST_RESULT none body (judgeLevel (retain .HOURS (retain .HEALTH { p with bc := b })))) :=
    (enterReport_calm _ _ _ _).moves.after ((judgeLevel_moves _).after
      ((retain_calm _ _).after ((retain_calm _ _).after (.of_bc _))).moves)
  simp only [endTest]
  exact (testEnd_calm _ _ _).moves.after (.ite (fun _ => (enterReport_calm _ _ _ _).moves.after (h _ _)) fun _ => h _ _)

theorem testStepComplete_moves {G : Loose} (p : Part) : Moves G p G (testStepComplete p) :=
  .ite (fun _ => .ite (fun _ => (Calm.of_bc _).moves) fun _ => endTest_moves _ p) fun _ => .refl

theorem testSuspendLimit_calm (p : Part) : Calm p (testSuspendLimit p) := .ite (fun _ => .of_bc _) fun _ => .refl p

theorem testResume_calm (p : Part) : Calm p (testResume p) := .ite (fun _ => beginTest_calm p) fun _ => .refl p

theorem judgePosting_calm (p : Part) : Calm p (judgePosting p) := .ite (fun _ => .of_bc _) fun _ => .refl p

theorem testIntervalHour_calm (p : Part) : Calm p (testIntervalHour p) :=
  .ite (fun _ => (judgePosting_calm _).after ((retain_calm _ _).after (.of_bc _))) fun _ => .refl p

theorem periodicTestBegin_calm (p : Part) : Calm p (periodicTestBegin p) :=
  .ite (fun _ => setUpTest_calm _ _ p) fun _ => .refl p

theorem supplyLost_moves {G : Loose} (p : Part) : Moves G p G (supplyLost p) := by
  have h : Calm p (if p.bc.testRunning then abandonTest .OFF true
        { p with bc := ({ p.bc with supply := false } : Battery).timersFor .OFF }
      else abandonTest .OFF true (moveMode .OFF { p with bc := { p.bc with supply := false } })) :=
    .ite (fun _ => Calm.after (abandonTest_calm _ _ _) (.of_bc _)) fun _ =>
      (abandonTest_calm _ _ _).after (Calm.after (moveMode_calm _ _) (.of_bc _))
  exact (judgeExhaustion_moves _).after ((judgeHeater_calm _).after ((enterReport_calm _ _ _ _).after h)).moves

theorem supplyReturned_calm (p : Part) : Calm p (supplyReturned p) :=
  (judgeHeater_calm _).after ((enterReport_calm _ _ _ _).after (Calm.after (moveMode_calm _ _) (.of_bc _)))

/-! ### The Profile Unit (chapter 4) -/

theorem releaseClaim_calm (p : Part) : Calm p (releaseClaim p) := .of_pu _

theorem settingsEnd_calm (l : Link) (t : Byte) (r : SettingsResult) (p : Part) : Calm p (settingsEnd l t r p) := send_calm _ _ _

theorem editBeginRequest_calm (l : Link) (t : Byte) (p : Part) : Calm p (editBeginRequest l t p).1 := by
  unfold editBeginRequest takeClaim
  repeat' split
  all_goals first | exact .refl p | exact .of_pu _

theorem editPutRequest_calm (l : Link) (b : List Byte) (p : Part) : Calm p (editPutRequest l b p).1 := by
  unfold editPutRequest
  repeat' split
  all_goals first | exact .refl p | exact .of_pu _

theorem setGroup_calm (n : Nat) (g : Group) (p : Part) : Calm p (setGroup n g p) := .of_pu _

theorem commitUnit_moves {G : Loose} (u : UnitRec) (p : Part) : Moves G p G (commitUnit u p) :=
  (takeUnit_moves _).after (Calm.of_pu _).moves

theorem commitPassed_moves {G : Loose} (l : Link) (t : Byte) (c : Claim) (p : Part) : Moves G p G (commitPassed l t c p).1 := by
  unfold commitPassed
  split
  · exact (retainFor_calm _ _ _).moves.after (commitUnit_moves _ p)
  · split
    · exact (Calm.of_pu _).moves
    · refine ((retainFor_calm _ _ _).after (judged_calm ?_)).moves
      exact (releaseClaim_calm _).after (setGroup_calm _ _ _)

theorem editCommitRequest_moves {G : Loose} (l : Link) (t : Byte) (p : Part) : Moves G p G (editCommitRequest l t p).1 := by
  unfold editCommitRequest
  repeat' split
  all_goals first | exact .refl | exact commitPassed_moves _ _ _ p

theorem dropClaim_calm (p : Part) : Calm p (dropClaim p) := by
  unfold dropClaim
  repeat' split
  · exact .refl p
  · exact releaseClaim_calm p
  · exact (releaseClaim_calm _).after (settingsEnd_calm _ _ _ p)

theorem endSelection_calm (r : SettingsResult) (p : Part) : Calm p (endSelection r p) := by
  unfold endSelection
  split
  · exact .refl p
  · exact Calm.after (settingsEnd_calm _ _ _ _) (.of_pu _)

theorem editDropRequest_calm (l : Link) (p : Part) : Calm p (editDropRequest l p).1 := by
  unfold editDropRequest
  split
  · exact .refl p
  · exact dropClaim_calm p

theorem claimTimerExpiry_calm (p : Part) : Calm p (claimTimerExpiry p) := by
  unfold claimTimerExpiry
  repeat' split
  · exact releaseClaim_calm p
  · exact .refl p
  · exact .refl p

theorem loadClaimTimer_calm (l : Link) (p : Part) : Calm p (loadClaimTimer l p) := by
  unfold loadClaimTimer
  repeat' split
  · exact .of_pu _
  · exact .refl p
  · exact .refl p
  · exact .refl p

theorem applyHeldCommit_calm (p : Part) : Calm p (applyHeldCommit p) := by
  unfold applyHeldCommit
  split
  · exact (retainFor_calm _ _ _).after ((releaseClaim_calm _).after (setGroup_calm _ _ _))
  · exact .refl p

theorem applyHeldSelection_calm (p : Part) : Calm p (applyHeldSelection p) := by
  unfold applyHeldSelection
  split
  · exact Calm.after (retainFor_calm _ _ _) (.of_pu _)
  · exact .refl p

theorem heldSettingsApply_calm (p : Part) : Calm p (heldSettingsApply p) :=
  .ite (fun _ => judged_calm ((applyHeldSelection_calm _).after (applyHeldCommit_calm p))) fun _ => .refl p

theorem applyIfUnused_calm (p : Part) : Calm p (applyIfUnused p) := by
  unfold applyIfUnused
  split
  · exact .ite (fun _ => .refl p) fun _ => judged_calm (applyHeldCommit_calm p)
  · exact .refl p

theorem selectGroupRequest_calm (l : Link) (t g : Byte) (p : Part) : Calm p (selectGroupRequest l t g p).1 := by
  simp only [selectGroupRequest]
  repeat' split
  · exact .refl p
  · exact endSelection_calm _ p
  · refine (retainFor_calm _ _ _).after (Calm.after (judged_calm ?_) (endSelection_calm _ p))
    exact .of_pu _
  · exact Calm.trans (endSelection_calm _ p) (.of_pu _)

theorem temporaryGroupRequest_calm (g : Byte) (s : Long) (p : Part) : Calm p (temporaryGroupRequest g s p).1 := by
  unfold temporaryGroupRequest
  split
  · exact .refl p
  · refine (applyIfUnused_calm _).after (judged_calm ?_)
    exact .of_pu _

theorem temporaryLeaves_calm (p : Part) : Calm p (temporaryLeaves p) := by
  refine (applyIfUnused_calm _).after (judged_calm ?_)
  exact .of_pu _

theorem temporaryCancelRequest_calm (p : Part) : Calm p (temporaryCancelRequest p).1 := by
  unfold temporaryCancelRequest
  split
  · exact temporaryLeaves_calm p
  · exact .refl p

theorem temporaryExpiry_calm (p : Part) : Calm p (temporaryExpiry p) :=
  .ite (fun _ => temporaryLeaves_calm p) fun _ => .refl p

theorem coldLoadExpiry_calm (p : Part) : Calm p (coldLoadExpiry p) :=
  .ite (fun _ => judged_calm (.of_pu _)) fun _ => .refl p

theorem setHotLineFrame_calm (b : Bool) (p : Part) : Calm p (setHotLineFrame b p) := judged_calm (.of_pu _)

theorem endEdits_calm (f : Link → Bool) (p : Part) : Calm p (endEdits f p) := by
  have hq : Calm p (match p.pu.claim with
      | some c => if f c.holder then dropClaim p else p
      | none => p) := by
    split
    · exact .ite (fun _ => dropClaim_calm p) fun _ => .refl p
    · exact .refl p
  simp only [endEdits]
  split
  · exact .ite (fun _ => (endSelection_calm _ _).after hq) fun _ => hq
  · exact hq

end Sys2Proof.Machine
end

section
/-! PROOFS. The moves of the Tag Unit, the Element Unit, the start-up sequence, DORMANT and the Report Unit (chapters 2, 5, 7, 8
and 10). -/

namespace Sys2Proof.Machine

/-! ### The Tag Unit (chapter 5) -/

/-- A change of the Tag Unit that keeps its tables within their size. -/
theorem Calm.of_tu {p : Part} {u : TagUnit} (ht : p.tu.tags.length ≤ Config.tagMax → u.tags.length ≤ Config.tagMax)
    (hr : p.tu.roster.length ≤ Config.rosterMax → u.roster.length ≤ Config.rosterMax) : Calm p { p with tu := u } :=
  .of_core rfl rfl rfl fun hp => by
    obtain ⟨⟨h1, h2, h3, h4, h5⟩, h6⟩ := (Part.bounded_iff p).1 hp
    exact (Part.bounded_iff _).2 ⟨⟨h1, h2, ht h3, hr h4, h5⟩, h6⟩

theorem tagToDrive_calm (t : Tag) (p : Part) : Calm p (tagToDrive t p) := by
  unfold tagToDrive
  split
  · exact endLinkEntries_calm _ _ p
  · exact endLinkEntries_calm _ _ p
  · exact endRadioEntry_calm _ p
  · exact .refl p

theorem tagToSequencer_moves {G : Loose} (t : Tag) (p : Part) : Moves G p G (tagToSequencer t p) :=
  (tellLockouts_calm p _).moves.after
    (.ite (fun _ => (blindCheck_moves _).after (enterLockout_moves _ p)) fun _ => enterLockout_moves _ p)

theorem tagToProfile_calm (t : Tag) (b : Bool) (p : Part) : Calm p (tagToProfile t b p) :=
  .ite (fun _ => setHotLineFrame_calm _ p) fun _ => .ite (fun _ => endEdits_calm _ p) fun _ => .refl p

theorem tagAppliedReport_calm (t : Tag) (p : Part) : Calm p (tagAppliedReport t p) := enterReport_calm _ _ _ p

theorem applyTag_moves {G : Loose} (l : Link) (r : Byte) (t : Tag) {p : Part} (h : p.tu.tags.length < Config.tagMax) :
    Moves G p G (applyTag l r t p) := by
  have ha : Calm p { p with tu := p.tu.add t } := .of_tu (fun _ => by simpa [TagUnit.add] using h) id
  exact ((retainFor_calm _ _ _).after ((tagAppliedReport_calm _ _).after (tagToProfile_calm _ _ _))).moves.after
    ((tagToSequencer_moves _ _).after ((tagToDrive_calm _ _).after ha).moves)

/-- A tag that is applied finds room in the table (R100). -/
theorem tagRefusal_none_length {l : Link} {k : TagKind} {s : PoleSet} {c : Nat} {p : Part} (h : tagRefusal l k s c p = none) :
    p.tu.tags.length < Config.tagMax := by
  unfold tagRefusal at h
  repeat' split at h
  all_goals first | contradiction | omega

theorem tagApplyRequest_moves {G : Loose} (l : Link) (r k s : Byte) (c : Nat) (n : List Byte) (p : Part) :
    Moves G p G (tagApplyRequest l r k s c n p).1 := by
  unfold tagApplyRequest
  repeat' split
  all_goals first | exact .refl | exact applyTag_moves _ _ _ (tagRefusal_none_length ‹_›)

theorem removeTag_calm (l : Link) (r : Byte) (t : Tag) (b : Remover) (p : Part) : Calm p (removeTag l r t b p) := by
  have h : Calm p { p with tu := { p.tu with tags := p.tu.tags.filter fun g => g.number != t.number } } :=
    .of_tu (fun h => (List.length_filter_le ..).trans h) id
  exact (retainFor_calm _ _ _).after ((enterReport_calm _ _ _ _).after
    (.ite (fun _ => (setHotLineFrame_calm _ _).after h) fun _ => h))

theorem tagRemoveRequest_calm (l : Link) (r n : Byte) (c : Nat) (p : Part) : Calm p (tagRemoveRequest l r n c p).1 := by
  unfold tagRemoveRequest
  split
  · exact .refl p
  · exact removeTag_calm _ _ _ _ p

/-- A roster with an entry put in its place or at the end (R95). -/
theorem length_putEntry (c : Nat) (r : Rights) (v : Option Nat) (es : List RosterEntry) :
    (putEntry c r v es).length = if es.any (fun e => e.crew == c) then es.length else es.length + 1 := by
  unfold putEntry
  split <;> simp

theorem rosterPutRequest_calm (l : Link) (t : Byte) (c : Nat) (r q : Byte) (v : Long) (p : Part) :
    Calm p (rosterPutRequest l t c r q v p).1 := by
  unfold rosterPutRequest
  split
  · simp only [apply_ite Prod.fst]
    refine .ite (fun _ => .refl p) fun _ => .ite (fun _ => .refl p) fun hfull => ?_
    refine (retainFor_calm _ _ _).after (.of_tu id fun hlen => ?_)
    simp only [length_putEntry]
    split
    · exact hlen
    · rename_i hn
      have hnone : (p.tu.entry c).isNone = true := by
        simp only [TagUnit.entry, Option.isNone_iff_eq_none, List.find?_eq_none]
        simpa using hn
      simp only [hnone, Bool.true_and, decide_eq_true_eq] at hfull
      omega
  · exact .refl p

theorem rosterDropRequest_calm (l : Link) (t : Byte) (c : Nat) (p : Part) : Calm p (rosterDropRequest l t c p).1 := by
  unfold rosterDropRequest
  repeat' split
  all_goals
    first
    | exact .refl p
    | exact (retainFor_calm _ _ _).after (.of_tu id fun h => (List.length_filter_le ..).trans h)

theorem expireEntry_calm (c : Nat) (p : Part) : Calm p (expireEntry c p) := by
  refine (retain_calm _ _).after ((enterReport_calm _ _ _ _).after (.of_tu id fun h => ?_))
  simpa using h

theorem judgeRoster_calm (p : Part) : Calm p (judgeRoster p) :=
  .ite (fun _ => Calm.applyAll expireEntry_calm _ p) fun _ => .refl p

theorem rosterExpiry_calm (c : Nat) (p : Part) : Calm p (rosterExpiry c p) := by
  unfold rosterExpiry
  split
  · exact .ite (fun _ => expireEntry_calm c p) fun _ => .refl p
  · exact .refl p

theorem setTimeRequest_calm (s : Long) (m : Half) (p : Part) : Calm p (setTimeRequest s m p).1 := by
  unfold setTimeRequest
  split
  · exact .refl p
  · have h : Calm p { p with tb := ⟨s.toNat, m.toNat, true⟩ } := .of_core rfl rfl rfl id
    exact (judgeRoster_calm _).after h

/-! ### The Element Unit (chapter 2) -/

/-- A change of the Element Unit alone. -/
theorem Calm.of_eu {p : Part} (u : ElementUnit) : Calm p { p with eu := u } := .of_core rfl rfl rfl id

theorem takeBankLevel_calm (n : Nat) (b : Bool) (p : Part) : Calm p (takeBankLevel n b p) :=
  (judgeLine_calm _).after (by exact .of_core rfl rfl rfl id)

theorem markStale_calm (p : Part) : Calm p (markStale p) := .of_core rfl rfl rfl id

theorem tripDecision_moves {G : Loose} (v : Values) (p : Part) : Moves G p G (tripDecision v p) :=
  .ite (fun _ => .refl) fun _ => (protectiveAsk_moves _ _ _).after (Calm.of_eu _).moves

theorem formPickups_calm (p : Part) : Calm p (formPickups p) :=
  (sqDropouts_calm _ _).after ((sqPickups_calm _ _).after (.of_eu _))

theorem evaluate_moves {G : Loose} (v : Values) (p : Part) : Moves G p G (evaluate v p) :=
  (tripDecision_moves v _).after ((formPickups_calm _).after (.of_eu _)).moves

theorem recover_calm (p : Part) : Calm p (recover p) :=
  (enterReport_calm _ _ _ _).after ((batteryMeas_calm _ _).after ((sqDropouts_calm _ _).after
    ((mapReclaim_calm _ _).after (.of_core rfl rfl rfl id))))

theorem countRun_calm (p : Part) : Calm p (countRun p) :=
  .ite (fun _ => .of_eu _) fun _ => .ite (fun _ => .of_eu _) fun _ => (recover_calm _).after (.of_eu _)

theorem goodMessage_moves {G : Loose} (v : Values) (p : Part) : Moves G p G (goodMessage v p) := by
  have h (b w c u) : Moves G p G (takeBattery w c (takeBankLevel v.bank b (countRun { p with eu := u }))) :=
    (takeBattery_moves _ _ _).after ((takeBankLevel_calm _ _ _).after ((countRun_calm _).after (.of_eu _))).moves
  exact .ite (fun _ => (evaluate_moves v _).after (h _ _ _ _)) fun _ => h _ _ _ _

theorem takeMeasurement_moves {G : Loose} (b : List Byte) (p : Part) : Moves G p G (takeMeasurement b p) := by
  have hb : Moves G p G (takeMeasurement.breakRun p) := .ite (fun _ => .refl) fun _ => (Calm.of_eu _).moves
  unfold takeMeasurement
  split
  · exact .ite (fun _ => goodMessage_moves _ p) fun _ => hb
  · exact hb

theorem lossAtSequencer_moves {G : Loose} (p : Part) : Moves G p G (lossAtSequencer p) :=
  (blindCheck_moves _).after ((mapReclaim_calm _ _).moves.after ((enterLockout_moves _ _).after
    (Calm.trans (endLinkEntries_calm .full .BLIND p) (by exact .of_core rfl rfl rfl id)).moves))

theorem lose_moves {G : Loose} (p : Part) : Moves G p G (lose p) :=
  ((enterReport_calm _ _ _ _).after (tellLockouts_calm p _)).moves.after ((lossAtSequencer_moves _).after
    ((batteryMeas_calm _ _).after ((markStale_calm _).after (.of_eu _))).moves)

theorem lossTimerExpiry_moves {G : Loose} (p : Part) : Moves G p G (lossTimerExpiry p) := by
  unfold lossTimerExpiry
  split
  · exact .ite (fun _ => lose_moves p) fun _ => (Calm.of_eu _).moves
  · exact .refl

/-! ### The start-up sequence (R199) -/

theorem length_replaceFirst (f : Nat → Bool) (e : RosterEntry) (es : List RosterEntry) :
    (replaceFirst f e es).length = es.length := by
  induction es with
  | nil => rfl
  | cons r rs ih =>
    unfold replaceFirst
    split <;> simp [ih]

/-- Placeholders keep the roster within its size (R112). -/
theorem withPlaceholders_length (ts : List Tag) {es : List RosterEntry} (h : es.length ≤ Config.rosterMax) :
    (withPlaceholders ts es).length ≤ Config.rosterMax := by
  unfold withPlaceholders
  generalize ts.map (fun t => t.crew) = cs
  induction cs generalizing es with
  | nil => exact h
  | cons c cs ih =>
    refine ih ?_
    unfold enterPlaceholder
    repeat' split
    · exact h
    · simp
      omega
    · simpa [length_replaceFirst] using h

theorem tagsFrom_length {s : Stored} (h : s.bounded = true) : (tagsFrom s).1.length ≤ Config.tagMax := by
  unfold tagsFrom
  split
  · simpa [Stored.bounded, Image.bounded] using h
  · simp

theorem rosterFrom_length {s : Stored} (h : s.bounded = true) : (rosterFrom s).length ≤ Config.rosterMax := by
  unfold rosterFrom
  split
  · simpa [Stored.bounded, Image.bounded] using h
  · simp

theorem WriteRec.bounded_stored {w : WriteRec} (h : w.bounded = true) : w.stored.bounded = true :=
  ((WriteRec.bounded_iff w).1 h).1

/-- The records of the start-up before it judges: the settings, the drive, the Sequencer and the lists. -/
theorem startLists_fits (gap : Bool) (p : Part) :
    Fits p (startLists gap (startSequencer (startDrive (startSettings p)))) := fun hp => by
  obtain ⟨⟨_, _, _, _, hh, hl⟩, hrs⟩ := (Part.bounded_iff p).1 hp
  have hs : ∀ i, (p.rs.get i).stored.bounded = true := fun i => WriteRec.bounded_stored (hrs i)
  refine (Part.bounded_iff _).2 ⟨⟨Nat.zero_le _, Nat.zero_le _, tagsFrom_length (hs .TAGS),
    withPlaceholders_length _ (rosterFrom_length (hs .ROSTER)), hh, hl⟩, fun i => ?_⟩
  simpa [startLists, startSequencer, startDrive, startSettings, WriteRec.restored, idleWrite, WriteRec.bounded] using hs i

theorem startSeqRec_state (x : Position) (c : Option LockCause) :
    (startSeqRec x c).state ≠ .DEAD ∧ (startSeqRec x c).state ≠ .TRIP_WAIT := by
  simp only [startSeqRec]
  split <;> simp

theorem startLists_fresh (gap : Bool) (p : Part) :
    (startLists gap (startSequencer (startDrive (startSettings p)))).Fresh where
  flight := rfl
  trip := rfl
  crew := rfl
  radio := rfl
  ending := rfl
  motion x := by simp [startLists, startSequencer, startDrive, startPole]
  seq x := by simp [startLists, startSequencer, startDrive]
  state x := by
    simp only [Part.seq, startLists, startSequencer, PerPole.get_ofFun]
    exact startSeqRec_state _ _
  waiting := rfl

theorem startBattery_moves {G : Loose} (p : Part) : Moves G p G (startBattery p) :=
  (judgeExhaustion_moves _).after ((judgePosting_calm _).after (by exact .of_core rfl rfl rfl id)).moves

theorem startReports_calm (c : StartCause) (is : List (Item × FaultReason)) (p : Part) : Calm p (startReports c is p) :=
  Calm.ite (fun _ => enterReport_calm _ _ _ p) fun _ => (enterReport_calm _ _ _ _).after (enterReport_calm _ _ _ p)

theorem startHandOffs_calm (is : List (Item × FaultReason)) (a b : Bool) (p : Part) : Calm p (startHandOffs is a b p) :=
  Calm.applyAll retain_calm _ p

/-- The start-up sequence but for the judgements at its end (R199). -/
def startedUp (c : StartCause) (p : Part) : Part :=
  let lost := notRestored p.rs
  let a := startSequencer (startDrive (startSettings p))
  blindCheck (startHandOffs lost (a.tu.roster != rosterFrom p.rs.roster.stored) (lockoutDiffers a)
    (startReports c lost (startBattery (startLists (c == .COMMANDED && !p.ru.queue.isEmpty) a))))

theorem startUp_eq (c : StartCause) (p : Part) : startUp c p = refresh (startedUp c p) := rfl

theorem startedUp_moves (c : StartCause) (p : Part) : Moves .none p .none (startedUp c p) :=
  (blindCheck_moves _).after (((startHandOffs_calm _ _ _ _).after (startReports_calm _ _ _)).moves.after
    ((startBattery_moves _).after (Move.start (startLists_fresh _ p) (startLists_fits _ p)).moves))

/-- A store read back from what stands in storage keeps its images within their tables. -/
theorem WriteRec.image_bounded {w : WriteRec} (h : w.bounded = true) : w.image.bounded = true := by
  obtain ⟨hs, hw⟩ := (WriteRec.bounded_iff w).1 h
  unfold image
  split
  · exact hw _ ‹_›
  · exact hs

theorem powerLoss_fits (p : Part) : Fits p (powerLoss p) := fun hp => by
  obtain ⟨_, hrs⟩ := (Part.bounded_iff p).1 hp
  refine (Part.bounded_iff _).2 ⟨⟨Nat.zero_le _, Nat.zero_le _, Nat.zero_le _, Nat.zero_le _, Nat.zero_le _, fun l => ?_⟩,
    fun i => ?_⟩
  · cases l <;> exact Nat.zero_le _
  · have h := WriteRec.image_bounded (hrs i)
    cases i <;> simpa [powerLoss, offPart, Store.get, idleWrite, WriteRec.bounded] using h

theorem powerLoss_fresh (p : Part) : (powerLoss p).Fresh where
  flight := rfl
  trip := rfl
  crew := rfl
  radio := rfl
  ending := rfl
  motion x := by simp [powerLoss, offPart, startPole]
  seq x := by simp [powerLoss, offPart]
  state x := by
    simp only [Part.seq, powerLoss, offPart, PerPole.get_const]
    exact startSeqRec_state _ _
  waiting := rfl

theorem powerLoss_moves (p : Part) : Moves .none p .none (powerLoss p) := (Move.start (powerLoss_fresh p) (powerLoss_fits p)).moves

theorem Stored.spoil_bounded (s : Stored) : s.spoil.bounded = true := by
  unfold spoil
  split <;> rfl

/-- Images found bad keep within their tables. -/
theorem spoiled_bounded {s : Store} (bad : List Item) (h : ∀ i, (s.get i).bounded = true) (i : Item) :
    ((s.spoiled bad).get i).bounded = true := by
  obtain ⟨-, hw⟩ := (WriteRec.bounded_iff _).1 (h i)
  simp only [Store.spoiled, Store.get_mapItems]
  split
  · exact (WriteRec.bounded_iff _).2 ⟨Stored.spoil_bounded _, hw⟩
  · exact h i

/-- The part that a power-up starts from (R200). -/
def poweredPart (l : Lines) (bad : List Item) (p : Part) : Part :=
  { powerLoss p with
    on := true
    dc := { (powerLoss p).dc with
      poles := .ofFun fun x => startPole (linePair l x).aClosed (linePair l x).bClosed 0 0
      coilOpen := l.coilOpen }
    bc := { (powerLoss p).bc with supply := l.supply }
    rs := (powerLoss p).rs.spoiled bad }

theorem powerUp_eq (l : Lines) (bad : List Item) (p : Part) : powerUp l bad p = refresh (startedUp .POWER_UP (poweredPart l bad p)) := rfl

theorem poweredPart_moves (l : Lines) (bad : List Item) (p : Part) : Moves .none p .none (poweredPart l bad p) := by
  refine (Move.start ?_ ((powerLoss_fits p).trans fun ho => ?_)).moves
  · have h := powerLoss_fresh p
    exact ⟨rfl, rfl, rfl, rfl, rfl, fun x => by simp [poweredPart, startPole], h.seq, h.state, rfl⟩
  · obtain ⟨ht, hrs⟩ := (Part.bounded_iff _).1 ho
    exact (Part.bounded_iff _).2 ⟨ht, spoiled_bounded bad hrs⟩

/-- The part that a commanded restart starts from (R198). -/
def restartPart (bad : List Item) (p : Part) : Part :=
  { p with
    restart := none
    rs := p.rs.spoiled bad
    li := { p.li with radio := { p.li.radio with outbound := p.li.radio.outbound.filter fun m => !m.isReport } } }

theorem restartBegin_eq (bad : List Item) (p : Part) :
    restartBegin bad p = if p.restartDue then refresh (startedUp .COMMANDED (restartPart bad p)) else p := rfl

theorem restartPart_calm (bad : List Item) (p : Part) : Calm p (restartPart bad p) :=
  .of_core rfl rfl rfl fun hp => by
    obtain ⟨⟨h1, h2, h3, h4, h5, h6⟩, hrs⟩ := (Part.bounded_iff p).1 hp
    refine (Part.bounded_iff _).2 ⟨⟨h1, h2, h3, h4, h5, fun l => ?_⟩, spoiled_bounded bad hrs⟩
    cases l
    · exact h6 .PROTECTION
    · exact h6 .RADIO
    · exact h6 .CREW

theorem endWork_moves {G : Loose} (p : Part) : Moves G p G (endWork p) := by
  simp only [endWork]
  refine ((abandonTest_calm _ _ _).after ((endSelection_calm _ _).after (?_ : Calm (clearEntries .full p) _))).moves.after
    ((Loose.unclear _).after (clearEntries_moves .full p))
  split
  · exact dropClaim_calm _
  · exact .refl _

theorem restartRequest_moves {G : Loose} (l : Link) (c : Nat) (p : Part) : Moves G p G (restartRequest l c p).1 := by
  unfold restartRequest
  split
  · exact .refl
  · have h : Calm (endWork p) { endWork p with restart := some l } := .of_core rfl rfl rfl id
    exact h.moves.after (endWork_moves p)

/-! ### DORMANT, wake and the messages (R154, R155, R167, R168, R173, R186) -/

theorem dormantPoles_moves {G : Loose} (p : Part) : Moves G p G (dormantPoles p) :=
  have hm (q : Part) : Calm q { q with sq := { q.sq with meas := .WAITING } } := .of_core rfl rfl rfl id
  (mapReclaim_calm _ _).moves.after ((hm _).moves.after
    ((enterLockout_moves _ _).after (endLinkEntries_calm .full .CANCELLED p).moves))

/-- A change of the link records and the Report Unit that keeps the lists within their sizes. -/
theorem Calm.of_lists {p q : Part} (hdc : q.dc = p.dc) (hsq : q.sq.recs = p.sq.recs) (hnu : q.nu.waiting = p.nu.waiting)
    (htu : q.tu = p.tu) (hrs : q.rs = p.rs) (hq : q.ru.queue = p.ru.queue) (hp : q.ru.permits ≤ p.ru.permits)
    (hl : ∀ l, (q.li.get l).waiting.length ≤ (p.li.get l).waiting.length) : Calm p q :=
  .of_core hdc hsq hnu fun hb => by
    obtain ⟨⟨h1, h2, h3, h4, h5, h6⟩, h7⟩ := (Part.bounded_iff p).1 hb
    exact (Part.bounded_iff q).2 ⟨⟨hq ▸ h1, hp.trans h2, htu ▸ h3, htu ▸ h4, hdc ▸ h5, fun l => (hl l).trans (h6 l)⟩, hrs ▸ h7⟩

theorem dormantEntry_moves {G : Loose} (p : Part) : Moves G p G (dormantEntry p) := by
  refine .ite (fun _ => ?_) fun _ => .refl
  refine ((judgeLine_calm _).after ((markStale_calm _).after ((endEdits_calm _ _).after ((batteryMeas_calm _ _).after
    (retain_calm _ _))))).moves.after ((dormantPoles_moves _).after
      (Calm.of_lists ?_ ?_ ?_ ?_ ?_ ?_ (Nat.zero_le _) fun l => ?_).moves)
  iterate 6 rfl
  cases l
  · exact Nat.zero_le _
  · exact Nat.zero_le _
  · exact Nat.le_refl _

theorem wake_moves {G : Loose} (p : Part) : Moves G p G (wake p) := by
  have hu (q : Part) : Calm q { q with ru := q.ru.woken q.pu.unit.statusMin } := .of_ru fun h k => ⟨h, k⟩
  have hl : Calm p { p with
      bc := { p.bc with supply := true, partState := .RUN, procPower := true, socTimer := Config.socPeriod }
      li := { p.li with radio := p.li.radio.woken, protection := p.li.protection.woken } } := by
    refine .of_lists rfl rfl rfl rfl rfl rfl (Nat.le_refl _) fun l => ?_
    cases l
    · exact Nat.zero_le _
    · exact Nat.zero_le _
    · exact Nat.le_refl _
  exact (judgeHeater_calm _).moves.after ((blindCheck_moves _).after ((judgeSending_calm _).after
    ((hu _).after ((enterReport_calm _ _ _ _).after ((moveMode_calm _ _).after hl)))).moves)

theorem supplySenseChange_moves {G : Loose} (b : Bool) (p : Part) : Moves G p G (supplySenseChange b p) :=
  .ite (fun _ => .refl) fun _ => .ite
    (fun _ => .ite (fun _ => (supplyReturned_calm p).moves) fun _ => wake_moves p) fun _ => supplyLost_moves p

theorem exhaustionWaitExpiry_calm (p : Part) : Calm p (exhaustionWaitExpiry p) := by
  unfold exhaustionWaitExpiry
  split
  · exact .of_bc _
  · exact .refl p

theorem exhaustionSent_calm (p : Part) : Calm p (exhaustionSent p) := by
  unfold exhaustionSent
  split
  · exact .of_bc _
  · exact .refl p

theorem messageLeft_calm (l : Link) (p : Part) : Calm p (messageLeft l p) := by
  simp only [messageLeft]
  split
  · exact .refl p
  · rename_i m ms _
    have hm : Calm p { p with li := p.li.set l { p.li.get l with outbound := ms } } := .of_link id
    have hu (q : Part) : Calm q { q with ru := { q.ru with sending := false } } := .of_ru fun h k => ⟨h, k⟩
    split
    · exact .ite (fun _ => (exhaustionSent_calm _).after ((hu _).after hm)) fun _ => (hu _).after hm
    · exact hm

theorem permitGrantRequest_calm (n : Byte) (p : Part) : Calm p (permitGrantRequest n p).1 := by
  unfold permitGrantRequest
  split
  · exact .refl p
  · exact .of_ru fun h _ => ⟨h, Nat.min_le_left _ _⟩

theorem permitCallRepeatExpiry_calm (p : Part) : Calm p (permitCallRepeatExpiry p) :=
  .ite (fun _ => Calm.after (judgeCall_calm _) (.of_ru fun h k => ⟨h, k⟩)) fun _ => .refl p

theorem statusIntervalExpiry_calm (p : Part) : Calm p (statusIntervalExpiry p) := by
  unfold statusIntervalExpiry
  split
  · exact Calm.after (enterReport_calm _ _ _ _) (.of_ru fun h k => ⟨h, k⟩)
  · exact .refl p

end Sys2Proof.Machine
end

section
/-! PROOFS. A step of the machine as turns: events with the judgements at their end, changes of the links alone, the loss of power
and a millisecond. Every step is made of them, and every turn of moves (assumptions 1 and 2). -/

namespace Sys2Proof.Machine

/-! ### Turns -/

/-- What happens to the part at a time: an event with the judgements at its end, a change that leaves the drive and the Sequencer
as they are, the loss of power, or a millisecond. -/
inductive Turn : Part → Part → Prop
  | event {p q : Part} : Moves .none p .none q → Turn p (refresh q)
  | quiet {p q : Part} : Calm p q → q.dc = p.dc → q.sq = p.sq → q.on = p.on → Turn p q
  | off {p : Part} : Turn p (powerLoss p)
  | tick {p : Part} : Turn p (advanceTimers p)

/-- One turn after another. -/
abbrev Turns : Part → Part → Prop := Relation.ReflTransGen Turn

theorem Turn.moves {p q : Part} (h : Turn p q) : Moves .none p .none q := by
  cases h with
  | event h => exact (refresh_moves _).after h
  | quiet h => exact h.moves
  | off => exact powerLoss_moves p
  | tick => exact Move.tick.moves

theorem Turns.moves {p q : Part} (h : Turns p q) : Moves .none p .none q := by
  induction h with
  | refl => exact .refl
  | tail _ t ih => exact t.moves.after ih

theorem endEvent_turn {b p q : Part} (h : Moves .none p .none q) : Turn p (endEvent b q) :=
  .event ((reportLockouts_calm b q).moves.after h)

theorem endEvent_turns {b p q : Part} (h : Moves .none p .none q) : Turns p (endEvent b q) := .single (endEvent_turn h)

/-- A choice between two operations. -/
theorem Turns.ite {c : Prop} [Decidable c] {p q r : Part} (h : c → Turns p q) (k : ¬ c → Turns p r) :
    Turns p (if c then q else r) := by
  split
  · exact h ‹_›
  · exact k ‹_›

theorem Turns.applyAll {α : Type} {f : α → Part → Part} (h : ∀ a p, Turns p (f a p)) (as : List α) (p : Part) :
    Turns p (applyAll f as p) := by
  induction as generalizing p with
  | nil => exact .refl
  | cons a as ih => exact (h a p).trans (ih _)

/-! ### The requests at their owners (R182) -/

theorem historyReadRequest_fst (n : Byte) (p : Part) : (historyReadRequest n p).1 = p := by
  simp only [historyReadRequest, apply_ite Prod.fst, ite_self]

theorem readPendingRequest_fst (p : Part) : (readPendingRequest p).1 = p := by
  unfold readPendingRequest
  split <;> rfl

theorem readRequest_fst (i n : Byte) (p : Part) : (readRequest i n p).1 = p := by
  unfold readRequest
  split <;> rfl

/-- A request that only reads changes nothing at its owner (R22, R93, R171, R189). -/
theorem handle_of_onlyReads {r : Request} (h : onlyReads r = true) (l : Link) (t : Byte) (p : Part) : (handle l t r p).1 = p := by
  cases r with
  | historyRead n => exact historyReadRequest_fst n p
  | readPending => exact readPendingRequest_fst p
  | queuePoll => rfl
  | read i n => exact readRequest_fst i n p
  | _ => simp [onlyReads] at h

theorem handle_moves {G : Loose} (l : Link) (t : Byte) (r : Request) (p : Part) : Moves G p G (handle l t r p).1 := by
  cases r with
  | trip => exact tripRequest_moves _ _ _ _ p
  | close => exact closeRequest_moves _ _ _ _ p
  | closeCancel => exact (closeCancelRequest_calm p).moves
  | clearMechFault => exact (clearMechFaultRequest_calm _ _ p).moves
  | resetWear => exact (resetWearRequest_calm _ _ _ _ p).moves
  | historyRead | readPending | queuePoll | read =>
    rw [handle_of_onlyReads (by rfl)]
    exact .refl
  | tagApply => exact tagApplyRequest_moves _ _ _ _ _ _ p
  | tagRemove => exact (tagRemoveRequest_calm _ _ _ _ p).moves
  | rosterPut => exact (rosterPutRequest_calm _ _ _ _ _ _ p).moves
  | rosterDrop => exact (rosterDropRequest_calm _ _ _ p).moves
  | editBegin => exact (editBeginRequest_calm _ _ p).moves
  | editPut => exact (editPutRequest_calm _ _ p).moves
  | editCommit => exact editCommitRequest_moves _ _ p
  | editDrop => exact (editDropRequest_calm _ p).moves
  | selectGroup => exact (selectGroupRequest_calm _ _ _ p).moves
  | temporaryGroup => exact (temporaryGroupRequest_calm _ _ p).moves
  | temporaryCancel => exact (temporaryCancelRequest_calm p).moves
  | batteryTest => exact (batteryTestRequest_calm _ _ p).moves
  | permitGrant => exact (permitGrantRequest_calm _ p).moves
  | setTime => exact (setTimeRequest_calm _ _ p).moves
  | restart => exact restartRequest_moves _ _ p

theorem afterAnswer_calm (r : Request) (p : Part) : Calm p (afterAnswer r p) := by
  unfold afterAnswer
  split
  · exact .ite (fun _ => judgeSending_calm p) fun _ => .refl p
  · exact .refl p

/-- Nothing follows the answer to a request that only reads. -/
theorem afterAnswer_of_onlyReads {r : Request} (h : onlyReads r = true) (p : Part) : afterAnswer r p = p := by
  cases r with
  | permitGrant => simp [onlyReads] at h
  | _ => rfl

theorem answer_calm (l : Link) (t : Byte) (r : Request) (c : AnswerCode) (bs : List Byte) (p : Part) :
    Calm p (answer l t r c bs p) := send_calm _ _ p

/-- A change of one link record alone is a turn of its own. -/
theorem Turn.of_link {p : Part} {l : Link} {r : LinkRec}
    (h : (p.li.get l).waiting.length ≤ Config.waitingMax → r.waiting.length ≤ Config.waitingMax) :
    Turn p { p with li := p.li.set l r } := .quiet (.of_link h) rfl rfl rfl

theorem send_turn (l : Link) (m : Message) (p : Part) : Turn p (send l m p) :=
  .quiet (send_calm l m p) (by simp) (by simp) (by simp)

theorem refuse_turn (l : Link) (t : Byte) (r : Request) (c : AnswerCode) (p : Part) : Turn p (refuse l t r c p) :=
  send_turn _ _ p

theorem setUnder_turn (l : Link) (u : Option UnderAnswer) (p : Part) : Turn p (setUnder l u p) := .of_link id

theorem loadClaimTimer_turn (l : Link) (p : Part) : Turn p (loadClaimTimer l p) :=
  .quiet (loadClaimTimer_calm l p) (by simp) (by simp) (by simp)

theorem passToOwner_turns (l : Link) (w : WaitReq) (p : Part) : Turns p (passToOwner l w p) := by
  have hl (u) : Calm p (loadClaimTimer l (setUnder l u p)) := (loadClaimTimer_calm l _).after (setUnder_calm l u p)
  have hh (u) := (handle_moves (G := .none) l w.tag w.req (loadClaimTimer l (setUnder l u p))).after (hl u).moves
  simp only [passToOwner, refreshAfter]
  split
  · refine .ite (fun hr => ?_) fun _ => endEvent_turns ?_
    · rw [afterAnswer_of_onlyReads hr, handle_of_onlyReads hr]
      exact .tail (.tail (.tail (.single (setUnder_turn _ _ _)) (loadClaimTimer_turn _ _)) (send_turn _ _ _)) (setUnder_turn _ _ _)
    · exact ((afterAnswer_calm _ _).after ((setUnder_calm _ _ _).after (answer_calm _ _ _ _ _ _))).moves.after (hh _)
  · refine .ite (fun hr => ?_) fun _ => endEvent_turns (hh _)
    rw [handle_of_onlyReads hr]
    exact .tail (.single (setUnder_turn _ _ _)) (loadClaimTimer_turn _ _)

theorem pass_turns (l : Link) (w : WaitReq) (p : Part) : Turns p (pass l w p) := by
  unfold pass
  split
  · exact .single (refuse_turn _ _ _ _ p)
  · exact passToOwner_turns l w p

theorem pump_turns (l : Link) (p : Part) : Turns p (pump l p) := by
  simp only [pump]
  split
  · rename_i w ws hw
    refine .trans (.single (.of_link fun h => ?_)) (pass_turns l w _)
    simp only [hw, List.length_cons] at h
    exact (Nat.le_succ _).trans h
  · exact .refl

theorem takeRequest_turns (l : Link) (w : WaitReq) (p : Part) : Turns p (takeRequest l w p) := by
  refine .ite (fun _ => .single (refuse_turn _ _ _ _ p)) fun hn => .ite (fun _ => pass_turns l w p) fun _ =>
    .single (.of_link fun _ => ?_)
  simp
  omega

theorem arrive_turns (l : Link) (t : Byte) (r : Request) (p : Part) : Turns p (arrive l t r p) :=
  .ite (fun _ => .refl) fun _ => .ite (fun _ => .single (refuse_turn _ _ _ _ p)) fun _ =>
    .ite (fun _ => .single (refuse_turn _ _ _ _ p)) fun _ => takeRequest_turns l _ p

theorem sortFrame_turns (l : Link) (k t : Byte) (b : List Byte) (p : Part) : Turns p (sortFrame l k t b p) := by
  unfold sortFrame
  refine .ite (fun _ => .ite (fun _ => endEvent_turns (takeMeasurement_moves b p)) fun _ => .single (send_turn _ _ p)) fun _ =>
    .ite (fun _ => .single (send_turn _ _ p)) fun _ => ?_
  split
  · exact .single (send_turn _ _ p)
  · exact .ite (fun _ => .single (refuse_turn _ _ _ _ p)) fun _ => arrive_turns l t _ p

theorem frameReceive_turns (l : Link) (k t : Byte) (b : List Byte) (c : Half) (p : Part) : Turns p (frameReceive l k t b c p) := by
  have h : Turn p { p with li := p.li.set l (p.li.get l).hunt } := .of_link id
  exact .ite (fun _ => .refl) fun _ => .ite (fun _ => .head h (sortFrame_turns l k t b _)) fun _ => .single h

theorem byteReceive_turns (l : Link) (b : Byte) (p : Part) : Turns p (byteReceive l b p) := by
  have hk (r : LinkRec) (h : r.waiting = (p.li.get l).waiting) : Turns p { p with li := p.li.set l r } :=
    .single (.of_link fun k => h ▸ k)
  simp only [byteReceive]
  refine .ite (fun _ => .refl) fun _ => ?_
  split
  · exact .ite (fun _ => hk _ rfl) fun _ => .refl
  · refine .ite (fun _ => hk _ rfl) fun _ => ?_
    split
    · exact frameReceive_turns _ _ _ _ _ p
    · exact hk _ rfl

theorem gapTimerExpiry_turn (l : Link) (p : Part) : Turn p (gapTimerExpiry l p) := by
  simp only [gapTimerExpiry]
  split
  · exact .of_link id
  · exact .quiet (.refl p) rfl rfl rfl

/-! ### Due steps and a millisecond (assumptions 1 and 2) -/

theorem restartBegin_turns (bad : List Item) (p : Part) : Turns p (restartBegin bad p) := by
  rw [restartBegin_eq]
  exact .ite (fun _ => .single (.event ((startedUp_moves _ _).after (restartPart_calm bad p).moves))) fun _ => .refl

theorem powerUp_turns (l : Lines) (bad : List Item) (p : Part) : Turns p (powerUp l bad p) := by
  rw [powerUp_eq]
  exact .single (.event ((startedUp_moves _ _).after (poweredPart_moves l bad p)))

theorem runInternal_turns (p : Part) (i : Internal) : Turns p (runInternal p i) := by
  cases i with
  | heldSettings => exact endEvent_turns (heldSettingsApply_calm p).moves
  | tripFire => exact endEvent_turns (tripFire_moves p)
  | closeStart => exact endEvent_turns (closeStart_moves p)
  | testResume => exact endEvent_turns (testResume_calm p).moves
  | periodicTest => exact endEvent_turns (periodicTestBegin_calm p).moves
  | reportSend => exact endEvent_turns (reportSend_calm p).moves
  | dormant => exact endEvent_turns (dormantEntry_moves p)
  | restartSequence => exact restartBegin_turns [] p
  | pump l => exact pump_turns l p

theorem settleFor_turns (n : Nat) (p : Part) : Turns p (settleFor n p) := by
  induction n generalizing p with
  | zero => exact .refl
  | succ n ih =>
    unfold settleFor
    split
    · exact (runInternal_turns p _).trans (ih _)
    · exact .refl

theorem settle_turns (p : Part) : Turns p (settle p) := settleFor_turns 100 p

theorem runExpiry_moves (p : Part) (e : Expiry) : Moves .none p .none (runExpiry p e) := by
  cases e with
  | window => exact windowExpiry_moves p
  | closeDelay => exact closeDelayExpiry_moves p
  | loss => exact lossTimerExpiry_moves p
  | dead x => exact deadTimerExpiry_moves x p
  | reclaim x => exact (reclaimTimerExpiry_calm x p).moves
  | energyWait x => exact energyWaitLimit_moves x p
  | openCount x => exact (openCountTick_calm x p).moves
  | claim => exact (claimTimerExpiry_calm p).moves
  | coldLoad => exact (coldLoadExpiry_calm p).moves
  | temporary => exact (temporaryExpiry_calm p).moves
  | rosterTime => exact (judgeRoster_calm p).moves
  | taper => exact taperResync_moves p
  | soc => exact (socPeriodicWrite_calm p).moves
  | absorbTaper => exact (absorbTaperExpiry_calm p).moves
  | absorbTime => exact (absorbTimeExpiry_calm p).moves
  | floatLow => exact (floatLowExpiry_calm p).moves
  | testStep => exact testStepComplete_moves p
  | suspension => exact (testSuspendLimit_calm p).moves
  | hour => exact (testIntervalHour_calm p).moves
  | exhaustion => exact (exhaustionWaitExpiry_calm p).moves
  | callRepeat => exact (permitCallRepeatExpiry_calm p).moves
  | status => exact (statusIntervalExpiry_calm p).moves
  | gap l => exact (gapTimerExpiry_turn l p).moves

theorem expire_turns (e : Expiry) (p : Part) : Turns p (expire e p) :=
  .ite (fun _ => .ite (fun _ => (settle_turns p).tail (endEvent_turn (runExpiry_moves _ e))) fun _ => settle_turns p)
    fun _ => .refl

theorem tick_turns (p : Part) : Turns p (tick p) := .head .tick (Turns.applyAll expire_turns _ _)

theorem idle_turns (p : Part) : Turns p (idle p) :=
  .ite (fun _ => .refl) fun _ => .ite (fun _ => settle_turns p) fun _ => tick_turns p

/-! ### The commands -/

theorem onPart_turns {f : Part → Part} (h : ∀ p, Turns p (f p)) {s t : State}
    (e : (.next (s.onPart (whileOn f)) : Answer) = .next t) : Turns s.part t.part := by
  cases e
  exact Turns.ite (fun _ => h s.part) fun _ => .refl

theorem event_turns {f : Part → Part} (h : ∀ p, Moves .none p .none (f p)) {s t : State} (e : event f s = .next t) :
    Turns s.part t.part := onPart_turns (fun p => (settle_turns p).tail (endEvent_turn (h _))) e

theorem linkEvent_turns {f : Part → Part} (h : ∀ p, Turns p (f p)) {s t : State} (e : linkEvent f s = .next t) :
    Turns s.part t.part := onPart_turns (fun p => (settle_turns p).trans (h _)) e

theorem request_turns {l : Link} {g : Byte} {r : Request} {s t : State} (e : request l g r s = .next t) :
    Turns s.part t.part := linkEvent_turns (arrive_turns l g r) e

theorem ownStep_turns {f : Part → Part} (h : ∀ p, Moves .none p .none (f p)) {s t : State} (e : ownStep f s = .next t) :
    Turns s.part t.part := onPart_turns (fun p => endEvent_turns (h p)) e

theorem exec_turns (c : Instr) {s t : State} (e : exec c s = .next t) : Turns s.part t.part := by
  cases c
  case powerUp l bad =>
    cases e
    exact powerUp_turns l bad s.part
  case restartSequenceBegin bad => exact onPart_turns (restartBegin_turns bad) e
  case powerLoss => exact onPart_turns (fun p => (settle_turns p).tail .off) e
  case frameReceive => exact linkEvent_turns (fun p => frameReceive_turns _ _ _ _ _ p) e
  case byteReceive => exact linkEvent_turns (fun p => byteReceive_turns _ _ p) e
  case gapTimerExpiry => exact linkEvent_turns (fun p => .single (gapTimerExpiry_turn _ p)) e
  case messageLeft => exact event_turns (fun p => (messageLeft_calm _ p).moves) e
  case measurement => exact event_turns (takeMeasurement_moves _) e
  case contactChange => exact event_turns (contactChange_moves _ _ _ _) e
  case supplySenseChange => exact event_turns (supplySenseChange_moves _) e
  case tripFire => exact ownStep_turns tripFire_moves e
  case closeStart => exact ownStep_turns closeStart_moves e
  case testResume => exact ownStep_turns (fun p => (testResume_calm p).moves) e
  case periodicTestBegin => exact ownStep_turns (fun p => (periodicTestBegin_calm p).moves) e
  case dormantEntry => exact ownStep_turns dormantEntry_moves e
  case reportSend => exact ownStep_turns (fun p => (reportSend_calm p).moves) e
  case heldSettingsApply => exact ownStep_turns (fun p => (heldSettingsApply_calm p).moves) e
  case tripWindowExpiry => exact event_turns tripWindowExpiry_moves e
  case retryFire => exact event_turns retryFire_moves e
  case retryWindowExpiry => exact event_turns retryWindowExpiry_moves e
  case closeWindowExpiry => exact event_turns closeWindowExpiry_moves e
  case closeDelayExpiry => exact event_turns closeDelayExpiry_moves e
  case lossTimerExpiry => exact event_turns lossTimerExpiry_moves e
  case deadTimerExpiry => exact event_turns (deadTimerExpiry_moves _) e
  case reclaimTimerExpiry => exact event_turns (fun p => (reclaimTimerExpiry_calm _ p).moves) e
  case energyWaitLimit => exact event_turns (energyWaitLimit_moves _) e
  case openCountTick => exact event_turns (fun p => (openCountTick_calm _ p).moves) e
  case claimTimerExpiry => exact event_turns (fun p => (claimTimerExpiry_calm p).moves) e
  case coldLoadExpiry => exact event_turns (fun p => (coldLoadExpiry_calm p).moves) e
  case temporaryExpiry => exact event_turns (fun p => (temporaryExpiry_calm p).moves) e
  case rosterExpiry => exact event_turns (fun p => (rosterExpiry_calm _ p).moves) e
  case taperResync => exact event_turns taperResync_moves e
  case socPeriodicWrite => exact event_turns (fun p => (socPeriodicWrite_calm p).moves) e
  case absorbTaperExpiry => exact event_turns (fun p => (absorbTaperExpiry_calm p).moves) e
  case absorbTimeExpiry => exact event_turns (fun p => (absorbTimeExpiry_calm p).moves) e
  case floatLowExpiry => exact event_turns (fun p => (floatLowExpiry_calm p).moves) e
  case testStepComplete => exact event_turns testStepComplete_moves e
  case testSuspendLimit => exact event_turns (fun p => (testSuspendLimit_calm p).moves) e
  case testIntervalHour => exact event_turns (fun p => (testIntervalHour_calm p).moves) e
  case exhaustionWaitExpiry => exact event_turns (fun p => (exhaustionWaitExpiry_calm p).moves) e
  case permitCallRepeatExpiry => exact event_turns (fun p => (permitCallRepeatExpiry_calm p).moves) e
  case statusIntervalExpiry => exact event_turns (fun p => (statusIntervalExpiry_calm p).moves) e
  case retainedWriteEnd => exact event_turns (fun p => (writeEnd_calm _ _ p).moves) e
  all_goals exact request_turns e

theorem step_turns {s t : State} (e : step s = .next t) : Turns s.part t.part := by
  unfold step at e
  split at e
  · cases e
    exact idle_turns s.part
  · rename_i c rest _
    exact exec_turns (s := { s with pending := rest }) c e

/-- Every step is made of moves. -/
theorem step_moves {s t : State} (e : step s = .next t) : Moves .none s.part .none t.part := (step_turns e).moves

end Sys2Proof.Machine
end

section
/-! PROOFS. What every step keeps: the capacities of the tables (O58), the drive as chapter 1 leaves it, quiescence and the close
entries (O60). Each is kept by every move, and so by every step. -/

namespace Sys2Proof.Machine

/-! ### Changes of the entries alone -/

/-- A list of steps that each keep a property. -/
theorem applyAll_induction {α : Type} {P : Part → Prop} {f : α → Part → Part} (h : ∀ a p, P p → P (f a p)) (as : List α)
    {p : Part} (hp : P p) : P (applyAll f as p) := by
  induction as generalizing p with
  | nil => exact hp
  | cons a as ih => exact ih (h a p hp)

/-- A change of the sequencer entries, the Sequencer and the Energy Unit alone. -/
def OfEntries (p q : Part) : Prop := ∃ e s n, q = { p with dc := { p.dc with seq := e }, sq := s, nu := n }

theorem OfEntries.refl (p : Part) : OfEntries p p := ⟨_, _, _, rfl⟩

theorem OfEntries.trans {p q r : Part} (h : OfEntries p q) (k : OfEntries q r) : OfEntries p r := by
  obtain ⟨_, _, _, rfl⟩ := h
  obtain ⟨_, _, _, rfl⟩ := k
  exact ⟨_, _, _, rfl⟩

theorem OfEntries.applyAll {α : Type} {f : α → Part → Part} (h : ∀ a p, OfEntries p (f a p)) (as : List α) (p : Part) :
    OfEntries p (applyAll f as p) := applyAll_induction (fun a q hq => hq.trans (h a q)) as (.refl p)

theorem dropSeq_ofEntries (x : Pole) (p : Part) : OfEntries p (dropSeq x p) := ⟨_, _, _, rfl⟩

theorem mapSeq_ofEntries (s : PoleSet) (f : Pole → SeqRec → SeqRec) (p : Part) : OfEntries p (mapSeq s f p) :=
  ⟨_, _, _, rfl⟩

theorem cancelSeq_ofEntries (x : Pole) (p : Part) : OfEntries p (cancelSeq x p) := by
  simp only [cancelSeq]
  split <;> exact ⟨_, _, _, rfl⟩

theorem pendingEntry_ofEntries (x : Pole) (p : Part) : OfEntries p (pendingEntry x p) := ⟨_, _, _, rfl⟩

theorem setEntry_ofEntries (e : SeqEntry) (x : Pole) (p : Part) : OfEntries p (setEntry e x p) := ⟨_, _, _, rfl⟩

theorem placeEntries_ofEntries (s : PoleSet) (p : Part) : OfEntries p (placeEntries s p) := by
  simp only [placeEntries]
  split
  · exact .applyAll pendingEntry_ofEntries _ p
  · exact (OfEntries.applyAll (setEntry_ofEntries _) _ p).trans ⟨_, _, _, rfl⟩

theorem splitBack_ofEntries (s : PoleSet) (p : Part) : OfEntries p (splitBack s p) := by
  have hr : OfEntries p (applyAll (fun x => releaseEntry (.SEQ x)) s.members p) :=
    .applyAll (fun _ _ => ⟨_, _, _, rfl⟩) _ p
  exact (hr.trans (.applyAll (setEntry_ofEntries _) _ _)).trans ⟨_, _, _, rfl⟩

/-! ### The end of an operation -/

/-- While the end of an operation is handled, none is in flight (R14). -/
def Landed (G : Loose) (p : Part) : Prop := G.ending.isSome = true → p.dc.flight = none

theorem landed_none (p : Part) : Landed .none p := fun h => by simp [Loose.none] at h

theorem Landed.of_entries {G H : Loose} {p q : Part} (h : Landed G p) (k : OfEntries p q) (e : H.ending = G.ending) :
    Landed H q := by
  obtain ⟨_, _, _, rfl⟩ := k
  exact fun hG => h (e ▸ hG)

theorem Landed.of_flight {G H : Loose} {p q : Part} (h : Landed G p) (k : q.dc.flight = p.dc.flight)
    (e : H.ending = G.ending) : Landed H q := fun hG => k.trans (h (e ▸ hG))

/-- An operation in flight means that no end of one is handled. -/
theorem Landed.of_some {G H : Loose} {p q : Part} {f : Flight} (h : Landed G p) (k : p.dc.flight = some f)
    (e : H.ending = G.ending) : Landed H q := fun hG => by simp [h (e ▸ hG)] at k

/-- What each move is of the drive's end, its capacities and its drive: the entries alone change in all but these. -/
theorem Move.landed {G H : Loose} {p q : Part} (m : Move G p H q) (h : Landed G p) : Landed H q := by
  cases m with
  | calm c => exact h.of_flight c.drive.flight rfl
  | drop x => exact h.of_entries (dropSeq_ofEntries x p) rfl
  | cancel x => exact h.of_entries (cancelSeq_ofEntries x p) rfl
  | stop s =>
    exact h.of_entries ((OfEntries.applyAll dropSeq_ofEntries _ p).trans (mapSeq_ofEntries _ _ _)) rfl
  | await s f => exact h.of_entries (mapSeq_ofEntries _ _ p) rfl
  | cleared | widen => exact h
  | settle s f => exact h.of_entries (mapSeq_ofEntries _ _ p) rfl
  | mark s => exact h.of_entries (mapSeq_ofEntries _ _ p) rfl
  | place s => exact h.of_entries ((mapSeq_ofEntries _ _ p).trans (placeEntries_ofEntries _ _)) rfl
  | grant u us =>
    have hw : OfEntries p { p with nu := { p.nu with waiting := us } } := ⟨_, _, _, rfl⟩
    exact h.of_entries (hw.trans (.applyAll pendingEntry_ofEntries _ _)) rfl
  | split => exact h.of_entries (splitBack_ofEntries _ p) rfl
  | fireTrip | fireCrew | fireRadio | fireSeq => exact fun hG => by simp at hG
  | fly s hf => exact h.of_some hf rfl
  | sees x new hf => exact h.of_some hf rfl
  | gap hf => exact h.of_some hf rfl
  | land | landUnfired => exact fun _ => rfl
  | freed => exact fun hG => by simp at hG
  | join => exact h.of_flight (joinPending_dc_flight _ _ p) rfl
  | takeClosing => exact h.of_flight (takeClosing_dc_flight _ p) rfl
  | crew | radio => exact h.of_flight rfl rfl
  | tick => exact fun hG => by simp [advanceTimers, Drive.tick, h hG]
  | start => exact landed_none q
  | absurd hG hf => simp [h hG] at hf

theorem Moves.landed {G H : Loose} {p q : Part} (m : Moves G p H q) (h : Landed G p) : Landed H q := by
  induction m with
  | refl => exact h
  | step _ m ih => exact m.landed (ih h)

/-- What every move keeps of parts, every row of moves keeps. -/
theorem Moves.keeps {P : Loose → Part → Prop} (h : ∀ {G H p q}, Move G p H q → Landed G p → P G p → P H q) {G H : Loose}
    {p q : Part} (m : Moves G p H q) (hl : Landed G p) (hp : P G p) : P H q := by
  induction m with
  | refl => exact hp
  | step ms m ih => exact h m (ms.landed hl) (ih hl hp)

/-! ### The capacities (O58) -/

/-- Tables that are the same keep their capacities. -/
theorem Fits.of_same {p q : Part} (hru : q.ru = p.ru) (htu : q.tu = p.tu) (hh : q.dc.history = p.dc.history)
    (hli : q.li = p.li) (hrs : q.rs = p.rs) : Fits p q := fun hp => by
  obtain ⟨⟨h1, h2, h3, h4, h5, h6⟩, h7⟩ := (Part.bounded_iff p).1 hp
  exact (Part.bounded_iff q).2 ⟨⟨hru ▸ h1, hru ▸ h2, htu ▸ h3, htu ▸ h4, hh ▸ h5, hli ▸ h6⟩, hrs ▸ h7⟩

theorem Fits.of_entries {p q : Part} (k : OfEntries p q) : Fits p q := by
  obtain ⟨_, _, _, rfl⟩ := k
  exact .of_same rfl rfl rfl rfl rfl

theorem joinPending_fits (s : PoleSet) (e : ReqEntry) (p : Part) : Fits p (joinPending s e p) := by
  simp only [joinPending]
  split <;> exact .of_same rfl rfl rfl rfl rfl

theorem takeClosing_fits (s : PoleSet) (p : Part) : Fits p (takeClosing s p) := by
  simp only [takeClosing]
  split <;> exact .of_same rfl rfl rfl rfl rfl

/-- A trip whose fire set is not empty is in flight once fired (R9). -/
theorem fireTrip_of_fires {t : PendingTrip} {p : Part} (h : (p.fireSet t).isEmpty = false) :
    fireTrip t p =
      let q := mapPoles (p.fireSet t) (fun x r => r.fired (p.eu.latest.map fun v => v.vals.phase.get x))
        { p with dc := { p.dc with trip := none } }
      { q with dc := { q.dc with
        flight := some ⟨{ t.op with state := .IN_FLIGHT }, .TRIP_WINDOW, Config.tripWindow, p.fireSet t,
          (p.fireSet t).inter p.showsClosed, .empty, (p.fireSet t).diff p.notOpen, .empty, p.tb⟩
        tripPulse := q.dc.tripPulse.union (p.fireSet t) } } := by
  simp only [fireTrip, h, Bool.false_eq_true, if_false]

theorem advanceTimers_fits (p : Part) : Fits p (advanceTimers p) := fun hp => by
  obtain ⟨⟨h1, h2, h3, h4, h5, h6⟩, h7⟩ := (Part.bounded_iff p).1 hp
  refine (Part.bounded_iff _).2 ⟨⟨h1, h2, h3, h4, h5, fun l => ?_⟩, h7⟩
  cases l
  · exact h6 .PROTECTION
  · exact h6 .RADIO
  · exact h6 .CREW

theorem Move.fits {G H : Loose} {p q : Part} (m : Move G p H q) (h : Landed G p) : Fits p q := by
  cases m with
  | calm c => exact c.fits
  | drop x => exact .of_entries (dropSeq_ofEntries x p)
  | cancel x => exact .of_entries (cancelSeq_ofEntries x p)
  | stop s => exact .of_entries ((OfEntries.applyAll dropSeq_ofEntries _ p).trans (mapSeq_ofEntries _ _ _))
  | await s f => exact .of_entries (mapSeq_ofEntries _ _ p)
  | cleared | widen => exact id
  | settle s f => exact .of_entries (mapSeq_ofEntries _ _ p)
  | mark s => exact .of_entries (mapSeq_ofEntries _ _ p)
  | place s => exact .of_entries ((mapSeq_ofEntries _ _ p).trans (placeEntries_ofEntries _ _))
  | grant u us =>
    have hw : OfEntries p { p with nu := { p.nu with waiting := us } } := ⟨_, _, _, rfl⟩
    exact .of_entries (hw.trans (.applyAll pendingEntry_ofEntries _ _))
  | split => exact .of_entries (splitBack_ofEntries _ p)
  | fireTrip t ht hf he =>
    rw [fireTrip_of_fires he]
    exact .of_same rfl rfl rfl rfl rfl
  | fireCrew | fireRadio | fireSeq | fly | sees | gap | land | landUnfired | freed | crew | radio =>
    exact .of_same rfl rfl rfl rfl rfl
  | join => exact joinPending_fits _ _ p
  | takeClosing => exact takeClosing_fits _ p
  | tick => exact advanceTimers_fits p
  | start _ hf => exact hf
  | absurd hG hf => simp [h hG] at hf

theorem Moves.fits {G H : Loose} {p q : Part} (m : Moves G p H q) (hl : Landed G p) : Fits p q :=
  m.keeps (P := fun _ r => Fits p r) (fun m h k => k.trans (m.fits h)) hl id

end Sys2Proof.Machine
end

section
namespace Sys2Proof.Machine

/-- Settles O58: every move keeps the capacities, and every step is made of moves. -/
theorem capacitiesAreKept : Obligations.CapacitiesAreKept := fun _ _ hb e => (step_moves e).fits (landed_none _) hb

end Sys2Proof.Machine
end

section
/-! PROOFS. Every step keeps the drive as chapter 1 leaves it: a TRIP in the trip pending set, a CLOSE in each link entry, the
operation in flight sane and every motion its own (R1, R9 to R14). -/

namespace Sys2Proof.Machine

theorem PoleSet.isEmpty_false_iff (s : PoleSet) : s.isEmpty = false ↔ ∃ x, s.has x = true := by
  rw [← Bool.not_eq_true, PoleSet.isEmpty_iff]
  simp

theorem PoleSet.subset_iff (s t : PoleSet) : s.subset t = true ↔ ∀ x, s.has x = true → t.has x = true := by
  simp [PoleSet.subset, PoleSet.isEmpty_iff]

theorem PoleSet.all_iff (s : PoleSet) (f : Pole → Bool) : s.all f = true ↔ ∀ x, s.has x = true → f x = true := by
  simp [PoleSet.all]

theorem PoleSet.overlaps_false_iff (s t : PoleSet) : s.overlaps t = false ↔ ∀ x, s.has x = true → t.has x = false := by
  simp [PoleSet.overlaps, PoleSet.isEmpty_iff]

/-! ### The drive as propositions -/

/-- An operation in flight as R9 to R13 leave it (`Flight.sane`). -/
structure Flight.Ok (f : Flight) : Prop where
  phase : f.op.kind = .CLOSE ↔ f.phase = .CLOSE_WINDOW
  fire : ∀ x, f.fire.has x = true → f.op.poles.has x = true
  moved : ∀ x, f.moved.has x = true → f.fire.has x = true
  closed : ∀ x, f.closedAtFire.has x = true → f.fire.has x = true
  leave : ∀ x, f.mustLeave.has x = true → f.fire.has x = true

theorem Flight.sane_iff (f : Flight) : f.sane = true ↔ f.Ok := by
  have hp : ((f.op.kind == .CLOSE) = (f.phase == .CLOSE_WINDOW)) ↔ (f.op.kind = .CLOSE ↔ f.phase = .CLOSE_WINDOW) := by
    rw [Bool.eq_iff_iff, beq_iff_eq, beq_iff_eq]
  simp only [sane, Bool.and_eq_true, beq_iff_eq, PoleSet.subset_iff, hp]
  exact ⟨fun ⟨⟨⟨⟨h1, h2⟩, h3⟩, h4⟩, h5⟩ => ⟨h1, h2, h3, h4, h5⟩, fun ⟨h1, h2, h3, h4, h5⟩ => ⟨⟨⟨⟨h1, h2⟩, h3⟩, h4⟩, h5⟩⟩

/-- Motion under an operation in flight (`Drive.motionFits`): a fired pole moves as its kind says, any other does not. -/
def Flight.Moves (f : Flight) (x : Pole) (m : Motion) : Prop :=
  if f.fire.has x = true then
    match f.op.kind with
    | .CLOSE => m = .CLOSING
    | .TRIP => m = .TRIPPING ∨ m = .NONE ∧ f.moved.has x = true
  else m = .NONE

theorem Drive.motionFits_of_none {d : Drive} (h : d.flight = none) (x : Pole) :
    d.motionFits x = true ↔ (d.poles.get x).motion = .NONE := by simp [motionFits, h]

theorem Drive.motionFits_of_some {d : Drive} {f : Flight} (h : d.flight = some f) (x : Pole) :
    d.motionFits x = true ↔ f.Moves x (d.poles.get x).motion := by
  simp only [motionFits, h, Flight.Moves]
  split
  · cases f.op.kind <;> simp
  · simp

/-- The drive as chapter 1 leaves it (`Part.driveSane`). -/
structure Drive.Ok (d : Drive) : Prop where
  trip : ∀ t, d.trip = some t → t.op.kind = .TRIP ∧ ∀ x, t.closing.has x = true → t.op.poles.has x = true
  crew : ∀ e, d.crew = some e → e.op.kind = .CLOSE
  radio : ∀ e, d.radio = some e → e.op.kind = .CLOSE
  flight : ∀ f, d.flight = some f → f.Ok
  motion : ∀ x, d.motionFits x = true

theorem Part.driveSane_iff (p : Part) : p.driveSane = true ↔ p.dc.Ok := by
  have map {α : Type} (o : Option α) (f : α → Bool) : (o.map f).getD true = true ↔ ∀ a, o = some a → f a = true := by
    cases o <;> simp
  simp only [driveSane, Bool.and_eq_true, map, beq_iff_eq, PoleSet.subset_iff, Flight.sane_iff, PoleSet.all_iff,
    PoleSet.has_full, true_imp_iff]
  exact ⟨fun ⟨⟨⟨⟨h1, h2⟩, h3⟩, h4⟩, h5⟩ => ⟨h1, h2, h3, h4, h5⟩, fun ⟨h1, h2, h3, h4, h5⟩ => ⟨⟨⟨⟨h1, h2⟩, h3⟩, h4⟩, h5⟩⟩

theorem Drive.Ok.motion_of_none {d : Drive} (h : d.Ok) (hf : d.flight = none) (x : Pole) :
    (d.poles.get x).motion = .NONE := (motionFits_of_none hf x).1 (h.motion x)

theorem Drive.Ok.moves {d : Drive} (h : d.Ok) {f : Flight} (hf : d.flight = some f) (x : Pole) :
    f.Moves x (d.poles.get x).motion := (motionFits_of_some hf x).1 (h.motion x)

/-- A drive with the same entries, or fewer, the same motions and an operation in flight that fires and moves as the one before. -/
theorem Drive.Ok.of_same {d e : Drive} (h : d.Ok) (ht : e.trip = d.trip ∨ e.trip = none) (hc : e.crew = d.crew ∨ e.crew = none)
    (hr : e.radio = d.radio ∨ e.radio = none) (hf : e.flight = d.flight)
    (hm : ∀ x, (e.poles.get x).motion = (d.poles.get x).motion) : e.Ok where
  trip t k := h.trip t (ht.elim (· ▸ k) fun n => by simp [n] at k)
  crew c k := h.crew c (hc.elim (· ▸ k) fun n => by simp [n] at k)
  radio c k := h.radio c (hr.elim (· ▸ k) fun n => by simp [n] at k)
  flight f k := h.flight f (hf ▸ k)
  motion x := by
    have := h.motion x
    simpa [motionFits, hf, hm] using this

theorem Drive.Ok.of_calm {d e : Drive} (h : d.Ok) (c : d.Calm e) : e.Ok := h.of_same c.trip c.crew c.radio c.flight c.motion

theorem Drive.Ok.of_entries {p q : Part} (h : p.dc.Ok) (k : OfEntries p q) : q.dc.Ok := by
  obtain ⟨_, _, _, rfl⟩ := k
  exact h.of_same (.inl rfl) (.inl rfl) (.inl rfl) rfl fun _ => rfl

/-- A drive in which an operation takes the flight, with the motions it says. -/
theorem Drive.Ok.of_flight {d e : Drive} (h : d.Ok) (ht : e.trip = d.trip ∨ e.trip = none)
    (hc : e.crew = d.crew ∨ e.crew = none) (hr : e.radio = d.radio ∨ e.radio = none) {f : Flight} (hf : e.flight = some f)
    (hs : f.Ok) (hm : ∀ x, f.Moves x (e.poles.get x).motion) : e.Ok where
  trip t k := h.trip t (ht.elim (· ▸ k) fun n => by simp [n] at k)
  crew c k := h.crew c (hc.elim (· ▸ k) fun n => by simp [n] at k)
  radio c k := h.radio c (hr.elim (· ▸ k) fun n => by simp [n] at k)
  flight g k := by
    rw [hf] at k
    exact Option.some.inj k ▸ hs
  motion x := (motionFits_of_some hf x).2 (hm x)

/-- A drive free of the operation in flight. -/
theorem Drive.Ok.of_free {d e : Drive} (h : d.Ok) (ht : e.trip = d.trip) (hc : e.crew = d.crew) (hr : e.radio = d.radio)
    (hf : e.flight = none) (hm : ∀ x, (e.poles.get x).motion = .NONE) : e.Ok where
  trip t k := h.trip t (ht ▸ k)
  crew c k := h.crew c (hc ▸ k)
  radio c k := h.radio c (hr ▸ k)
  flight g k := by simp [hf] at k
  motion x := (motionFits_of_none hf x).2 (hm x)

/-! ### Firing, moving and landing -/

theorem fireTrip_ok {t : PendingTrip} {p : Part} (h : p.dc.Ok) (ht : p.dc.trip = some t) (hf : p.dc.flight = none)
    (he : (p.fireSet t).isEmpty = false) : (fireTrip t p).dc.Ok := by
  obtain ⟨hk, hc⟩ := h.trip t ht
  rw [fireTrip_of_fires he]
  refine h.of_flight (.inr rfl) (.inl rfl) (.inl rfl) rfl ⟨?_, fun x hx => ?_, ?_, ?_, ?_⟩ fun x => ?_
  · simp [hk]
  · simp only [Part.fireSet, PoleSet.has_union, PoleSet.has_inter, Bool.or_eq_true, Bool.and_eq_true] at hx
    exact hx.elim (·.1) (hc x)
  · simp
  · simp +contextual
  · simp +contextual
  · simp only [Flight.Moves, hk, poles_mapPoles]
    split
    · simp [PoleRec.fired]
    · exact h.motion_of_none hf x

theorem closeFired_ok {op : OpRec} {p : Part} (h : p.dc.Ok) (hk : op.kind = .CLOSE) (hf : p.dc.flight = none) :
    (closeFired op p).dc.Ok := by
  refine h.of_flight (.inl rfl) (.inl rfl) (.inl rfl) (closeFired_flight op p) ⟨?_, ?_, ?_, ?_, ?_⟩ fun x => ?_
  · simp [closeFlight, hk]
  · simp [closeFlight]
  · simp +contextual [closeFlight]
  · simp +contextual [closeFlight]
  · simp [closeFlight]
  · simp only [Flight.Moves, closeFlight, hk, closeFired, poles_mapPoles]
    split
    · rfl
    · exact h.motion_of_none hf x

theorem Flight.Calm.ok {f g : Flight} (c : f.Calm g) (h : f.Ok) : g.Ok where
  phase := by rw [c.kind, c.phase, h.phase]
  fire x hx := by rw [c.poles]; exact h.fire x (c.fire ▸ hx)
  moved x hx := by rw [c.fire]; exact h.moved x (c.moved ▸ hx)
  closed x hx := by rw [c.fire]; exact h.closed x (c.closedAtFire ▸ hx)
  leave x hx := by rw [c.fire]; exact h.leave x (c.mustLeave ▸ hx)

/-- More poles counted as moved. -/
theorem Flight.Ok.of_moved {f g : Flight} (h : f.Ok) (hk : g.op.kind = f.op.kind) (hp : g.op.poles = f.op.poles)
    (hw : g.phase = .CLOSE_WINDOW ↔ f.phase = .CLOSE_WINDOW) (hf : g.fire = f.fire) (hc : g.closedAtFire = f.closedAtFire)
    (hl : g.mustLeave = f.mustLeave) (hm : ∀ x, g.moved.has x = true → f.fire.has x = true) : g.Ok where
  phase := by rw [hk, hw, h.phase]
  fire x hx := by rw [hp]; exact h.fire x (hf ▸ hx)
  moved x hx := by rw [hf]; exact hm x hx
  closed x hx := by rw [hf]; exact h.closed x (hc ▸ hx)
  leave x hx := by rw [hf]; exact h.leave x (hl ▸ hx)

/-- What an operation in flight has seen: the poles it counts as moved, at most with the one that shows a new position (R9, R11,
R13). -/
theorem Flight.sees_moved (f : Flight) (x : Pole) (new : Position) :
    (f.sees x new).moved = f.moved ∨ (f.sees x new).moved = f.moved.union (.single x) := by
  simp only [sees]
  split <;> repeat' split
  all_goals first | exact .inl rfl | exact .inr rfl

@[simp] theorem Flight.sees_op (f : Flight) (x : Pole) (new : Position) : (f.sees x new).op = f.op := by
  simp only [sees]
  split <;> repeat' split
  all_goals rfl

theorem Flight.sees_rest (f : Flight) (x : Pole) (new : Position) :
    (f.sees x new).phase = f.phase ∧ (f.sees x new).closedAtFire = f.closedAtFire ∧
      (f.sees x new).mustLeave = f.mustLeave := by
  simp only [sees]
  split <;> repeat' split
  all_goals exact ⟨rfl, rfl, rfl⟩

/-- A pole that moves is of the fire set. -/
theorem Flight.Moves.fire {f : Flight} {x : Pole} {m : Motion} (h : f.Moves x m) (hm : m ≠ .NONE) : f.fire.has x = true := by
  by_contra hn
  exact hm (by simpa [Moves, hn] using h)

theorem sees_ok {f : Flight} {x : Pole} {new : Position} {d : Drive} (h : d.Ok) (hf : d.flight = some f)
    (hm : (d.poles.get x).motion ≠ .NONE) : ({ d with flight := some (f.sees x new) } : Drive).Ok := by
  have hx := (h.moves hf x).fire hm
  obtain ⟨hp, hc, hl⟩ := f.sees_rest x new
  refine h.of_flight (.inl rfl) (.inl rfl) (.inl rfl) rfl
    ((h.flight f hf).of_moved (by rw [f.sees_op]) (by rw [f.sees_op]) (by rw [hp]) (f.sees_fire x new) hc hl fun y hy => ?_)
    fun y => ?_
  · rcases f.sees_moved x new with e | e <;> rw [e] at hy
    · exact (h.flight f hf).moved y hy
    · simp only [PoleSet.has_union, PoleSet.has_single, Bool.or_eq_true, beq_iff_eq] at hy
      exact hy.elim ((h.flight f hf).moved y) (· ▸ hx)
  · have hy := h.moves hf y
    have hsub : f.moved.has y = true → (f.sees x new).moved.has y = true := by
      rcases f.sees_moved x new with e | e <;> simp +contextual [e]
    simp only [Flight.Moves, Flight.sees_fire, Flight.sees_op] at hy ⊢
    cases hfire : f.fire.has y <;> simp only [hfire, if_true, if_false, Bool.false_eq_true] at hy ⊢
    · exact hy
    · cases hk : f.op.kind <;> simp only [hk] at hy ⊢
      · exact hy.imp_right (And.imp_right hsub)
      · exact hy

theorem gap_ok {f : Flight} {p : Part} (h : p.dc.Ok) (hf : p.dc.flight = some f) (hp : f.phase = .TRIP_WINDOW) :
    (clearMotion (f.toGap p).moved { p with dc := { p.dc with flight := some (f.toGap p) } }).dc.Ok := by
  have hs := h.flight f hf
  have hk : f.op.kind ≠ .CLOSE := fun k => by simp [hs.phase.1 k] at hp
  have ht : f.op.kind = .TRIP := by cases e : f.op.kind <;> simp_all
  refine h.of_flight (.inl rfl) (.inl rfl) (.inl rfl) rfl (hs.of_moved rfl rfl ?_ rfl rfl rfl fun x hx => ?_) fun x => ?_
  · simp [Flight.toGap, hp]
  · simp only [Flight.toGap, PoleSet.has_union, PoleSet.has_diff, Bool.or_eq_true, Bool.and_eq_true] at hx
    exact hx.elim (hs.moved x) fun hx => hs.leave x hx.1
  · have hm := h.moves hf x
    simp only [Flight.Moves, ht] at hm
    simp only [Flight.Moves, Flight.toGap, ht, clearMotion, poles_mapPoles]
    by_cases hmoved : (f.moved.union (f.mustLeave.diff p.notOpen)).has x = true
    · simp [hmoved]
    · have hmv : f.moved.has x ≠ true := fun e => hmoved (by simp [e])
      simp only [hmoved, hmv] at hm ⊢
      exact hm

theorem land_ok {f : Flight} {p : Part} (h : p.dc.Ok) (hf : p.dc.flight = some f) : (clearMotion f.fire (beginEnd p)).dc.Ok := by
  refine h.of_free rfl rfl rfl rfl fun x => ?_
  simp only [clearMotion, poles_mapPoles]
  split
  · rfl
  · rename_i hx
    simpa [Flight.Moves, hx] using h.moves hf x

theorem landUnfired_ok {s : PoleSet} {p : Part} (h : p.dc.Ok) (hf : p.dc.flight = none) :
    (clearMotion s (beginEnd p)).dc.Ok := by
  refine h.of_free rfl rfl rfl rfl fun x => ?_
  simp only [clearMotion, poles_mapPoles]
  split
  · rfl
  · exact h.motion_of_none hf x

theorem joinPending_ok (s : PoleSet) (e : ReqEntry) {p : Part} (h : p.dc.Ok) : (joinPending s e p).dc.Ok := by
  simp only [joinPending]
  split
  · rename_i t ht
    obtain ⟨hk, hc⟩ := h.trip t ht
    refine { h with trip := fun u hu => ?_, motion := fun x => by simpa [Drive.motionFits] using h.motion x }
    cases hu
    exact ⟨hk, fun x hx => by simp [OpRec.addRequester, hc x hx]⟩
  · refine { h with trip := fun u hu => ?_, motion := fun x => by simpa [Drive.motionFits] using h.motion x }
    cases hu
    exact ⟨rfl, by simp⟩

theorem takeClosing_ok (s : PoleSet) {p : Part} (h : p.dc.Ok) : (takeClosing s p).dc.Ok := by
  simp only [takeClosing]
  split
  · rename_i t ht
    obtain ⟨hk, hc⟩ := h.trip t ht
    refine { h with trip := fun u hu => ?_, motion := fun x => by simpa [Drive.motionFits] using h.motion x }
    cases hu
    refine ⟨hk, fun x hx => ?_⟩
    simp only [PoleSet.has_union, Bool.or_eq_true] at hx ⊢
    exact hx.imp_left (hc x)
  · exact h

theorem Part.Fresh.ok {p : Part} (h : p.Fresh) : p.dc.Ok where
  trip t k := by simp [h.trip] at k
  crew t k := by simp [h.crew] at k
  radio t k := by simp [h.radio] at k
  flight t k := by simp [h.flight] at k
  motion x := by simp [Drive.motionFits, h.flight, h.motion]

theorem tick_ok {p : Part} (h : p.dc.Ok) : (advanceTimers p).dc.Ok where
  trip := h.trip
  crew e k := by
    obtain ⟨c, hc, rfl⟩ := Option.map_eq_some_iff.1 k
    exact h.crew c hc
  radio := h.radio
  flight f k := by
    obtain ⟨g, hg, rfl⟩ := Option.map_eq_some_iff.1 k
    obtain ⟨h1, h2, h3, h4, h5⟩ := h.flight g hg
    exact ⟨h1, h2, h3, h4, h5⟩
  motion x := by
    have hx := h.motion x
    simp only [advanceTimers, Drive.motionFits, Drive.tick] at hx ⊢
    cases hf : p.dc.flight <;> simpa [hf] using hx

theorem Move.drive {G H : Loose} {p q : Part} (m : Move G p H q) (hl : Landed G p) (h : p.dc.Ok) : q.dc.Ok := by
  cases m with
  | calm c => exact h.of_calm c.drive
  | drop x => exact h.of_entries (dropSeq_ofEntries x p)
  | cancel x => exact h.of_entries (cancelSeq_ofEntries x p)
  | stop s => exact h.of_entries ((OfEntries.applyAll dropSeq_ofEntries _ p).trans (mapSeq_ofEntries _ _ _))
  | await s f => exact h.of_entries (mapSeq_ofEntries _ _ p)
  | cleared | widen => exact h
  | settle s f => exact h.of_entries (mapSeq_ofEntries _ _ p)
  | mark s => exact h.of_entries (mapSeq_ofEntries _ _ p)
  | place s => exact h.of_entries ((mapSeq_ofEntries _ _ p).trans (placeEntries_ofEntries _ _))
  | grant u us =>
    have hw : OfEntries p { p with nu := { p.nu with waiting := us } } := ⟨_, _, _, rfl⟩
    exact h.of_entries (hw.trans (.applyAll pendingEntry_ofEntries _ _))
  | split => exact h.of_entries (splitBack_ofEntries _ p)
  | fireTrip t ht hf he => exact fireTrip_ok h ht hf he
  | fireCrew e he hf =>
    exact closeFired_ok (h.of_same (.inl rfl) (.inr rfl) (.inl rfl) rfl fun _ => rfl) (h.crew e he) hf
  | fireRadio e he hf =>
    exact closeFired_ok (h.of_same (.inl rfl) (.inl rfl) (.inr rfl) rfl fun _ => rfl) (h.radio e he) hf
  | fireSeq op hk _ hf =>
    exact closeFired_ok (h.of_same (.inl rfl) (.inl rfl) (.inl rfl) rfl fun _ => rfl) hk hf
  | fly s hf c =>
    refine h.of_flight (.inl rfl) (.inl rfl) (.inl rfl) rfl (c.ok (h.flight _ hf)) fun x => ?_
    simpa only [Flight.Moves, c.fire, c.kind, c.moved] using h.moves hf x
  | sees x new hf hm => exact sees_ok h hf hm
  | gap hf hp => exact gap_ok h hf hp
  | land hf => exact land_ok h hf
  | landUnfired s hf => exact landUnfired_ok h hf
  | freed => exact h.of_same (.inl rfl) (.inl rfl) (.inl rfl) rfl fun _ => rfl
  | join s e => exact joinPending_ok s e h
  | takeClosing s => exact takeClosing_ok s h
  | crew e he =>
    refine { h with crew := fun c hc => ?_, motion := fun x => by simpa [Drive.motionFits] using h.motion x }
    cases hc
    exact he.elim (·.1) fun ⟨d, hd, hk, _⟩ => hk ▸ h.crew d hd
  | radio e hk =>
    refine { h with radio := fun c hc => ?_, motion := fun x => by simpa [Drive.motionFits] using h.motion x }
    cases hc
    exact hk
  | tick => exact tick_ok h
  | start hq => exact hq.ok
  | absurd hG hf => simp [hl hG] at hf

theorem Moves.drive {G H : Loose} {p q : Part} (m : Moves G p H q) (hl : Landed G p) (h : p.dc.Ok) : q.dc.Ok :=
  m.keeps (P := fun _ r => r.dc.Ok) Move.drive hl h

/-- Every step keeps the drive sane. -/
theorem step_driveSane {s t : State} (h : s.part.driveSane = true) (e : step s = .next t) : t.part.driveSane = true :=
  (Part.driveSane_iff _).2 ((step_moves e).drive (landed_none _) ((Part.driveSane_iff _).1 h))

end Sys2Proof.Machine
end

section
/-! PROOFS. Every step keeps quiescence as the records give it and the close entries as chapters 1, 3 and 6 leave them (O60). -/

namespace Sys2Proof.Machine

/-! ### Quiescence (R14, R71, R72) -/

theorem OfEntries.ending {p q : Part} (h : OfEntries p q) : q.dc.ending = p.dc.ending := by
  obtain ⟨_, _, _, rfl⟩ := h
  rfl

@[simp] theorem joinPending_dc_ending (s : PoleSet) (e : ReqEntry) (p : Part) :
    (joinPending s e p).dc.ending = p.dc.ending := by
  simp only [joinPending]
  split <;> rfl

@[simp] theorem takeClosing_dc_ending (s : PoleSet) (p : Part) : (takeClosing s p).dc.ending = p.dc.ending := by
  simp only [takeClosing]
  split <;> rfl

/-- The open step of R14 is open while the end of an operation is handled, and only then. -/
theorem Move.ending {G H : Loose} {p q : Part} (m : Move G p H q) (hl : Landed G p) (h : p.dc.ending = G.ending.isSome) :
    q.dc.ending = H.ending.isSome := by
  cases m with
  | calm c => exact c.drive.ending.trans h
  | drop x => exact (dropSeq_ofEntries x p).ending.trans h
  | cancel x => exact (cancelSeq_ofEntries x p).ending.trans h
  | stop s => exact ((OfEntries.applyAll dropSeq_ofEntries _ p).trans (mapSeq_ofEntries _ _ _)).ending.trans h
  | await s f => exact (mapSeq_ofEntries _ _ p).ending.trans h
  | cleared | widen => exact h
  | settle s f => exact (mapSeq_ofEntries _ _ p).ending.trans h
  | mark s => exact (mapSeq_ofEntries _ _ p).ending.trans h
  | place s => exact ((mapSeq_ofEntries _ _ p).trans (placeEntries_ofEntries _ _)).ending.trans h
  | grant u us =>
    have hw : OfEntries p { p with nu := { p.nu with waiting := us } } := ⟨_, _, _, rfl⟩
    exact (hw.trans (.applyAll pendingEntry_ofEntries _ _)).ending.trans h
  | split => exact (splitBack_ofEntries _ p).ending.trans h
  | fireTrip t ht hf he =>
    rw [fireTrip_of_fires he]
    exact h
  | fireCrew | fireRadio | fireSeq | fly | sees | gap | crew | radio | tick => exact h
  | land | landUnfired | freed => rfl
  | join => exact (joinPending_dc_ending _ _ p).trans h
  | takeClosing => exact (takeClosing_dc_ending _ p).trans h
  | start hq => exact hq.ending
  | absurd hG hf => simp [hl hG] at hf

/-- The judgements at the end of an event leave quiescence judged, with no pole mode pending (R71, R72). -/
theorem refresh_judged (p : Part) :
    (refresh p).sq.quiescent = (refresh p).isQuiescent ∧
      ((refresh p).sq.quiescent = true → (refresh p).sq.pendingMode = none) := by
  have hs : (refresh p).sq = takeMode { (energyJudge p).sq with quiescent := (energyJudge p).isQuiescent } := by
    simp [refresh, judgeQuiescence]
  have hd : (refresh p).dc = (energyJudge p).dc := by simp [refresh]
  have hq : (refresh p).isQuiescent = (energyJudge p).isQuiescent := by
    simp only [Part.isQuiescent, Part.seq, hs, hd]
    simp only [takeMode]
    repeat' split
    all_goals rfl
  rw [hq, hs]
  simp only [takeMode]
  split
  · split
    · simp_all
    · simp_all
  · simp_all

/-- Timers that go on leave quiescence as it was. -/
theorem advanceTimers_isQuiescent (p : Part) : (advanceTimers p).isQuiescent = p.isQuiescent := by
  have hs : ∀ x, ((advanceTimers p).seq x).state = (p.seq x).state := fun x => by
    simp [advanceTimers, Part.seq, mapSeq, PerPole.get_mapOn, SeqRec.tick]
  have hd : (advanceTimers p).dc.holdsWork = p.dc.holdsWork := by
    simp [advanceTimers, Drive.holdsWork, Drive.tick, Drive.seqPoles]
  simp only [Part.isQuiescent, hs, hd]

theorem Part.quiescenceSane_iff (p : Part) :
    p.quiescenceSane = true ↔ p.dc.ending = false ∧
      (p.on = true → p.sq.quiescent = p.isQuiescent ∧ (p.sq.quiescent = true → p.sq.pendingMode = none)) := by
  simp only [quiescenceSane, Bool.and_eq_true, Bool.or_eq_true, Bool.not_eq_true', beq_iff_eq, Option.isNone_iff_eq_none]
  cases p.on <;> cases p.sq.quiescent <;> simp

theorem Turn.quiescenceSane {p q : Part} (t : Turn p q) (h : p.quiescenceSane = true) : q.quiescenceSane = true := by
  obtain ⟨he, hq⟩ := (Part.quiescenceSane_iff p).1 h
  have hend : q.dc.ending = false := t.moves.keeps (P := fun G r => r.dc.ending = G.ending.isSome) Move.ending (landed_none p) he
  refine (Part.quiescenceSane_iff q).2 ⟨hend, fun hon => ?_⟩
  cases t with
  | event m => exact refresh_judged _
  | quiet c hd hs ho =>
    have e : q.isQuiescent = p.isQuiescent := by simp only [Part.isQuiescent, Part.seq, hd, hs]
    rw [hs, e]
    exact hq (ho ▸ hon)
  | off => simp [powerLoss, offPart] at hon
  | tick =>
    rw [advanceTimers_isQuiescent]
    exact hq hon

theorem Turns.quiescenceSane {p q : Part} (h : Turns p q) (hp : p.quiescenceSane = true) : q.quiescenceSane = true := by
  induction h with
  | refl => exact hp
  | tail _ t ih => exact t.quiescenceSane ih

end Sys2Proof.Machine
end

section
/-! PROOFS. Every step keeps the close entries as chapters 1, 3 and 6 leave them (O60): no sequencer entry on a pole in DEAD or
TRIP_WAIT, under the superseded mark or of a reclose in flight, and units of the waiting order apart (R3, R6, R53, R65, R125). -/

namespace Sys2Proof.Machine

/-- The poles of a reclose in flight (R3). -/
def Drive.recloses (d : Drive) : PoleSet :=
  match d.flight with
  | some f => f.op.reclosed
  | none => .empty

@[simp] theorem OpRec.reclosed_has (op : OpRec) (x : Pole) :
    op.reclosed.has x = true ↔ op.kind = .CLOSE ∧ op.cause = .RECLOSE ∧ op.poles.has x = true := by
  unfold reclosed
  split <;> simp_all

theorem OpRec.reclosed_empty {op : OpRec} (h : op.kind ≠ .CLOSE ∨ op.cause ≠ .RECLOSE) (x : Pole) : op.reclosed.has x = false := by
  rw [← Bool.not_eq_true, reclosed_has]
  tauto

/-- What a pole's entry and record allow (`Part.entrySane`), for a pole whose trip end may be awaited with an entry still to be
cleared, and one whose reclose may be in flight. -/
structure EntryFits (e : Option SeqEntry) (r : SeqRec) (awaits fired : Bool) : Prop where
  entry : e.isSome = true → r.state ≠ .DEAD ∧ (r.state = .TRIP_WAIT → awaits = true) ∧ r.superseded = false ∧ fired = false
  dead : r.state = .DEAD → r.superseded = false ∧ fired = false

/-- The units of the waiting order are of poles whose entries wait, no pole in two of them (R125). -/
structure WaitsFit (es : PerPole (Option SeqEntry)) (us : List PoleSet) : Prop where
  waits : ∀ u ∈ us, ∀ x, u.has x = true → es.get x = some .WAIT_ENERGY
  apart : us.Pairwise fun u v => u.overlaps v = false

/-- The close entries of a part (`Part.entriesSane`) while some things are left open. -/
structure EntriesFit (G : Loose) (p : Part) : Prop where
  crew : ∀ e, p.dc.crew = some e → e.op.cause ≠ .RECLOSE
  radio : ∀ e, p.dc.radio = some e → e.op.cause ≠ .RECLOSE
  pole : ∀ x, EntryFits (p.dc.seq.get x) (p.seq x) (G.awaiting.has x) (p.dc.recloses.has x)
  units : WaitsFit p.dc.seq p.nu.waiting
  ended : ∀ N, G.ending = some N → ∀ x, N.has x = true → p.dc.seq.get x = none

theorem Part.entrySane_iff (p : Part) (x : Pole) :
    p.entrySane x = true ↔ EntryFits (p.dc.seq.get x) (p.seq x) false (p.dc.recloses.has x) := by
  have hf : (p.dc.flight.map fun f => f.op.kind == .CLOSE && f.op.cause == .RECLOSE && f.op.poles.has x).getD false =
      p.dc.recloses.has x := by
    unfold Drive.recloses
    cases p.dc.flight with
    | none => simp
    | some f =>
      rw [Bool.eq_iff_iff]
      simp [and_assoc]
  have hs : EntryFits (p.dc.seq.get x) (p.seq x) false (p.dc.recloses.has x) ↔
      ((p.dc.seq.get x).isSome = true → (p.seq x).state ≠ .DEAD ∧ (p.seq x).state ≠ .TRIP_WAIT ∧
        (p.seq x).superseded = false ∧ p.dc.recloses.has x = false) ∧
      ((p.seq x).state = .DEAD → (p.seq x).superseded = false ∧ p.dc.recloses.has x = false) :=
    ⟨fun h => ⟨fun k => by simpa using h.entry k, h.dead⟩, fun h => ⟨fun k => by simpa using h.1 k, h.2⟩⟩
  rw [hs]
  simp only [entrySane, hf]
  cases p.dc.seq.get x <;> cases (p.seq x).superseded <;> cases p.dc.recloses.has x <;> simp [imp_false]

theorem Part.entriesSane_iff (p : Part) : p.entriesSane = true ↔ EntriesFit .none p := by
  have map {α : Type} (o : Option α) (f : α → Bool) : (o.map f).getD true = true ↔ ∀ a, o = some a → f a = true := by
    cases o <;> simp
  simp only [entriesSane, Bool.and_eq_true, map, bne_iff_ne, PoleSet.all_iff, PoleSet.has_full, true_imp_iff, entrySane_iff,
    List.all_eq_true, beq_iff_eq, decide_eq_true_eq]
  constructor
  · rintro ⟨⟨⟨⟨hc, hr⟩, hp⟩, hw⟩, ha⟩
    exact ⟨hc, hr, fun x => by simpa [Loose.none] using hp x, ⟨hw, ha⟩, fun N hN => by simp [Loose.none] at hN⟩
  · rintro ⟨hc, hr, hp, ⟨hw, ha⟩, -⟩
    exact ⟨⟨⟨⟨hc, hr⟩, fun x => by simpa [Loose.none] using hp x⟩, hw⟩, ha⟩

/-! ### A pole's entry and record -/

theorem EntryFits.calm {e : Option SeqEntry} {r s : SeqRec} {a f : Bool} (h : EntryFits e r a f) (c : r.Calm s) :
    EntryFits e s a f := by
  have hmark {b : Prop} : (r.superseded = false ∧ b) → (s.superseded = false ∧ b) := fun k =>
    ⟨Bool.eq_false_iff.2 fun e => by simp [c.mark e] at k, k.2⟩
  constructor
  · intro he
    obtain ⟨h1, h2, h3⟩ := h.entry he
    refine ⟨fun k => h1 ((c.rests (.inl k)) ▸ k), fun k => h2 ((c.rests (.inr k)) ▸ k), hmark h3⟩
  · exact fun k => hmark (h.dead ((c.rests (.inl k)) ▸ k))

theorem EntryFits.gone {e : Option SeqEntry} {r : SeqRec} {a b f : Bool} (h : EntryFits e r a f) : EntryFits none r b f :=
  ⟨fun k => by simp at k, h.dead⟩

theorem EntryFits.awaits {e : Option SeqEntry} {r : SeqRec} {a b f : Bool} (h : EntryFits e r a f)
    (k : e.isSome = true → a = true → b = true) : EntryFits e r b f :=
  ⟨fun he => ⟨(h.entry he).1, fun ht => k he ((h.entry he).2.1 ht), (h.entry he).2.2⟩, h.dead⟩

theorem EntryFits.unfired {e : Option SeqEntry} {r : SeqRec} {a f : Bool} (h : EntryFits e r a f) : EntryFits e r a false :=
  ⟨fun he => ⟨(h.entry he).1, (h.entry he).2.1, (h.entry he).2.2.1, rfl⟩, fun hd => ⟨(h.dead hd).1, rfl⟩⟩

/-- An entry in another state. -/
theorem EntryFits.other {e g : Option SeqEntry} {r : SeqRec} {a f : Bool} (h : EntryFits e r a f)
    (k : g.isSome = true → e.isSome = true) : EntryFits g r a f := ⟨fun hg => h.entry (k hg), h.dead⟩

/-- A pole that waits stopped in DEAD, its entry gone (R48, R65). -/
theorem EntryFits.stopped {e : Option SeqEntry} {r s : SeqRec} {a b f : Bool} (h : EntryFits e r a f)
    (k : r.state = .DEAD ∨ e.isSome = true) (hm : s.superseded = r.superseded) : EntryFits none s b f := by
  refine ⟨fun hn => by simp at hn, fun _ => ?_⟩
  rw [hm]
  rcases k with hd | he
  · exact h.dead hd
  · exact (h.entry he).2.2

/-! ### The waiting order -/

theorem PoleSet.overlaps_mono {s t u v : PoleSet} (h : u.overlaps v = false) (hs : ∀ x, s.has x = true → u.has x = true)
    (ht : ∀ x, t.has x = true → v.has x = true) : s.overlaps t = false := by
  rw [PoleSet.overlaps_false_iff] at h ⊢
  intro x hx
  refine Bool.eq_false_iff.2 fun hn => ?_
  have hu := h x (hs x hx)
  simp [ht x hn] at hu

theorem WaitsFit.drop {es : PerPole (Option SeqEntry)} {us : List PoleSet} (h : WaitsFit es us) (x : Pole) :
    WaitsFit (es.set x none) (dropWaiting x us) := by
  constructor
  · intro u hu y hy
    simp only [dropWaiting, List.mem_filter, List.mem_map] at hu
    obtain ⟨⟨v, hv, rfl⟩, -⟩ := hu
    simp only [PoleSet.has_diff, PoleSet.has_single, Bool.and_eq_true, Bool.not_eq_true', beq_eq_false_iff_ne] at hy
    rw [PerPole.get_set, if_neg hy.2]
    exact h.waits v hv y hy.1
  · refine (List.Pairwise.map _ (fun u v huv => ?_) h.apart).filter _
    exact PoleSet.overlaps_mono huv (by simp +contextual) (by simp +contextual)

/-- Entries that do not wait may change. -/
theorem WaitsFit.of_same {es gs : PerPole (Option SeqEntry)} {us : List PoleSet} (h : WaitsFit es us)
    (k : ∀ x, es.get x = some .WAIT_ENERGY → gs.get x = some .WAIT_ENERGY) : WaitsFit gs us :=
  ⟨fun u hu x hx => k x (h.waits u hu x hx), h.apart⟩

/-- Units of other poles, apart and waiting, join the waiting order. -/
theorem WaitsFit.append {es gs : PerPole (Option SeqEntry)} {us vs : List PoleSet} (h : WaitsFit es us) (k : WaitsFit gs vs)
    (hs : ∀ x, es.get x = some .WAIT_ENERGY → gs.get x = some .WAIT_ENERGY)
    (hn : ∀ v ∈ vs, ∀ x, v.has x = true → es.get x ≠ some .WAIT_ENERGY) : WaitsFit gs (us ++ vs) := by
  constructor
  · intro u hu x hx
    rcases List.mem_append.1 hu with hu | hu
    · exact hs x (h.waits u hu x hx)
    · exact k.waits u hu x hx
  · refine List.pairwise_append.2 ⟨h.apart, k.apart, fun u hu v hv => ?_⟩
    rw [PoleSet.overlaps_false_iff]
    exact fun x hx => Bool.eq_false_iff.2 fun hv' => hn v hv x hv' (h.waits u hu x hx)

/-- A combined close splits back into units of its poles, apart from one another (R125). -/
theorem splitUnits_units (s : PoleSet) (p : Part) :
    (∀ u ∈ splitUnits s p, ∀ x, u.has x = true → s.has x = true) ∧
      (splitUnits s p).Pairwise fun u v => u.overlaps v = false := by
  have hall : ∀ s g : PoleSet,
      let gang := s.inter g
      let us := (s.members.filter fun x => !gang.has x || gang.members.head? == some x).map
        fun x => if gang.has x then gang else .single x
      (∀ u ∈ us, ∀ x ∈ Pole.all, u.has x = true → s.has x = true) ∧ us.Pairwise fun u v => u.overlaps v = false := by
    rintro ⟨_ | _, _ | _, _ | _⟩ ⟨_ | _, _ | _, _ | _⟩ <;> decide
  obtain ⟨h1, h2⟩ := hall s p.gang
  exact ⟨fun u hu x => h1 u hu x (by cases x <;> decide), h2⟩

/-! ### The moves -/

@[simp] theorem applyAll_pendingEntry_seq (xs : List Pole) (y : Pole) (p : Part) :
    (applyAll pendingEntry xs p).dc.seq.get y = if y ∈ xs then some .PENDING else p.dc.seq.get y :=
  applyAll_dc_seq (fun _ _ _ => PerPole.get_set _ _ _ _) xs y p

@[simp] theorem applyAll_setEntry_seq (e : SeqEntry) (xs : List Pole) (y : Pole) (p : Part) :
    (applyAll (setEntry e) xs p).dc.seq.get y = if y ∈ xs then some e else p.dc.seq.get y :=
  applyAll_dc_seq (fun _ _ _ => PerPole.get_set _ _ _ _) xs y p

/-- A part that differs in its records alone. -/
theorem EntriesFit.of_recs {G H : Loose} {p q : Part} (h : EntriesFit G p) (hd : q.dc = p.dc)
    (hw : q.nu.waiting = p.nu.waiting) (he : H.ending = G.ending)
    (hp : ∀ x, EntryFits (p.dc.seq.get x) (q.seq x) (H.awaiting.has x) (p.dc.recloses.has x)) : EntriesFit H q where
  crew := hd ▸ h.crew
  radio := hd ▸ h.radio
  pole x := hd ▸ hp x
  units := hd ▸ hw ▸ h.units
  ended N hN := hd ▸ h.ended N (he ▸ hN)

/-- A part that differs in the operation in flight and the entries of the links alone. -/
theorem EntriesFit.of_drive {G H : Loose} {p q : Part} (h : EntriesFit G p)
    (hc : ∀ e, q.dc.crew = some e → e.op.cause ≠ .RECLOSE) (hr : ∀ e, q.dc.radio = some e → e.op.cause ≠ .RECLOSE)
    (hs : q.dc.seq = p.dc.seq) (hq : q.sq.recs = p.sq.recs) (hw : q.nu.waiting = p.nu.waiting)
    (ha : H.awaiting = G.awaiting)
    (he : ∀ N, H.ending = some N → ∀ x, N.has x = true → p.dc.seq.get x = none)
    (hf : (∀ x, q.dc.recloses.has x = p.dc.recloses.has x) ∨ ∀ x, q.dc.recloses.has x = false) : EntriesFit H q where
  crew := hc
  radio := hr
  pole x := by
    have hx := h.pole x
    have hseq : q.seq x = p.seq x := by simp only [Part.seq, hq]
    rw [hs, hseq, ha]
    rcases hf with hf | hf <;> rw [hf x]
    · exact hx
    · exact hx.unfired
  units := hs ▸ hw ▸ h.units
  ended N hN := hs ▸ he N hN

theorem EntriesFit.calm {G : Loose} {p q : Part} (h : EntriesFit G p) (c : Calm p q) : EntriesFit G q where
  crew e k := h.crew e (c.drive.crew.elim (· ▸ k) fun n => by simp [n] at k)
  radio e k := h.radio e (c.drive.radio.elim (· ▸ k) fun n => by simp [n] at k)
  pole x := by
    have hf : q.dc.recloses = p.dc.recloses := by simp only [Drive.recloses, c.drive.flight]
    rw [c.drive.seq, hf]
    exact (h.pole x).calm (c.recs x)
  units := c.drive.seq ▸ c.waiting ▸ h.units
  ended := c.drive.seq ▸ h.ended

theorem EntriesFit.drop {G : Loose} {p : Part} (h : EntriesFit G p) (x : Pole) : EntriesFit G (dropSeq x p) where
  crew := h.crew
  radio := h.radio
  pole y := by
    rw [dropSeq_dc_seq]
    split
    · exact (h.pole y).gone
    · exact h.pole y
  units := h.units.drop x
  ended N hN y hy := by
    rw [dropSeq_dc_seq, h.ended N hN y hy, ite_self]

theorem EntriesFit.cancel {G : Loose} {p : Part} (h : EntriesFit G p) {x : Pole} (hx : (p.dc.seq.get x).isSome = true) :
    EntriesFit G (cancelSeq x p) := by
  simp only [cancelSeq]
  split
  · refine (h.drop x).of_recs rfl rfl rfl fun y => ?_
    rw [Part.seq_setSeq]
    split
    · rename_i e
      subst e
      rw [dropSeq_dc_seq, if_pos rfl]
      exact (h.pole y).stopped (.inr hx) rfl
    · exact (h.drop x).pole y
  · exact h.drop x

theorem EntriesFit.stop {G : Loose} {p : Part} (h : EntriesFit G p) {s : PoleSet}
    (hs : ∀ x, s.has x = true → p.waitingPoles.has x = true) :
    EntriesFit G (mapSeq s (fun _ r => { r.deadStopped with ganged := true })
      (applyAll dropSeq (s.inter p.dc.seqPoles).members p)) := by
  have hd : EntriesFit G (applyAll dropSeq (s.inter p.dc.seqPoles).members p) :=
    applyAll_induction (P := EntriesFit G) (fun x _ hq => hq.drop x) _ h
  have hq : ∀ x, (applyAll dropSeq (s.inter p.dc.seqPoles).members p).seq x = p.seq x := fun x =>
    applyAll_keeps (fun q => q.seq x) (f := dropSeq) (fun _ _ => rfl) _ p
  have hf : (applyAll dropSeq (s.inter p.dc.seqPoles).members p).dc.recloses = p.dc.recloses :=
    applyAll_keeps (fun q => q.dc.recloses) (f := dropSeq) (fun _ _ => rfl) _ p
  refine hd.of_recs rfl rfl rfl fun x => ?_
  rw [seq_mapSeq]
  split
  · rename_i hx
    have hnone : (applyAll dropSeq (s.inter p.dc.seqPoles).members p).dc.seq.get x = none := by
      rw [applyAll_dc_seq dropSeq_dc_seq]
      split
      · rfl
      · rename_i hn
        simpa [Drive.seqPoles, hx] using hn
    have hw := hs x hx
    simp only [Part.waitingPoles, Part.unfired, PoleSet.has_ofFun, Bool.or_eq_true, Bool.and_eq_true, beq_iff_eq] at hw
    rw [hnone, hf]
    exact (h.pole x).stopped (hw.imp id (·.2)) (by simp [SeqRec.deadStopped, hq])
  · exact hd.pole x

theorem EntriesFit.await {G : Loose} {p : Part} (h : EntriesFit G p) {s : PoleSet} {f : Pole → SeqRec → SeqRec}
    (hf : ∀ x, s.has x = true → (p.seq x).Calm (f x (p.seq x)) ∨
      (f x (p.seq x)).state = .TRIP_WAIT ∧ (f x (p.seq x)).superseded = (p.seq x).superseded) :
    EntriesFit { G with awaiting := G.awaiting.union (s.inter p.dc.seqPoles) } (mapSeq s f p) := by
  refine h.of_recs rfl rfl rfl fun x => ?_
  have hx := (h.pole x).awaits (b := (G.awaiting.union (s.inter p.dc.seqPoles)).has x) fun _ ha => by simp [ha]
  rw [seq_mapSeq]
  split
  · rename_i hs
    rcases hf x hs with c | ⟨hst, hsup⟩
    · exact hx.calm c
    · refine ⟨fun he => ⟨by simp [hst], fun _ => by simp [hs, Drive.seqPoles, he], ?_⟩, fun hd => by simp [hst] at hd⟩
      rw [hsup]
      exact (hx.entry he).2.2
  · exact hx

/-- No pole stands under a reclose in flight while the end of an operation is handled. -/
theorem Landed.recloses {G : Loose} {p : Part} (h : Landed G p) (hG : G.ending.isSome = true) (x : Pole) :
    p.dc.recloses.has x = false := by simp [Drive.recloses, h hG]

theorem EntriesFit.settle {N s : PoleSet} {p : Part} {f : Pole → SeqRec → SeqRec} (h : EntriesFit ⟨.empty, some N⟩ p)
    (hl : Landed ⟨.empty, some N⟩ p)
    (hf : ∀ x, s.has x = true → (p.seq x).Calm (f x (p.seq x)) ∨
      (p.seq x).settles = true ∧ (f x (p.seq x)).superseded = false) : EntriesFit ⟨.empty, some N⟩ (mapSeq s f p) := by
  refine h.of_recs rfl rfl rfl fun x => ?_
  have hx := h.pole x
  rw [seq_mapSeq]
  split
  · rename_i hs
    rcases hf x hs with c | ⟨hset, hsup⟩
    · exact hx.calm c
    · refine ⟨fun he => ?_, fun _ => ⟨hsup, hl.recloses rfl x⟩⟩
      obtain ⟨-, hw, hm, -⟩ := hx.entry he
      simp only [SeqRec.settles, hm, Bool.and_false, Bool.or_false, beq_iff_eq] at hset
      simp at hw
      exact absurd hset hw
  · exact hx

theorem EntriesFit.mark {A N s : PoleSet} {p : Part} (h : EntriesFit ⟨A, some N⟩ p)
    (hs : ∀ x, s.has x = true → N.has x = true) : EntriesFit ⟨A, some N⟩ (mapSeq s (fun _ r => r.markSuperseded) p) := by
  refine h.of_recs rfl rfl rfl fun x => ?_
  have hx := h.pole x
  rw [seq_mapSeq]
  split
  · rename_i hxs
    rw [h.ended N rfl x (hs x hxs)] at hx ⊢
    refine ⟨fun he => by simp at he, fun hd => ?_⟩
    simp only [SeqRec.markSuperseded] at hd ⊢
    split at hd
    · rename_i hc
      have hst : (p.seq x).state = .DEAD := hd
      simp [hst] at hc
    · rename_i hc
      rw [if_neg hc]
      exact hx.dead hd
  · exact hx

@[simp] theorem placeEntries_seq (s : PoleSet) (p : Part) (x : Pole) : (placeEntries s p).seq x = p.seq x := by
  simp only [placeEntries]
  split
  · exact applyAll_keeps (fun q => q.seq x) (f := pendingEntry) (fun _ _ => rfl) _ p
  · exact applyAll_keeps (fun q => q.seq x) (f := setEntry .WAIT_ENERGY) (fun _ _ => rfl) _ p

theorem OfEntries.recloses {p q : Part} (h : OfEntries p q) : q.dc.recloses = p.dc.recloses := by
  obtain ⟨_, _, _, rfl⟩ := h
  rfl

theorem OfEntries.crew {p q : Part} (h : OfEntries p q) : q.dc.crew = p.dc.crew := by
  obtain ⟨_, _, _, rfl⟩ := h
  rfl

theorem OfEntries.radio {p q : Part} (h : OfEntries p q) : q.dc.radio = p.dc.radio := by
  obtain ⟨_, _, _, rfl⟩ := h
  rfl

/-- Entries of poles that had none are placed (R123, R125). -/
theorem placeEntries_entry (s : PoleSet) (p : Part) (x : Pole) :
    (s.has x = true → ((placeEntries s p).dc.seq.get x).isSome = true) ∧
      (s.has x = false → (placeEntries s p).dc.seq.get x = p.dc.seq.get x) := by
  simp only [placeEntries]
  split <;> simp +contextual

theorem WaitsFit.place {s : PoleSet} {p : Part} (h : WaitsFit p.dc.seq p.nu.waiting)
    (hs : ∀ x, s.has x = true → p.dc.seq.get x = none) :
    WaitsFit (placeEntries s p).dc.seq (placeEntries s p).nu.waiting := by
  have hne : ∀ x, p.dc.seq.get x = some .WAIT_ENERGY → s.has x = false := fun x hx =>
    Bool.eq_false_iff.2 fun hn => by simp [hs x hn] at hx
  simp only [placeEntries]
  split
  · have hw : (applyAll pendingEntry s.members p).nu.waiting = p.nu.waiting :=
      applyAll_keeps (fun q => q.nu.waiting) (f := pendingEntry) (fun _ _ => rfl) _ p
    rw [hw]
    exact h.of_same fun x hx => by simp [hne x hx, hx]
  · have hw : (applyAll (setEntry .WAIT_ENERGY) s.members p).nu.waiting = p.nu.waiting :=
      applyAll_keeps (fun q => q.nu.waiting) (f := setEntry .WAIT_ENERGY) (fun _ _ => rfl) _ p
    simp only [hw]
    refine h.append ⟨fun u hu x hx => ?_, List.pairwise_singleton _ _⟩ (fun x hx => by simp [hne x hx, hx])
      fun u hu x hx => ?_
    · rw [List.mem_singleton] at hu
      simp [← hu, hx]
    · rw [List.mem_singleton] at hu
      simp [hs x (hu ▸ hx)]

theorem EntriesFit.place {A s : PoleSet} {p : Part} (h : EntriesFit ⟨A, none⟩ p)
    (hs : ∀ x, s.has x = true → (p.seq x).state = .DEAD) :
    EntriesFit ⟨A, none⟩ (placeEntries s (mapSeq s (fun _ r => r.closeWait) p)) := by
  have hnone : ∀ x, s.has x = true → p.dc.seq.get x = none := fun x hx => by
    by_contra hn
    exact ((h.pole x).entry (Option.isSome_iff_ne_none.2 hn)).1 (hs x hx)
  have ho : OfEntries p (placeEntries s (mapSeq s (fun _ r => r.closeWait) p)) :=
    (mapSeq_ofEntries s _ p).trans (placeEntries_ofEntries s _)
  refine ⟨ho.crew ▸ h.crew, ho.radio ▸ h.radio, fun x => ?_, WaitsFit.place (p := mapSeq s _ p) h.units hnone, fun N hN => by simp at hN⟩
  obtain ⟨-, hout⟩ := placeEntries_entry s (mapSeq s (fun _ r => r.closeWait) p) x
  rw [ho.recloses, placeEntries_seq, seq_mapSeq]
  split
  · rename_i hx
    exact ⟨fun _ => ⟨by simp [SeqRec.closeWait], by simp [SeqRec.closeWait], (h.pole x).dead (hs x hx)⟩,
      fun hd => by simp [SeqRec.closeWait] at hd⟩
  · rename_i hx
    rw [hout (by simpa using hx)]
    exact h.pole x

theorem EntriesFit.grant {G : Loose} {p : Part} (h : EntriesFit G p) {u : PoleSet} {us : List PoleSet}
    (hw : p.nu.waiting = u :: us) :
    EntriesFit G (applyAll pendingEntry u.members { p with nu := { p.nu with waiting := us } }) := by
  have hp : OfEntries p { p with nu := { p.nu with waiting := us } } := ⟨_, _, _, rfl⟩
  have ho := hp.trans (.applyAll pendingEntry_ofEntries u.members _)
  have hseq : ∀ x, (applyAll pendingEntry u.members { p with nu := { p.nu with waiting := us } }).seq x = p.seq x := fun x =>
    applyAll_keeps (fun q => q.seq x) (f := pendingEntry) (fun _ _ => rfl) _ _
  have hwait : (applyAll pendingEntry u.members { p with nu := { p.nu with waiting := us } }).nu.waiting = us :=
    applyAll_keeps (fun q => q.nu.waiting) (f := pendingEntry) (fun _ _ => rfl) _ _
  have hu : ∀ x, u.has x = true → p.dc.seq.get x = some .WAIT_ENERGY := h.units.waits u (by simp [hw])
  obtain ⟨hapart, hrest⟩ := List.pairwise_cons.1 (hw ▸ h.units.apart)
  refine ⟨ho.crew ▸ h.crew, ho.radio ▸ h.radio, fun x => ?_, ⟨fun v hv x hx => ?_, hwait.symm ▸ hrest⟩, fun N hN x hx => ?_⟩
  · rw [ho.recloses, hseq]
    refine (h.pole x).other fun hg => ?_
    simp only [applyAll_pendingEntry_seq, PoleSet.mem_members] at hg
    split at hg
    · simp [hu x ‹_›]
    · exact hg
  · rw [hwait] at hv
    have hn : u.has x = false := Bool.eq_false_iff.2 fun hux => by
      simp [(PoleSet.overlaps_false_iff u v).1 (hapart v hv) x hux] at hx
    simp [hn, h.units.waits v (by simp [hw, hv]) x hx]
  · have hx' := h.ended N hN x hx
    have hn : u.has x = false := Bool.eq_false_iff.2 fun hux => by simp [hu x hux] at hx'
    simp [hn, hx']

/-- The entries and the waiting order of a combined close that has split back (R8, R124, R125). -/
theorem splitBack_entries (s : PoleSet) (p : Part) :
    (∀ x, (splitBack s p).dc.seq.get x = if s.has x then some .WAIT_ENERGY else p.dc.seq.get x) ∧
      (splitBack s p).nu.waiting = p.nu.waiting ++ splitUnits s p ∧ ∀ x, (splitBack s p).seq x = p.seq x := by
  refine ⟨fun x => ?_, ?_, fun x => ?_⟩
  · change (applyAll (setEntry .WAIT_ENERGY) s.members _).dc.seq.get x = _
    simp
  · change (applyAll (setEntry .WAIT_ENERGY) s.members _).nu.waiting ++ _ = _
    rw [applyAll_keeps (fun q => q.nu.waiting) (f := setEntry .WAIT_ENERGY) (fun _ _ => rfl),
      applyAll_keeps (fun q => q.nu.waiting) (f := fun x => releaseEntry (.SEQ x)) (fun _ _ => rfl)]
  · change (applyAll (setEntry .WAIT_ENERGY) s.members _).seq x = _
    rw [applyAll_keeps (fun q => q.seq x) (f := setEntry .WAIT_ENERGY) (fun _ _ => rfl),
      applyAll_keeps (fun q => q.seq x) (f := fun x => releaseEntry (.SEQ x)) (fun _ _ => rfl)]

theorem EntriesFit.split {G : Loose} {p : Part} (h : EntriesFit G p) : EntriesFit G (splitBack p.dc.readySeq p) := by
  obtain ⟨hseq, hwait, hrec⟩ := splitBack_entries p.dc.readySeq p
  obtain ⟨hsub, hapart⟩ := splitUnits_units p.dc.readySeq p
  have ho := splitBack_ofEntries p.dc.readySeq p
  have hready : ∀ x, p.dc.readySeq.has x = true ↔ p.dc.seq.get x = some .PENDING := fun x => by simp [Drive.readySeq]
  refine ⟨ho.crew ▸ h.crew, ho.radio ▸ h.radio, fun x => ?_, hwait ▸ h.units.append ⟨fun u hu x hx => ?_, hapart⟩
    (fun x hx => ?_) fun u hu x hx => ?_, fun N hN x hx => ?_⟩
  · rw [ho.recloses, hrec, hseq]
    refine (h.pole x).other fun hg => ?_
    split at hg
    · rename_i hx
      simp [(hready x).1 hx]
    · exact hg
  · simp [hseq, hsub u hu x hx]
  · rw [hseq, hx, ite_self]
  · simp [(hready x).1 (hsub u hu x hx)]
  · have hx' := h.ended N hN x hx
    have hn : p.dc.readySeq.has x = false := Bool.eq_false_iff.2 fun k => by simp [(hready x).1 k] at hx'
    rw [hseq, hn]
    exact hx'

theorem EntriesFit.fireSeq {A : PoleSet} {p : Part} (h : EntriesFit ⟨A, none⟩ p) {op : OpRec} (hop : op.poles = p.dc.readySeq) :
    EntriesFit ⟨A, none⟩
      (closeFired op { p with dc := { p.dc with seq := p.dc.seq.mapOn op.poles fun _ _ => none } }) := by
  have hseq : ∀ x, (p.dc.seq.mapOn op.poles fun _ _ => none).get x = if op.poles.has x then none else p.dc.seq.get x :=
    fun x => PerPole.get_mapOn _ _ _ x
  have hready : ∀ x, op.poles.has x = true ↔ p.dc.seq.get x = some .PENDING := fun x => by simp [hop, Drive.readySeq]
  refine ⟨h.crew, h.radio, fun x => ?_, h.units.of_same fun x hx => ?_, fun N hN => by simp at hN⟩
  · change EntryFits ((p.dc.seq.mapOn op.poles fun _ _ => none).get x) (p.seq x) _
      ((OpRec.reclosed { op with state := .IN_FLIGHT }).has x)
    rw [hseq]
    split
    · rename_i hx
      refine ⟨fun he => by simp at he, fun hd => ?_⟩
      exact absurd hd ((h.pole x).entry (by simp [(hready x).1 hx])).1
    · rename_i hx
      have hn : (OpRec.reclosed { op with state := .IN_FLIGHT }).has x = false := by
        rw [← Bool.not_eq_true, OpRec.reclosed_has]
        exact fun k => hx k.2.2
      exact hn ▸ (h.pole x).unfired
  · have hn : op.poles.has x = false := Bool.eq_false_iff.2 fun k => by simp [(hready x).1 k] at hx
    change (p.dc.seq.mapOn op.poles fun _ _ => none).get x = _
    rw [hseq, hn]
    exact hx

/-- Two parts that differ in the trip pending set and the next number alone. -/
theorem EntriesFit.of_trip {G : Loose} {p q : Part} (h : EntriesFit G p)
    (k : ∃ t n, q = { p with dc := { p.dc with trip := t, nextOp := n } }) : EntriesFit G q := by
  obtain ⟨_, _, rfl⟩ := k
  exact ⟨h.crew, h.radio, h.pole, h.units, h.ended⟩

theorem joinPending_trip (s : PoleSet) (e : ReqEntry) (p : Part) :
    ∃ t n, joinPending s e p = { p with dc := { p.dc with trip := t, nextOp := n } } := by
  simp only [joinPending]
  split <;> exact ⟨_, _, rfl⟩

theorem takeClosing_trip (s : PoleSet) (p : Part) :
    ∃ t n, takeClosing s p = { p with dc := { p.dc with trip := t, nextOp := n } } := by
  simp only [takeClosing]
  split <;> exact ⟨_, _, rfl⟩

/-- A close that is no reclose is fired. -/
theorem EntriesFit.fireClose {A : PoleSet} {p : Part} (h : EntriesFit ⟨A, none⟩ p) {op : OpRec} (hop : op.cause ≠ .RECLOSE) :
    EntriesFit ⟨A, none⟩ (closeFired op p) :=
  h.of_drive h.crew h.radio rfl rfl rfl rfl (fun N hN => by simp at hN)
    (.inr (OpRec.reclosed_empty (op := { op with state := .IN_FLIGHT }) (.inr hop)))

theorem EntriesFit.fireTrip {A : PoleSet} {p : Part} (h : EntriesFit ⟨A, none⟩ p) (hd : p.dc.Ok) {t : PendingTrip}
    (ht : p.dc.trip = some t) (he : (p.fireSet t).isEmpty = false) : EntriesFit ⟨A, none⟩ (fireTrip t p) := by
  rw [fireTrip_of_fires he]
  refine h.of_drive h.crew h.radio rfl rfl rfl rfl (fun N hN => by simp at hN)
    (.inr (OpRec.reclosed_empty (op := { t.op with state := .IN_FLIGHT }) (.inl ?_)))
  simp [(hd.trip t ht).1]

/-- Poles of a reclose stay those of the operation in flight while it goes on. -/
theorem recloses_of_flight {d : Drive} {f : Flight} (h : d.flight = some f) : d.recloses = f.op.reclosed := by
  simp [Drive.recloses, h]

theorem Flight.Calm.reclosed {f g : Flight} (c : f.Calm g) (x : Pole) : g.op.reclosed.has x = f.op.reclosed.has x := by
  rw [Bool.eq_iff_iff, OpRec.reclosed_has, OpRec.reclosed_has, c.kind, c.poles]
  refine and_congr_right fun hk => ?_
  rw [c.cause hk]

theorem EntriesFit.land {G : Loose} {p : Part} (h : EntriesFit G p) {f : Flight} (hf : p.dc.flight = some f) :
    EntriesFit { G with ending := some f.op.reclosed } (clearMotion f.fire (beginEnd p)) := by
  refine h.of_drive h.crew h.radio rfl rfl rfl rfl (fun N hN x hx => ?_) (.inr fun x => by simp [Drive.recloses, clearMotion, beginEnd])
  obtain rfl := Option.some.inj hN
  by_contra hn
  have := ((h.pole x).entry (Option.isSome_iff_ne_none.2 hn)).2.2.2
  simp [recloses_of_flight hf, hx] at this

theorem advanceTimers_entries (p : Part) :
    (advanceTimers p).dc.seq = p.dc.seq ∧ (advanceTimers p).nu.waiting = p.nu.waiting ∧
      (∀ x, ((advanceTimers p).seq x).state = (p.seq x).state ∧ ((advanceTimers p).seq x).superseded = (p.seq x).superseded) ∧
      ∀ x, (advanceTimers p).dc.recloses.has x = p.dc.recloses.has x := by
  refine ⟨rfl, rfl, fun x => by simp [advanceTimers, Part.seq, mapSeq, PerPole.get_mapOn, SeqRec.tick], fun x => ?_⟩
  simp only [advanceTimers, Drive.recloses, Drive.tick]
  cases p.dc.flight <;> rfl

theorem EntriesFit.tick {G : Loose} {p : Part} (h : EntriesFit G p) : EntriesFit G (advanceTimers p) := by
  obtain ⟨hs, hw, hr, hf⟩ := advanceTimers_entries p
  refine ⟨fun e k => ?_, h.radio, fun x => ?_, hs ▸ hw ▸ h.units, hs ▸ h.ended⟩
  · obtain ⟨c, hc, rfl⟩ := Option.map_eq_some_iff.1 k
    exact h.crew c hc
  · rw [hs, hf]
    exact (h.pole x).calm (.of_same (hr x).1 (hr x).2)

theorem Part.Fresh.entries {p : Part} (h : p.Fresh) : EntriesFit .none p where
  crew e k := by simp [h.crew] at k
  radio e k := by simp [h.radio] at k
  pole x := ⟨fun k => by simp [h.seq] at k, fun k => absurd k (h.state x).1⟩
  units := by simp [h.waiting]; exact ⟨fun u hu => by simp at hu, List.Pairwise.nil⟩
  ended N hN := by simp [Loose.none] at hN

theorem Move.entries {G H : Loose} {p q : Part} (m : Move G p H q) (hl : Landed G p) (hd : p.dc.Ok) (h : EntriesFit G p) :
    EntriesFit H q := by
  cases m with
  | calm c => exact h.calm c
  | drop x => exact h.drop x
  | cancel x hx => exact h.cancel hx
  | stop s hs => exact h.stop hs
  | await s f hf => exact h.await hf
  | cleared s hs =>
    refine h.of_recs rfl rfl rfl fun x => (h.pole x).awaits fun he ha => ?_
    have hx : s.has x = false := Bool.eq_false_iff.2 fun k => by simp [hs x k] at he
    simp [ha, hx]
  | widen s hs => exact h.of_recs rfl rfl rfl fun x => (h.pole x).awaits fun _ => hs x
  | settle s f hf => exact h.settle hl hf
  | mark s hs => exact h.mark hs
  | place s hs => exact h.place hs
  | grant u us hw => exact h.grant hw
  | split => exact h.split
  | fireTrip t ht hf he => exact h.fireTrip hd ht he
  | fireCrew e he =>
    have hp : EntriesFit _ { p with dc := { p.dc with crew := none } } :=
      h.of_drive (fun _ k => by simp at k) h.radio rfl rfl rfl rfl h.ended (.inl fun _ => rfl)
    exact hp.fireClose (h.crew e he)
  | fireRadio e he =>
    have hp : EntriesFit _ { p with dc := { p.dc with radio := none } } :=
      h.of_drive h.crew (fun _ k => by simp at k) rfl rfl rfl rfl h.ended (.inl fun _ => rfl)
    exact hp.fireClose (h.radio e he)
  | fireSeq op _ hop => exact h.fireSeq hop
  | fly s hf c =>
    refine h.of_drive h.crew h.radio rfl rfl rfl rfl h.ended (.inl fun x => ?_)
    rw [recloses_of_flight hf]
    exact c.reclosed x
  | sees x new hf =>
    refine h.of_drive h.crew h.radio rfl rfl rfl rfl h.ended (.inl fun y => ?_)
    rw [recloses_of_flight hf]
    simp [Drive.recloses]
  | gap hf hp =>
    refine h.of_drive h.crew h.radio rfl rfl rfl rfl h.ended (.inl fun y => ?_)
    rw [recloses_of_flight hf]
    rfl
  | land hf => exact h.land hf
  | landUnfired s hf =>
    refine h.of_drive h.crew h.radio rfl rfl rfl rfl (fun N hN x hx => ?_) (.inr fun x => by simp [Drive.recloses, clearMotion, beginEnd])
    obtain rfl := Option.some.inj hN
    simp at hx
  | freed =>
    exact h.of_drive h.crew h.radio rfl (by simp [driveFreed]) rfl rfl (fun N hN => by simp at hN) (.inl fun _ => rfl)
  | join s e => exact h.of_trip (joinPending_trip s e p)
  | takeClosing s => exact h.of_trip (takeClosing_trip s p)
  | crew e he =>
    refine h.of_drive (fun c hc => ?_) h.radio rfl rfl rfl rfl h.ended (.inl fun _ => rfl)
    obtain rfl := Option.some.inj hc
    rcases he with ⟨-, hn⟩ | ⟨d, hd, -, hn⟩
    · exact hn
    · exact hn ▸ h.crew d hd
  | radio e _ hn =>
    refine h.of_drive h.crew (fun c hc => ?_) rfl rfl rfl rfl h.ended (.inl fun _ => rfl)
    obtain rfl := Option.some.inj hc
    exact hn
  | tick => exact h.tick
  | start hq => exact hq.entries
  | absurd hG hf => simp [hl hG] at hf

/-- The drive and the entries, together: the moves of the entries read the kind of the operation in flight. -/
theorem Moves.entries {G H : Loose} {p q : Part} (m : Moves G p H q) (hl : Landed G p) (hd : p.dc.Ok) (h : EntriesFit G p) :
    EntriesFit H q :=
  (m.keeps (P := fun K r => r.dc.Ok ∧ EntriesFit K r) (fun m hl k => ⟨m.drive hl k.1, m.entries hl k.1 k.2⟩) hl ⟨hd, h⟩).2

end Sys2Proof.Machine
end

section
namespace Sys2Proof.Machine

/-- The state after reset is sane in every way (R45, R132, R156, R178, R197). -/
theorem reset_sane : State.reset.part.bounded = true ∧ State.reset.part.linksSane = true ∧
    State.reset.part.entriesSane = true ∧ State.reset.part.quiescenceSane = true := by decide +kernel

/-- Settles O60: the entries by the moves of a step, quiescence by its turns, the state after reset by evaluation. -/
theorem invariantsAtReset : Obligations.InvariantsAtReset := by
  obtain ⟨hb, hl, he, hq⟩ := reset_sane
  refine ⟨hb, hl, he, hq, fun s t hd hs e => ?_, fun s t hs e => (step_turns e).quiescenceSane hs⟩
  exact (Part.entriesSane_iff _).2
    ((step_moves e).entries (landed_none _) ((Part.driveSane_iff _).1 hd) ((Part.entriesSane_iff _).1 hs))

end Sys2Proof.Machine
end

section
/-! PROOFS. Requests that are answered at once or wait for a write, as a command brings them (R181 to R185), and the reads of the
history and of the claim (O18). -/

namespace Sys2Proof.Machine

/-! ### Passing a request (R184, R185) -/

/-- The claim timer and the request under answer are of different blocks. -/
theorem passedPart_eq (l : Link) (w : WaitReq) (p : Part) :
    passedPart l w p = setUnder l (some ⟨w.req.kindByte, w.tag⟩) (loadClaimTimer l p) := by
  simp only [passedPart, loadClaimTimer, setUnder]
  repeat' split
  all_goals rfl

@[simp] theorem setUnder_get_self (l : Link) (u : Option UnderAnswer) (p : Part) :
    (setUnder l u p).li.get l = { p.li.get l with under := u } := LinkInterface.get_set_self _ _ _

theorem setUnder_get_of_ne {l k : Link} (h : k ≠ l) (u : Option UnderAnswer) (p : Part) :
    (setUnder l u p).li.get k = p.li.get k := (LinkInterface.get_set _ _ _ _).trans (if_neg h)

/-- The outbound list of every link is the same for a request under answer. -/
@[simp] theorem passedPart_outbound (l k : Link) (w : WaitReq) (p : Part) :
    ((passedPart l w p).li.get k).outbound = (p.li.get k).outbound := by
  rw [passedPart_eq]
  by_cases h : k = l
  · simp [h]
  · simp [setUnder_get_of_ne h]

@[simp] theorem passedPart_powered (l k : Link) (w : WaitReq) (p : Part) :
    ((passedPart l w p).li.get k).powered = (p.li.get k).powered := by
  rw [passedPart_eq]
  by_cases h : k = l
  · simp [h]
  · simp [setUnder_get_of_ne h]

/-- A request answered without a further change of the part leaves the answer in the outbound list (R185). -/
theorem setUnder_send {l : Link} {p : Part} (hp : (p.li.get l).powered = true) (hu : (p.li.get l).under = none)
    (u : UnderAnswer) (m : Message) : setUnder l none (send l m (setUnder l (some u) p)) = send l m p := by
  simp [send, setUnder, hp, ← hu]

/-! ### Requests that only read (R22, R93) -/

/-- A command that is a request which only reads, on a free link: the answer, and the claim timer of R89. -/
theorem request_read {s : State} {l : Link} {tag : Byte} {r : Request} (hon : s.part.on = true) (ha : arrive.admitted r = true)
    (hm : linkMay l r = true) (hf : s.found.free l) (hp : passRefusal l r s.found = none) (hr : onlyReads r = true)
    {code : AnswerCode} {content : List Byte} (ho : (handle l tag r (passedPart l ⟨tag, r⟩ s.found)).2 = some (code, content)) :
    request l tag r s =
      .next { s with part := send l (.answer (answerKind r.kindByte) tag code content) (loadClaimTimer l s.found) } := by
  have hh : handle l tag r (passedPart l ⟨tag, r⟩ s.found) = (passedPart l ⟨tag, r⟩ s.found, some (code, content)) :=
    Prod.ext (handle_of_onlyReads hr _ _ _) ho
  rw [request_taken ⟨hon, ha, hm, hf, hp⟩, passToOwner_answered hh]
  obtain ⟨hpow, hunder, -, -⟩ := hf
  simp only [refreshAfter, hr, if_true, afterAnswer_of_onlyReads hr, answer]
  rw [passedPart_eq, setUnder_send (by simpa using hpow) (by simpa using hunder)]

@[simp] theorem passedPart_claim (l : Link) (w : WaitReq) (p : Part) :
    (passedPart l w p).pu.claim = (loadClaimTimer l p).pu.claim := by
  rw [passedPart_eq, setUnder_pu]

theorem loadClaimTimer_claim_none {l : Link} {p : Part} (h : p.pu.claim = none) : (loadClaimTimer l p).pu.claim = none := by
  simp [loadClaimTimer, h]

theorem passRefusal_historyRead (l : Link) (n : Byte) (p : Part) : passRefusal l (.historyRead n) p = none := by
  have hd : inDormant (.historyRead n) = true := rfl
  have hc : underLocalControl (.historyRead n) = true := rfl
  simp [passRefusal, hd, hc]

end Sys2Proof.Machine
end

section
namespace Sys2Proof.Machine

/-- Settles O18: both requests only read. -/
theorem historyAndPendingAnswer : Obligations.HistoryAndPendingAnswer := by
  intro l tag n s hon hf
  have history {code : AnswerCode} {content : List Byte}
      (ho : (historyReadRequest n (passedPart l ⟨tag, .historyRead n⟩ s.found)).2 = some (code, content)) :
      exec (.historyRead l tag n) s = .next { s with part := send l (.answer 0x95 tag code content) (loadClaimTimer l s.found) } :=
    request_read hon rfl rfl hf (passRefusal_historyRead l n _) rfl ho
  refine ⟨fun hn => history ?_, fun hn => history ?_, fun hp hl => ?_⟩
  · simp [historyReadRequest, Nat.not_lt.2 hn]
  · simp [historyReadRequest, hn, reply]
  · have hm : linkMay l .readPending = true := by simpa [linkMay] using hl
    have pending {code : AnswerCode} {content : List Byte}
        (ho : (readPendingRequest (passedPart l ⟨tag, .readPending⟩ s.found)).2 = some (code, content)) :
        exec (.readPending l tag) s = .next { s with part := send l (.answer 0xB4 tag code content) (loadClaimTimer l s.found) } :=
      request_read hon rfl hm hf hp rfl ho
    refine ⟨fun hc => pending ?_, fun c hc => pending ?_⟩
    · simp [readPendingRequest, loadClaimTimer_claim_none hc, reply]
    · simp [readPendingRequest, hc]

end Sys2Proof.Machine
end

section
/-! PROOFS. Requests to the drive that are answered at once or wait for a write: the answer, what is left of the part, and what the
owner does (O22 to O26). -/

namespace Sys2Proof.Machine

/-! ### A command that is a request (R185) -/

/-- The part that a request leaves which its owner answers at once: `q` is what the owner leaves of the part `p` that took it. -/
def answeredPart (l : Link) (w : WaitReq) (code : AnswerCode) (content : List Byte) (p q : Part) : Part :=
  endEvent p (setUnder l none (answer l w.tag w.req code content q))

theorem request_answered {s : State} {l : Link} {tag : Byte} {r : Request} (h : s.taken l r) (hr : onlyReads r = false)
    (ha : ∀ q, afterAnswer r q = q) {q : Part} {code : AnswerCode} {content : List Byte}
    (hh : handle l tag r (passedPart l ⟨tag, r⟩ s.found) = (q, some (code, content))) :
    request l tag r s = .next { s with part := answeredPart l ⟨tag, r⟩ code content s.found q } := by
  rw [request_taken h, passToOwner_answered hh]
  simp [refreshAfter, hr, ha, answeredPart]

theorem request_waits {s : State} {l : Link} {tag : Byte} {r : Request} (h : s.taken l r) (hr : onlyReads r = false) {q : Part}
    (hh : handle l tag r (passedPart l ⟨tag, r⟩ s.found) = (q, none)) :
    request l tag r s = .next { s with part := endEvent s.found q } := by
  rw [request_taken h, passToOwner_waits hh]
  simp [refreshAfter, hr]

section
variable (l : Link) (w : WaitReq) (code : AnswerCode) (content : List Byte) (p q : Part)

@[simp] theorem answeredPart_on : (answeredPart l w code content p q).on = q.on := by simp [answeredPart, answer]

@[simp] theorem answeredPart_eu : (answeredPart l w code content p q).eu = q.eu := by simp [answeredPart, answer]

@[simp] theorem answeredPart_pu : (answeredPart l w code content p q).pu = q.pu := by simp [answeredPart, answer]

@[simp] theorem answeredPart_tu : (answeredPart l w code content p q).tu = q.tu := by simp [answeredPart, answer]

@[simp] theorem answeredPart_tb : (answeredPart l w code content p q).tb = q.tb := by simp [answeredPart, answer]

@[simp] theorem answeredPart_restart : (answeredPart l w code content p q).restart = q.restart := by simp [answeredPart, answer]

@[simp] theorem answeredPart_poles : (answeredPart l w code content p q).dc.poles = q.dc.poles := by simp [answeredPart, answer]

@[simp] theorem answeredPart_nextOp : (answeredPart l w code content p q).dc.nextOp = q.dc.nextOp := by
  simp [answeredPart, answer]

@[simp] theorem answeredPart_trip : (answeredPart l w code content p q).dc.trip = q.dc.trip := by simp [answeredPart, answer]

@[simp] theorem answeredPart_crew : (answeredPart l w code content p q).dc.crew = q.dc.crew := by simp [answeredPart, answer]

@[simp] theorem answeredPart_radio : (answeredPart l w code content p q).dc.radio = q.dc.radio := by simp [answeredPart, answer]

@[simp] theorem answeredPart_flight : (answeredPart l w code content p q).dc.flight = q.dc.flight := by
  simp [answeredPart, answer]

@[simp] theorem answeredPart_recs : (answeredPart l w code content p q).sq.recs = q.sq.recs := by simp [answeredPart, answer]

@[simp] theorem answeredPart_soc : (answeredPart l w code content p q).bc.soc = q.bc.soc := by simp [answeredPart, answer]

end

/-- The store is left as it was where no sequence record changed (R46). -/
theorem endEvent_rs_of_recs {b a : Part} (h : a.sq.recs = b.sq.recs) : (endEvent b a).rs = a.rs := by
  simp [endEvent_of_recs h]

theorem answeredPart_rs {l : Link} {w : WaitReq} {code : AnswerCode} {content : List Byte} {p q : Part}
    (h : q.sq.recs = p.sq.recs) : (answeredPart l w code content p q).rs = q.rs := by
  rw [answeredPart, endEvent_rs_of_recs (by simpa [answer] using h)]
  simp [answer]

/-- The outbound list of the link as its request is answered: what the owner sent, and the answer. -/
theorem answeredPart_outbound {l : Link} (w : WaitReq) (code : AnswerCode) (content : List Byte) {p q : Part}
    (hq : (q.li.get l).powered = true) :
    ∃ after, ((answeredPart l w code content p q).li.get l).outbound =
      (q.li.get l).outbound ++ [.answer (answerKind w.req.kindByte) w.tag code content] ++ after := by
  obtain ⟨after, h⟩ := endEvent_grows p (setUnder l none (answer l w.tag w.req code content q)) l
  refine ⟨after, ?_⟩
  rw [answeredPart, h, setUnder_get_self, answer, send_get, if_pos ⟨rfl, hq⟩]

/-- A request that its owner answers is answered on its link (R185). -/
theorem answeredPart_answered {l : Link} (w : WaitReq) (code : AnswerCode) (content : List Byte) {p q : Part}
    (hp : (p.li.get l).powered = true) (hg : Grows (passedPart l w p) q) :
    answered l w.req w.tag code content p (answeredPart l w code content p q) := by
  obtain ⟨before, hb⟩ := hg l
  have hq : (q.li.get l).powered = true := by rw [hb]; simpa using hp
  obtain ⟨after, ha⟩ := answeredPart_outbound w code content (p := p) hq
  exact ⟨before, after, by rw [ha, hb]; simp⟩

/-- Frames over the blocks that the judgements at the end of an event may touch. -/
theorem sameExcept_of {bs : List Block} {p q : Part} (hw : ∀ b ∈ Block.watch, b ∈ bs) (hon : q.on = p.on) (heu : q.eu = p.eu)
    (htu : q.tu = p.tu) (htb : q.tb = p.tb) (hrestart : q.restart = p.restart) (hpu : .pu ∈ bs ∨ q.pu = p.pu)
    (hrs : .rs ∈ bs ∨ q.rs = p.rs) : sameExcept bs p q := by
  intro b hb
  have hn : b ∉ Block.watch := fun h => hb (hw b h)
  cases b <;> simp [Block.watch] at hn
  · exact hon
  · exact heu
  · exact hpu.resolve_left hb
  · exact htu
  · exact hrs.resolve_left hb
  · exact htb
  · exact hrestart

end Sys2Proof.Machine
end

section
/-! PROOFS. CLEAR MECH FAULT, RESET WEAR, CLOSE and CLOSE CANCEL as their link brings them (O22 to O26). -/

namespace Sys2Proof.Machine

@[simp] theorem passedPart_position (l : Link) (w : WaitReq) (p : Part) (x : Pole) :
    (passedPart l w p).position x = p.position x := by simp [Part.position]

/-! ### CLEAR MECH FAULT (R19) -/

section
variable {crew : Nat} {poles : Byte} {ns : PoleSet} {p : Part}

theorem clearMechFaultRequest_range (h : PoleSet.ofByteNonempty poles = none) :
    clearMechFaultRequest crew poles p = (p, reply .RANGE) := by simp [clearMechFaultRequest, h]

theorem clearMechFaultRequest_refused (h : PoleSet.ofByteNonempty poles = some ns) {c : AnswerCode}
    (hc : p.tu.crewRefusal crew .SUPERVISE = some c) : clearMechFaultRequest crew poles p = (p, reply c) := by
  simp [clearMechFaultRequest, h, hc]

theorem clearMechFaultRequest_busy (h : PoleSet.ofByteNonempty poles = some ns) (hc : p.tu.crewRefusal crew .SUPERVISE = none)
    (hb : ns.overlaps p.dc.firing = true) : clearMechFaultRequest crew poles p = (p, reply .BUSY) := by
  simp [clearMechFaultRequest, h, hc, hb]

theorem clearMechFaultRequest_badState (h : PoleSet.ofByteNonempty poles = some ns)
    (hc : p.tu.crewRefusal crew .SUPERVISE = none) (hb : ns.overlaps p.dc.firing = false)
    (hu : ∃ x, ns.has x = true ∧ p.position x = .UNKNOWN) : clearMechFaultRequest crew poles p = (p, reply .BAD_STATE) := by
  have hany : (ns.any fun x => p.position x == .UNKNOWN) = true := by simpa [PoleSet.any] using hu
  simp [clearMechFaultRequest, h, hc, hb, hany]

theorem clearMechFaultRequest_done (h : PoleSet.ofByteNonempty poles = some ns) (hc : p.tu.crewRefusal crew .SUPERVISE = none)
    (hb : ns.overlaps p.dc.firing = false) (hk : ∀ x, ns.has x = true → p.position x ≠ .UNKNOWN) :
    clearMechFaultRequest crew poles p =
      (mapPoles ns (fun _ r => { r with mechFail := none, handle := false }) p, reply .DONE) := by
  have hany : (ns.any fun x => p.position x == .UNKNOWN) = false := by simpa [PoleSet.any] using hk
  simp [clearMechFaultRequest, h, hc, hb, hany]

/-- CLEAR MECH FAULT is answered at once, and touches the pole records alone. -/
theorem clearMechFaultRequest_replies (crew : Nat) (poles : Byte) (p : Part) :
    ∃ q code, clearMechFaultRequest crew poles p = (q, some (code, [])) ∧
      q = { p with dc := { p.dc with poles := q.dc.poles } } := by
  unfold clearMechFaultRequest
  repeat' split
  all_goals exact ⟨_, _, rfl, rfl⟩

end

end Sys2Proof.Machine
end

section
namespace Sys2Proof.Machine

/-- Settles O25, by the checks of R19 in their order. -/
theorem clearMechFaultClears : Obligations.ClearMechFaultClears := by
  intro tag crew poles s ht
  have hpow : (s.found.li.get .CREW).powered = true := ht.2.2.2.1.1
  obtain ⟨q, code, hh, hq⟩ := clearMechFaultRequest_replies crew.toNat poles
    (passedPart .CREW ⟨tag, .clearMechFault crew poles⟩ s.found)
  have hli := congrArg Part.li hq
  refine ⟨_, request_answered ht rfl (fun _ => rfl) hh, ?_, by rw [answeredPart_recs, hq]; simp, ?_⟩
  · refine sameExcept_of (by decide) ?_ ?_ ?_ ?_ ?_ (.inl (by decide)) (.inr ?_)
    · rw [answeredPart_on, hq]; simp
    · rw [answeredPart_eu, hq]; simp
    · rw [answeredPart_tu, hq]; simp
    · rw [answeredPart_tb, hq]; simp
    · rw [answeredPart_restart, hq]; simp
    · rw [answeredPart_rs (by rw [hq]; simp), hq]; simp
  · have hans : answered .CREW (.clearMechFault crew poles) tag code [] s.found _ :=
      answeredPart_answered ⟨tag, .clearMechFault crew poles⟩ code [] hpow (.of_li hli)
    have gives {c : AnswerCode} {g : Part} (e : clearMechFaultRequest crew.toNat poles
          (passedPart .CREW ⟨tag, .clearMechFault crew poles⟩ s.found) = (g, reply c)) : c = code ∧ g = q := by
      obtain ⟨hg, hc⟩ := Prod.ext_iff.1 (e.symm.trans hh)
      exact ⟨by simpa [reply] using hc, hg⟩
    clear hq hli hh
    refine ⟨fun hn => ?_, fun ns hns => ⟨fun c hc => ?_, fun hcrew => ⟨fun hb => ?_, fun hb => ⟨fun hu => ?_, fun hk => ?_⟩⟩⟩⟩
    · obtain ⟨rfl, rfl⟩ := gives (clearMechFaultRequest_range hn)
      exact ⟨hans, by simp⟩
    · obtain ⟨rfl, rfl⟩ := gives (clearMechFaultRequest_refused hns (by simpa using hc))
      exact ⟨hans, by simp⟩
    · obtain ⟨rfl, rfl⟩ := gives (clearMechFaultRequest_busy hns (by simpa using hcrew) (by simpa using hb))
      exact ⟨hans, by simp⟩
    · obtain ⟨rfl, rfl⟩ := gives (clearMechFaultRequest_badState hns (by simpa using hcrew) (by simpa using hb)
        (by simpa using hu))
      exact ⟨hans, by simp⟩
    · obtain ⟨rfl, rfl⟩ := gives (clearMechFaultRequest_done hns (by simpa using hcrew) (by simpa using hb)
        (by simpa using hk))
      exact ⟨hans, fun x => by simp⟩

end Sys2Proof.Machine
end

section
/-! PROOFS. RESET WEAR as the crew link brings it (R21, O26). -/

namespace Sys2Proof.Machine

/-! ### A hand-off on which an answer waits (R194, R195) -/

theorem WriteRec.hand_of_free {w : WriteRec} (h : w.writing = none) (image : Image) :
    w.hand image = { w with writing := some image } := by simp [WriteRec.hand, h]

theorem WriteRec.hand_of_writing {w : WriteRec} (h : w.writing.isSome = true) (image : Image) :
    w.hand image = { w with dirty := true } := by
  obtain ⟨i, hi⟩ := Option.isSome_iff_exists.1 h
  simp [WriteRec.hand, hi]

@[simp] theorem WriteRec.hand_waiting (w : WriteRec) (image : Image) : (w.hand image).waiting = w.waiting := by
  unfold WriteRec.hand
  split <;> rfl

/-- The record of the item handed off. -/
theorem retainFor_rs_get (i : Item) (what : Held) (p : Part) : ∃ image, (retainFor i what p).rs.get i =
    ({ p.rs.get i with waiting := (p.rs.get i).waiting ++ [⟨(p.rs.get i).writing.isSome, what⟩] } : WriteRec).hand image :=
  ⟨_, by simp only [retainFor, retain, Store.get_set_self]; rfl⟩

/-- The request under answer stays so through the end of the event. -/
theorem endEvent_under (b a : Part) (l : Link) : ((endEvent b a).li.get l).under = (a.li.get l).under := by
  obtain ⟨ms, h⟩ := endEvent_grows b a l
  rw [h]

/-- The request passed is under answer. -/
theorem passedPart_under (l : Link) (w : WaitReq) (p : Part) :
    ((passedPart l w p).li.get l).under = some ⟨w.req.kindByte, w.tag⟩ := by simp [passedPart_eq]

@[simp] theorem passedPart_wakes (l k : Link) (w : WaitReq) (p : Part) :
    ((passedPart l w p).li.get k).wakes = (p.li.get k).wakes := by
  rw [passedPart_eq]
  by_cases h : k = l
  · simp [h]
  · simp [setUnder_get_of_ne h]

/-! ### RESET WEAR (R21) -/

theorem resetWearRequest_waits {l : Link} {tag : Byte} {crew : Nat} {poles : Byte} {ns : PoleSet} {p : Part}
    (h : PoleSet.ofByteNonempty poles = some ns) (hc : p.tu.crewRefusal crew .SUPERVISE = none)
    (hb : ns.overlaps p.dc.firing = false) :
    resetWearRequest l tag crew poles p =
      (retainFor .WEAR (heldAnswer l (answerKind 0x14) tag [] p) (mapPoles ns (fun _ r => { r with wear := 0 }) p), none) := by
  simp [resetWearRequest, h, hc, hb]

/-- What is left of the part by the hand-off of the wear image with the wear of the named poles at 0. -/
def wearResetPart (tag : Byte) (ns : PoleSet) (p : Part) : Part :=
  retainFor .WEAR (heldAnswer .CREW 0x94 tag [] p) (mapPoles ns (fun _ r => { r with wear := 0 }) p)

end Sys2Proof.Machine
end

section
namespace Sys2Proof.Machine

/-- Settles O26: with every check passed the owner hands the wear image to the store, and answers nothing. -/
theorem resetWearWaitsForWrite : Obligations.ResetWearWaitsForWrite := by
  intro tag crew poles s ns ht hns hc hb
  let p := passedPart .CREW ⟨tag, .resetWear crew poles⟩ s.found
  have hh : handle .CREW tag (.resetWear crew poles) p = (wearResetPart tag ns p, none) :=
    resetWearRequest_waits hns (by simpa [p] using hc) (by simpa [p] using hb)
  have hpoles (x : Pole) : ((wearResetPart tag ns p).dc.poles).get x =
      if ns.has x then { s.found.dc.poles.get x with wear := 0 } else s.found.dc.poles.get x := by simp [wearResetPart, p]
  obtain ⟨image, hwear⟩ := retainFor_rs_get .WEAR (heldAnswer .CREW 0x94 tag [] p)
    (mapPoles ns (fun _ r => { r with wear := 0 }) p)
  have hw : (endEvent s.found (wearResetPart tag ns p)).rs.wear =
      ({ s.found.rs.wear with waiting := s.found.rs.wear.waiting ++ [⟨s.found.rs.wear.writing.isSome,
        .answer .CREW s.found.li.crew.wakes 0x94 tag []⟩] } : WriteRec).hand image := by
    calc (endEvent s.found (wearResetPart tag ns p)).rs.wear
        = (wearResetPart tag ns p).rs.get .WEAR := endEvent_rs_get s.found _ (i := .WEAR) (by decide)
      _ = _ := by rw [wearResetPart, hwear]; simp [p, heldAnswer, passedPart_wakes]; rfl
  refine ⟨_, request_waits ht rfl hh, ?_, ?_, fun x => ?_, ?_, fun hf => ?_, fun hf => ?_⟩
  · rw [awaits, endEvent_under, wearResetPart, retainFor_li, mapPoles_li]
    exact passedPart_under .CREW ⟨tag, .resetWear crew poles⟩ s.found
  · exact sameExcept_of (by decide) (by simp [wearResetPart, p]) (by simp [wearResetPart, p]) (by simp [wearResetPart, p])
      (by simp [wearResetPart, p]) (by simp [wearResetPart, p]) (.inl (by decide)) (.inl (by decide))
  · rw [← hpoles x]
    simp
  · rw [hw, WriteRec.hand_waiting]
  · rw [hw, WriteRec.hand_of_free (by exact hf)]
    exact ⟨rfl, rfl⟩
  · rw [hw, WriteRec.hand_of_writing (by exact hf)]

end Sys2Proof.Machine
end

section
/-! PROOFS. CLOSE as its link brings it: the checks of R5 in their order (O23), and the entry that a CLOSE makes (R15, R121; O22). -/

namespace Sys2Proof.Machine

/-! ### The checks (R5) -/

@[simp] theorem passedPart_showsClosed (l : Link) (w : WaitReq) (p : Part) :
    (passedPart l w p).showsClosed = p.showsClosed := by simp [Part.showsClosed]

/-- The checks of a CLOSE read neither the links nor the claim. -/
@[simp] theorem closeRefusal_passedPart (set : PoleSet) (l : Link) (w : WaitReq) (p : Part) :
    closeRefusal set (passedPart l w p) = closeRefusal set p := by
  have hbad : (passedPart l w p).closeBad = p.closeBad := by funext x; simp [Part.closeBad]
  have hopen : (passedPart l w p).notOpen = p.notOpen := by simp [Part.notOpen, Part.showsOpen]
  have hcounted : (passedPart l w p).counted = p.counted := by simp [Part.counted, hopen]
  have hsum : (passedPart l w p).listSum = p.listSum := by simp [Part.listSum, Part.tripReserveNow, hcounted]
  simp [closeRefusal, hbad, Part.forbidden, Part.measOk, Part.closeFits, hsum, hcounted]

section
variable {set : PoleSet} {p : Part}

theorem closeRefusal_badState (h : set.any p.closeBad = true) : closeRefusal set p = some .BAD_STATE := by
  simp [closeRefusal, h]

theorem closeRefusal_busy (hg : set.any p.closeBad = false) (h : set.overlaps (p.dc.listed.union p.dc.firing) = true) :
    closeRefusal set p = some .BUSY := by simp [closeRefusal, hg, h]

theorem closeRefusal_tagged (hg : set.any p.closeBad = false) (hf : set.overlaps (p.dc.listed.union p.dc.firing) = false)
    (h : ∃ x, set.has x = true ∧ p.tu.closeForbidden x = true) : closeRefusal set p = some .TAGGED := by
  have he : (p.forbidden set).isEmpty = false := (PoleSet.isEmpty_false_iff _).2 (by simpa [Part.forbidden] using h)
  simp [closeRefusal, hg, hf, he]

theorem forbidden_isEmpty (h : ∀ x, set.has x = true → p.tu.closeForbidden x = false) : (p.forbidden set).isEmpty = true :=
  (PoleSet.isEmpty_iff _).2 (by simpa [Part.forbidden] using h)

theorem closeRefusal_blind (hg : set.any p.closeBad = false) (hf : set.overlaps (p.dc.listed.union p.dc.firing) = false)
    (ht : ∀ x, set.has x = true → p.tu.closeForbidden x = false) (h : p.eu.state ≠ .OK) :
    closeRefusal set p = some .BLIND := by simp [closeRefusal, hg, hf, forbidden_isEmpty ht, Part.measOk, h]

theorem closeRefusal_noEnergy (hg : set.any p.closeBad = false) (hf : set.overlaps (p.dc.listed.union p.dc.firing) = false)
    (ht : ∀ x, set.has x = true → p.tu.closeForbidden x = false) (hm : p.eu.state = .OK) (h : p.closeFits set = false) :
    closeRefusal set p = some .NO_ENERGY := by simp [closeRefusal, hg, hf, forbidden_isEmpty ht, Part.measOk, hm, h]

end

section
variable {l : Link} {tag poles : Byte} {crew : Nat} {asked : PoleSet} {p : Part}

/-- Whether the crew check of a CLOSE passes (R5, R109). -/
def crewMayClose (l : Link) (crew : Nat) (p : Part) : Prop := l = .CREW → p.tu.crewRefusal crew .LOCAL_OPERATE = none

theorem crewMayClose_eq (h : crewMayClose l crew p) : (if l = .CREW then p.tu.crewRefusal crew .LOCAL_OPERATE else none) = none := by
  split
  · exact h ‹_›
  · rfl

theorem closeRequest_range (h : PoleSet.ofByteNonempty poles = none) :
    closeRequest l tag poles crew p = (p, reply .RANGE) := by simp [closeRequest, h]

theorem closeRequest_refused (h : PoleSet.ofByteNonempty poles = some asked) (hl : l = .CREW) {c : AnswerCode}
    (hc : p.tu.crewRefusal crew .LOCAL_OPERATE = some c) : closeRequest l tag poles crew p = (p, reply c) := by
  simp [closeRequest, h, hl, hc]

theorem closeRequest_busy (h : PoleSet.ofByteNonempty poles = some asked) (hc : crewMayClose l crew p)
    (hb : linkHasClose l p.dc = true) : closeRequest l tag poles crew p = (p, reply .BUSY) := by
  simp [closeRequest, h, crewMayClose_eq hc, hb]

theorem closeRequest_done (h : PoleSet.ofByteNonempty poles = some asked) (hc : crewMayClose l crew p)
    (hb : linkHasClose l p.dc = false) (he : (asked.diff p.showsClosed).isEmpty = true) :
    closeRequest l tag poles crew p = (p, reply .DONE) := by simp [closeRequest, h, crewMayClose_eq hc, hb, he]

theorem closeRequest_checked (h : PoleSet.ofByteNonempty poles = some asked) (hc : crewMayClose l crew p)
    (hb : linkHasClose l p.dc = false) (he : (asked.diff p.showsClosed).isEmpty = false) {c : AnswerCode}
    (hr : closeRefusal (asked.diff p.showsClosed) p = some c) : closeRequest l tag poles crew p = (p, reply c) := by
  simp [closeRequest, h, crewMayClose_eq hc, hb, he, hr]

theorem closeRequest_started (h : PoleSet.ofByteNonempty poles = some asked) (hc : crewMayClose l crew p)
    (hb : linkHasClose l p.dc = false) (he : (asked.diff p.showsClosed).isEmpty = false)
    (hr : closeRefusal (asked.diff p.showsClosed) p = none) :
    closeRequest l tag poles crew p = (acceptClose l tag asked (asked.diff p.showsClosed) p, reply .STARTED) := by
  simp [closeRequest, h, crewMayClose_eq hc, hb, he, hr]

end

/-- A CLOSE is answered at once. -/
theorem closeRequest_replies (l : Link) (tag poles : Byte) (crew : Nat) (p : Part) :
    ∃ q code, closeRequest l tag poles crew p = (q, reply code) := by
  unfold closeRequest
  dsimp only
  repeat' split
  all_goals exact ⟨_, _, rfl⟩

end Sys2Proof.Machine
end

section
namespace Sys2Proof.Machine

/-- Settles O23, by the checks of R5 in their order: each refuses with the part as it was. -/
theorem closeIsRefused : Obligations.CloseIsRefused := by
  intro l tag poles crew s ht
  obtain ⟨q, code, hh⟩ := closeRequest_replies l tag poles crew.toNat (passedPart l ⟨tag, .close poles crew⟩ s.found)
  refine ⟨_, request_answered ht rfl (fun _ => rfl) hh, ?_⟩
  intro gives
  have refused {c : AnswerCode} (e : closeRequest l tag poles crew.toNat (passedPart l ⟨tag, .close poles crew⟩ s.found) =
      (passedPart l ⟨tag, .close poles crew⟩ s.found, reply c)) : gives c := by
    obtain ⟨rfl, hc⟩ := Prod.ext_iff.1 (hh.symm.trans e)
    obtain rfl : code = c := by simpa [reply] using hc
    refine ⟨answeredPart_answered ⟨tag, .close poles crew⟩ code [] ht.2.2.2.1.1 (.refl _), ?_, ?_, ?_, ?_, ?_⟩
    · simp
    · simp
    · simp
    · simp
    · exact sameExcept_of (by decide) (by simp) (by simp) (by simp) (by simp) (by simp) (.inl (by decide))
        (.inr (by simp [answeredPart_rs]))
  refine ⟨fun hn => refused (closeRequest_range hn), fun asked ha => ⟨fun c hl hc => ?_, fun hc => ?_⟩⟩
  · exact refused (closeRequest_refused ha hl (by simpa using hc))
  have hcrew : crewMayClose l crew.toNat (passedPart l ⟨tag, .close poles crew⟩ s.found) := by simpa [crewMayClose] using hc
  refine ⟨fun hb => refused (closeRequest_busy ha hcrew (by simpa using hb)), fun hb => ?_⟩
  intro set
  refine ⟨fun he => refused (closeRequest_done ha hcrew (by simpa using hb) (by simpa using he)), fun he => ?_⟩
  have checked {c : AnswerCode} (hr : closeRefusal set s.found = some c) : gives c :=
    refused (closeRequest_checked ha hcrew (by simpa using hb) (by simpa using he) (by simpa using hr))
  exact ⟨fun h => checked (closeRefusal_badState h), fun hg => ⟨fun h => checked (closeRefusal_busy hg h), fun hf =>
    ⟨fun h => checked (closeRefusal_tagged hg hf h), fun hk => ⟨fun h => checked (closeRefusal_blind hg hf hk h), fun hm h =>
      checked (closeRefusal_noEnergy hg hf hk hm h)⟩⟩⟩⟩

end Sys2Proof.Machine
end

section
/-! PROOFS. The close reservations through a lockout and through the judgements at the end of an event, and the CLOSE that is taken
(R15, R119, R121; O22). -/

namespace Sys2Proof.Machine

/-! ### The reservations at the end of an event (R125) -/

/-- The reservation list has gained reservations of sequence entries alone, at its end. -/
def ClosesGain (p q : Part) : Prop :=
  ∃ cs, q.nu.closes = p.nu.closes ++ cs ∧ ∀ r ∈ cs, ∃ x, r.entry = .SEQ x

theorem ClosesGain.of_closes {p q : Part} (h : q.nu.closes = p.nu.closes) : ClosesGain p q := ⟨[], by simp [h], by simp⟩

theorem ClosesGain.trans {p q r : Part} (h : ClosesGain p q) (k : ClosesGain q r) : ClosesGain p r := by
  obtain ⟨cs, hq, hcs⟩ := h
  obtain ⟨ds, hr, hds⟩ := k
  refine ⟨cs ++ ds, by rw [hr, hq]; simp, fun x hx => ?_⟩
  exact (List.mem_append.1 hx).elim (hcs x) (hds x)

theorem ClosesGain.mem {p q : Part} (h : ClosesGain p q) {r : Reservation} (hr : r ∈ p.nu.closes) : r ∈ q.nu.closes := by
  obtain ⟨cs, hq, -⟩ := h
  exact hq ▸ List.mem_append_left _ hr

/-- A reservation of another entry than a sequence entry was there before. -/
theorem ClosesGain.mem_of_ne {p q : Part} (h : ClosesGain p q) {r : Reservation} (hr : r ∈ q.nu.closes)
    (hn : ∀ x, r.entry ≠ .SEQ x) : r ∈ p.nu.closes := by
  obtain ⟨cs, hq, hcs⟩ := h
  rw [hq] at hr
  refine (List.mem_append.1 hr).elim id fun hm => ?_
  obtain ⟨x, hx⟩ := hcs r hm
  exact absurd hx (hn x)

theorem pendingEntry_closesGain (x : Pole) (p : Part) : ClosesGain p (pendingEntry x p) :=
  ⟨[⟨.SEQ x, Config.closeCost * 1⟩], rfl, by simp⟩

theorem grantUnits_closesGain (us : List PoleSet) (p : Part) : ClosesGain p (grantUnits us p) := by
  induction us generalizing p with
  | nil => exact .of_closes rfl
  | cons u us ih =>
    unfold grantUnits
    split
    · refine .trans ?_ (ih _)
      exact applyAll_induction (P := ClosesGain p) (fun x q h => h.trans (pendingEntry_closesGain x q)) _ (.of_closes rfl)
    · exact .of_closes rfl

theorem judgeDeficit_nu_closes (p : Part) : (judgeDeficit p).nu.closes = p.nu.closes := by
  unfold judgeDeficit
  repeat' split
  all_goals simp

theorem endEvent_closesGain (b a : Part) : ClosesGain a (endEvent b a) := by
  have hjudge : ClosesGain (reportLockouts b a) (energyJudge (reportLockouts b a)) :=
    .trans (q := recountReserve (reportLockouts b a)) (.of_closes rfl)
      (.trans (grantUnits_closesGain _ _) (.of_closes (judgeDeficit_nu_closes _)))
  have htell : ClosesGain a (reportLockouts b a) := .of_closes (by rw [reportLockouts_nu])
  have hrest : ClosesGain (energyJudge (reportLockouts b a)) (endEvent b a) := .of_closes (by simp [endEvent, refresh])
  exact (htell.trans hjudge).trans hrest

/-! ### The reservations at a lockout -/

/-- The reservations of the link entries stay at a lockout. -/
theorem enterLockout_mem_closes {r : Reservation} (hn : ∀ x, r.entry ≠ .SEQ x) (c : LockSet) {p : Part} (h : r ∈ p.nu.closes) :
    r ∈ (enterLockout c p).nu.closes := by
  have hdrop : r ∈ (applyAll dropSeq ((p.newLocks c).poles.members.filter p.unfired) p).nu.closes :=
    applyAll_induction (P := fun q => r ∈ q.nu.closes)
      (fun x q hq => by simpa [dropSeq] using ⟨hq, hn x⟩) _ h
  simpa [enterLockout] using hdrop

theorem enterLockout_dc_nextOp (c : LockSet) (p : Part) : (enterLockout c p).dc.nextOp = p.dc.nextOp :=
  applyAll_keeps (f := dropSeq) (fun q => q.dc.nextOp) (fun _ _ => rfl) _ p

/-! ### Frames of an answered request -/

/-- A request that touches only blocks of the watch, and is answered, touches those and the claim. -/
theorem answeredPart_sameExcept {l : Link} {w : WaitReq} {code : AnswerCode} {content : List Byte} {p q : Part}
    (h : sameExcept (.pu :: .rs :: Block.watch) (passedPart l w p) q) :
    sameExcept (.pu :: .rs :: Block.watch) p (answeredPart l w code content p q) := by
  refine sameExcept_of (by decide) ?_ ?_ ?_ ?_ ?_ (.inl (by decide)) (.inl (by decide))
  · simpa [Block.same] using h .on (by decide)
  · simpa [Block.same] using h .eu (by decide)
  · simpa [Block.same] using h .tu (by decide)
  · simpa [Block.same] using h .tb (by decide)
  · simpa [Block.same] using h .restart (by decide)

@[simp] theorem passedPart_unit (l : Link) (w : WaitReq) (p : Part) : (passedPart l w p).pu.unit = p.pu.unit := by
  rw [passedPart_eq, setUnder_pu, loadClaimTimer_pu]

/-! ### A CLOSE that is taken (R15, R121) -/

/-- The entry that a CLOSE makes (R3, R15). -/
def closeEntry (l : Link) (tag : Byte) (asked set : PoleSet) (p : Part) : LinkClose :=
  let delayed := l = .CREW ∧ 0 < p.pu.unit.closeDelayS
  ⟨⟨p.dc.nextOp, .CLOSE, set, .MANUAL_CLOSE, [⟨requesterOf l, .MANUAL_CLOSE, asked, some tag⟩],
    if delayed then .DELAYED else .PENDING, none⟩, if delayed then some (p.pu.unit.closeDelayS * 1000) else none⟩

section
variable (l : Link) (tag : Byte) (asked set : PoleSet) (p : Part)

theorem acceptClose_crew : (acceptClose .CREW tag asked set p).dc.crew = some (closeEntry .CREW tag asked set p) := by
  simp [acceptClose, closeEntry]

theorem acceptClose_radio : (acceptClose .RADIO tag asked set p).dc.radio = some (closeEntry .RADIO tag asked set p) := by
  simp [acceptClose, closeEntry]

theorem acceptClose_crew_closes : ⟨.CREW, 14 * set.count⟩ ∈ (acceptClose .CREW tag asked set p).nu.closes :=
  enterLockout_mem_closes (by simp) _ (by simp [reserve, Config.closeCost])

theorem acceptClose_radio_closes : ⟨.RADIO, 14 * set.count⟩ ∈ (acceptClose .RADIO tag asked set p).nu.closes :=
  enterLockout_mem_closes (by simp) _ (by simp [reserve, Config.closeCost])

theorem acceptClose_nextOp : (acceptClose l tag asked set p).dc.nextOp = wrapNext p.dc.nextOp := by
  simp only [acceptClose, enterLockout_dc_nextOp]
  split <;> simp

theorem acceptClose_poles : (acceptClose l tag asked set p).dc.poles = p.dc.poles := by
  simp only [acceptClose, enterLockout_dc_poles]
  split <;> simp

theorem acceptClose_flight : (acceptClose l tag asked set p).dc.flight = p.dc.flight := by
  simp only [acceptClose, enterLockout_dc_flight]
  split <;> simp

theorem acceptClose_li : (acceptClose l tag asked set p).li = p.li := by
  simp only [acceptClose, enterLockout_li]
  split <;> simp

/-- A CLOSE that is taken touches the drive, the Sequencer and the Energy Unit. -/
theorem acceptClose_sameExcept : sameExcept (.pu :: .rs :: Block.watch) p (acceptClose l tag asked set p) := by
  intro b hb
  cases b <;> simp [Block.watch] at hb <;> simp only [Block.same, acceptClose] <;> split <;> simp

end

end Sys2Proof.Machine
end

section
namespace Sys2Proof.Machine

/-- Settles O22: past the checks, the entry, its reservation and the answer. -/
theorem closeIsTaken : Obligations.CloseIsTaken := by
  intro l tag poles crew s asked ht ha hc hb set he hr delayed entry
  let p := passedPart l ⟨tag, .close poles crew⟩ s.found
  have hset : asked.diff p.showsClosed = set := by simp [p, set]
  have hh : handle l tag (.close poles crew) p = (acceptClose l tag asked set p, some (.STARTED, [])) := by
    rw [← hset]
    exact closeRequest_started ha (by simpa [crewMayClose, p] using hc) (by simpa [p] using hb) (by rw [hset]; exact he)
      (by rw [hset]; simpa [p] using hr)
  have hentry : closeEntry l tag asked set p = entry := by simp [closeEntry, entry, delayed, p]
  have hgain := endEvent_closesGain s.found (setUnder l none (answer l tag (.close poles crew) .STARTED [] (acceptClose l tag asked set p)))
  refine ⟨_, request_answered ht rfl (fun _ => rfl) hh, ?_, ?_, ?_, ?_, ?_, ?_, ?_⟩
  · rintro rfl
    exact ⟨by simp [acceptClose_crew, hentry], hgain.mem (by simpa [answer] using acceptClose_crew_closes tag asked set p)⟩
  · rintro rfl
    exact ⟨by simp [acceptClose_radio, hentry], hgain.mem (by simpa [answer] using acceptClose_radio_closes tag asked set p)⟩
  · simp [acceptClose_nextOp, p]
  · exact answeredPart_answered ⟨tag, .close poles crew⟩ .STARTED [] ht.2.2.2.1.1 (.of_li (acceptClose_li l tag asked set p))
  · simp [acceptClose_poles, p]
  · simp [acceptClose_flight, p]
  · exact answeredPart_sameExcept (acceptClose_sameExcept l tag asked set p)

end Sys2Proof.Machine
end

section
/-! PROOFS. The close delay and CLOSE CANCEL (R15; O24). -/

namespace Sys2Proof.Machine

/-! ### A crew entry that ends (R7, R15) -/

theorem endCrewEntry_of_some {r : OpResult} {p : Part} {e : LinkClose} (h : p.dc.crew = some e) :
    endCrewEntry r p = sendEnds e.op r (releaseEntry .CREW { p with dc := { p.dc with crew := none } }) := by
  simp [endCrewEntry, h]

@[simp] theorem endCrewEntry_dc_crew (r : OpResult) (p : Part) : (endCrewEntry r p).dc.crew = none := by
  cases h : p.dc.crew with
  | none => simp [endCrewEntry, h]
  | some e => rw [endCrewEntry_of_some h]; simp

@[simp] theorem endCrewEntry_dc_radio (r : OpResult) (p : Part) : (endCrewEntry r p).dc.radio = p.dc.radio := by
  cases h : p.dc.crew with
  | none => simp [endCrewEntry, h]
  | some e => rw [endCrewEntry_of_some h]; simp

@[simp] theorem endCrewEntry_dc_poles (r : OpResult) (p : Part) : (endCrewEntry r p).dc.poles = p.dc.poles := by
  cases h : p.dc.crew with
  | none => simp [endCrewEntry, h]
  | some e => rw [endCrewEntry_of_some h]; simp

theorem endCrewEntry_closes {r : OpResult} {p : Part} {e : LinkClose} (h : p.dc.crew = some e) :
    ∀ x ∈ (endCrewEntry r p).nu.closes, x.entry ≠ .CREW := by
  rw [endCrewEntry_of_some h]
  intro x hx
  have hm : x ∈ p.nu.closes ∧ ¬ x.entry = .CREW := by simpa [releaseEntry] using hx
  exact hm.2

/-- The END message of an entry with one requester entry of the crew link. -/
theorem endCrewEntry_outbound {r : OpResult} {p : Part} {e : LinkClose} {c : OpCause} {ps : PoleSet} {tag : Byte}
    (h : p.dc.crew = some e) (he : e.op.requesters = [⟨.CREW_LINK, c, ps, some tag⟩]) (hp : (p.li.get .CREW).powered = true) :
    (endCrewEntry r p).li.get .CREW = { p.li.get .CREW with
      outbound := (p.li.get .CREW).outbound ++ [.endMsg tag (.operation r e.op.number)] } := by
  rw [endCrewEntry_of_some h, sendEnds, he]
  exact (send_get _ _ _ _).trans (if_pos ⟨rfl, hp⟩)

/-! ### CLOSE CANCEL (R15) -/

section
variable {p : Part}

theorem closeCancelRequest_done (h : p.dc.crew.isSome = true) :
    closeCancelRequest p = (endCrewEntry .CANCELLED p, reply .DONE) := by simp [closeCancelRequest, h]

theorem closeCancelRequest_badState (h : p.dc.crew = none) (hl : linkHasClose .CREW p.dc = true) :
    closeCancelRequest p = (p, reply .BAD_STATE) := by simp [closeCancelRequest, h, hl]

theorem closeCancelRequest_notFound (h : p.dc.crew = none) (hl : linkHasClose .CREW p.dc = false) :
    closeCancelRequest p = (p, reply .NOT_FOUND) := by simp [closeCancelRequest, h, hl]

/-- CLOSE CANCEL is answered at once; the crew entry, where there is one, has ended. -/
theorem closeCancelRequest_replies (p : Part) : ∃ code, closeCancelRequest p = (endCrewEntry .CANCELLED p, reply code) := by
  cases h : p.dc.crew with
  | some e => exact ⟨_, closeCancelRequest_done (by simp [h])⟩
  | none =>
    have hp : endCrewEntry .CANCELLED p = p := by simp [endCrewEntry, h]
    rw [hp]
    cases hl : linkHasClose .CREW p.dc with
    | true => exact ⟨_, closeCancelRequest_badState h hl⟩
    | false => exact ⟨_, closeCancelRequest_notFound h hl⟩

end

end Sys2Proof.Machine
end

section
namespace Sys2Proof.Machine

/-- Settles O24: the expiry readies the entry; a cancel ends it, and answers after the END message. -/
theorem closeDelayAndCancel : Obligations.CloseDelayAndCancel := by
  refine ⟨fun s e d hon hc hd => ?_, fun tag s ht => ?_⟩
  · have hq : closeDelayExpiry s.found =
        { s.found with dc := { s.found.dc with crew := some ⟨{ e.op with state := .PENDING }, none⟩ } } := by
      simp [closeDelayExpiry, hc, hd]
    refine ⟨_, event_on hon, by simp [hq], by simp [hq], by simp [hq], by simp [hq], by simp [hq], ?_⟩
    exact sameExcept_of (by simp) (by simp [hq]) (by simp [hq]) (by simp [hq]) (by simp [hq]) (by simp [hq])
      (.inr (by simp [hq])) (.inr (by rw [endEvent_rs_of_recs (by rw [hq]), hq]))
  · have hpow : (s.found.li.get .CREW).powered = true := ht.2.2.2.1.1
    obtain ⟨code, hh⟩ := closeCancelRequest_replies (passedPart .CREW ⟨tag, .closeCancel⟩ s.found)
    have hans : answered .CREW .closeCancel tag code [] s.found (answeredPart .CREW ⟨tag, .closeCancel⟩ code [] s.found _) :=
      answeredPart_answered ⟨tag, .closeCancel⟩ code [] hpow (endCrewEntry_grows .CANCELLED _)
    have gives {c : AnswerCode} {g : Part}
        (e : closeCancelRequest (passedPart .CREW ⟨tag, .closeCancel⟩ s.found) = (g, reply c)) : code = c := by
      simpa [reply] using (Prod.ext_iff.1 (hh.symm.trans e)).2
    refine ⟨_, request_answered ht rfl (fun _ => rfl) hh, by simp, by simp, by simp, ?_, fun e tg c ps he hr => ⟨?_, ?_⟩,
      fun hn hl => ?_, fun hn hl => ?_⟩
    · exact sameExcept_of (by decide) (by simp) (by simp) (by simp) (by simp) (by simp) (.inl (by decide))
        (.inr (by simp [answeredPart_rs]))
    · intro r hm hcrew
      refine endCrewEntry_closes (r := .CANCELLED) (p := passedPart .CREW ⟨tag, .closeCancel⟩ s.found) (by simpa using he) r ?_ hcrew
      simpa [answer] using (endEvent_closesGain _ _).mem_of_ne hm (by simp [hcrew])
    · obtain rfl := gives (closeCancelRequest_done (by simp [he]))
      have hout := endCrewEntry_outbound (r := .CANCELLED) (p := passedPart .CREW ⟨tag, .closeCancel⟩ s.found)
        (by simpa using he) hr (by simpa using hpow)
      obtain ⟨after, ha⟩ := answeredPart_outbound (l := .CREW) ⟨tag, .closeCancel⟩ .DONE [] (p := s.found) (by rw [hout]; simpa using hpow)
      refine ⟨after, ha.trans ?_⟩
      rw [hout]
      have hcrew : ((passedPart .CREW ⟨tag, .closeCancel⟩ s.found).li.get .CREW).outbound = s.found.li.crew.outbound :=
        passedPart_outbound .CREW .CREW ⟨tag, .closeCancel⟩ s.found
      simp [hcrew, answerKind, Request.kindByte]
    · obtain rfl := gives (closeCancelRequest_badState (by simpa using hn) (by simpa using hl))
      exact hans
    · obtain rfl := gives (closeCancelRequest_notFound (by simpa using hn) (by simpa using hl))
      exact hans

end Sys2Proof.Machine
end

section
/-! PROOFS. What the steps of an ended operation leave of every pole record (R12, R14, R20; O30). -/

namespace Sys2Proof.Machine

/-! ### A step for each pole of a set -/

/-- Where a step for a pole changes the record of that pole alone, the steps for the poles of a set change each record of the set
once. -/
theorem applyAll_poles_get {f : Pole → Part → Part} {g : Pole → PoleRec → PoleRec}
    (h : ∀ x y p, (f x p).dc.poles.get y = if y = x then g x (p.dc.poles.get x) else p.dc.poles.get y) (s : PoleSet) (y : Pole)
    (p : Part) : (applyAll f s.members p).dc.poles.get y = if s.has y then g y (p.dc.poles.get y) else p.dc.poles.get y := by
  have list (xs : List Pole) (hn : xs.Nodup) (p : Part) :
      (applyAll f xs p).dc.poles.get y = if y ∈ xs then g y (p.dc.poles.get y) else p.dc.poles.get y := by
    induction xs generalizing p with
    | nil => simp [applyAll]
    | cons x xs ih =>
      obtain ⟨hx, hn⟩ := List.nodup_cons.1 hn
      rw [applyAll, ih hn, h]
      by_cases hy : y = x
      · subst hy; simp [hx]
      · simp [hy]
  simpa using list s.members (PoleSet.nodup_members s) p

/-! ### Counts and wear (R20) -/

/-- A pole record with the wear of its last interrupted current (R20). -/
def PoleRec.worn (r : PoleRec) : PoleRec := { r with wear := min 1000 (r.wear + wearOf r.lastCurrent) }

theorem addWear_poles_get (x y : Pole) (p : Part) :
    (addWear x p).dc.poles.get y = if y = x then (p.dc.poles.get x).worn else p.dc.poles.get y := by
  simp [addWear, PoleRec.worn]

/-- A pole record as an ended operation leaves its count and wear (R20). -/
def Flight.countedRec (f : Flight) (x : Pole) (r : PoleRec) : PoleRec :=
  let c := if f.moved.has x then r.counted else r
  if f.op.kind = .TRIP ∧ f.closedAtFire.has x = true ∧ f.moved.has x = true then c.worn else c

/-- The poles of an operation after counts and wear, whatever becomes of the wear image (R20). -/
def wornPart (f : Flight) (p : Part) : Part :=
  applyAll addWear (f.closedAtFire.inter f.moved).members (mapPoles f.moved (fun _ r => r.counted) p)

theorem countAndWear_of_trip {f : Flight} (h : f.op.kind = .TRIP) (p : Part) :
    countAndWear f p =
      if imageOf (wornPart f p) .WEAR = imageOf p .WEAR then wornPart f p else retain .WEAR (wornPart f p) :=
  if_pos h

theorem countAndWear_of_close {f : Flight} (h : f.op.kind ≠ .TRIP) (p : Part) :
    countAndWear f p = mapPoles f.moved (fun _ r => r.counted) p := by simp [countAndWear, h]

theorem countAndWear_dc_of_trip {f : Flight} (h : f.op.kind = .TRIP) (p : Part) :
    (countAndWear f p).dc = (wornPart f p).dc := by
  rw [countAndWear_of_trip h]
  split <;> simp

/-- What counts and wear do to each pole record. -/
theorem countAndWear_poles_get (f : Flight) (p : Part) (x : Pole) :
    (countAndWear f p).dc.poles.get x = f.countedRec x (p.dc.poles.get x) := by
  by_cases h : f.op.kind = .TRIP
  · rw [countAndWear_dc_of_trip h, wornPart, applyAll_poles_get addWear_poles_get]
    simp [Flight.countedRec, h]
  · rw [countAndWear_of_close h]
    simp [Flight.countedRec, h]

section
variable (f : Flight) (x : Pole) (r : PoleRec)

theorem Flight.countedRec_count : (f.countedRec x r).count = if f.moved.has x then min 999999 (r.count + 1) else r.count := by
  simp only [Flight.countedRec]
  split <;> split <;> rfl

theorem Flight.countedRec_wear : (f.countedRec x r).wear =
    if f.op.kind = .TRIP ∧ f.closedAtFire.has x = true ∧ f.moved.has x = true then min 1000 (r.wear + wearOf r.lastCurrent)
    else r.wear := by
  simp only [Flight.countedRec]
  split <;> split <;> rfl

end

theorem wornPart_rs (f : Flight) (p : Part) : (wornPart f p).rs = p.rs := by simp [wornPart]

theorem imageOf_wear_congr {p q : Part} (h : imageOf p .WEAR = imageOf q .WEAR) (x : Pole) :
    (p.dc.poles.get x).wear = (q.dc.poles.get x).wear ∧ (p.dc.poles.get x).count = (q.dc.poles.get x).count := by
  have hx := congrArg (fun i => match i with | .wear w => w.get x | _ => (0, 0)) h
  simpa [imageOf] using hx

end Sys2Proof.Machine
end

section
namespace Sys2Proof.Machine

/-- Settles O30, by what counts and wear do to each pole record. -/
theorem countsAndWear : Obligations.CountsAndWear := by
  intro f p
  refine ⟨fun x => by rw [countAndWear_poles_get, Flight.countedRec_count],
    fun x => by rw [countAndWear_poles_get, Flight.countedRec_wear], fun a => ?_, rfl, fun hk hx => ?_⟩
  · simp only [wearOf]
    repeat' split
    all_goals omega
  · have hne : imageOf (wornPart f p) .WEAR ≠ imageOf p .WEAR := by
      intro he
      obtain ⟨x, hx⟩ := hx
      obtain ⟨hwear, hcount⟩ := imageOf_wear_congr he x
      rw [countAndWear_dc_of_trip hk] at hx
      exact hx.elim (· hwear) (· hcount)
    rw [countAndWear_of_trip hk, if_neg hne]
    simp [retain, wornPart_rs, imageOf]
    rfl

end Sys2Proof.Machine
end

section
/-! PROOFS. The retry of a trip (R10; O28). -/

namespace Sys2Proof.Machine

section
variable {f : Flight} {p : Part}

/-- The poles of a flight that have moved by the end of the first window (R10). -/
def movedByWindow (f : Flight) (p : Part) : PoleSet := f.moved.union (f.mustLeave.diff p.notOpen)

theorem tripWindowExpiry_unmoved (h : p.dc.flight = some f) (hp : f.phase = .TRIP_WINDOW)
    (hm : f.fire.subset (movedByWindow f p) = false) :
    tripWindowExpiry p = clearMotion (movedByWindow f p) { p with dc := { p.dc with flight := some { f with
      op := { f.op with state := .RETRYING }, phase := .RETRY_GAP, window := 20, moved := movedByWindow f p } } } := by
  rw [movedByWindow] at hm
  simp only [tripWindowExpiry, h, hp, hm, if_true]
  rfl

theorem retryFire_unmoved (h : p.dc.flight = some f) (hp : f.phase = .RETRY_GAP) (hm : (f.fire.diff f.moved).isEmpty = false) :
    retryFire p = { p with dc := { p.dc with
      flight := some { f with phase := .RETRY_WINDOW, window := 50 }
      tripPulse := p.dc.tripPulse.union (f.fire.diff f.moved) } } := by
  simp only [retryFire, h, hp, hm, if_true]
  rfl

end

/-- An event that changes the drive alone keeps all but the blocks of the watch. -/
theorem endEvent_sameExcept {p q : Part} (h : q = { p with dc := q.dc }) : sameExcept Block.watch p (endEvent p q) := by
  refine sameExcept_of (by simp) ?_ ?_ ?_ ?_ ?_ (.inr ?_) (.inr ?_)
  · rw [h]; simp
  · rw [h]; simp
  · rw [h]; simp
  · rw [h]; simp
  · rw [h]; simp
  · rw [h]; simp
  · rw [endEvent_rs_of_recs (by rw [h]), h]

end Sys2Proof.Machine
end

section
namespace Sys2Proof.Machine

/-- Settles O28, by what each of the two timers leaves of the drive. -/
theorem unmovedPolesAreRetried : Obligations.UnmovedPolesAreRetried := by
  intro s f hon hf moved rest
  refine ⟨fun hp hm => ?_, fun hp hm => ?_⟩
  · have hq := tripWindowExpiry_unmoved hf hp hm
    have hframe : sameExcept Block.watch s.found (endEvent s.found (tripWindowExpiry s.found)) :=
      endEvent_sameExcept (by rw [hq]; rfl)
    refine ⟨_, event_on hon, ⟨by simp [hq, clearMotion], by simp [hq, clearMotion], hframe, hframe .rs (by decide)⟩,
      by simp [hq, clearMotion, moved, movedByWindow], by simp [hq, clearMotion], fun x => ?_⟩
    rw [endEvent_dc_poles, hq, clearMotion, poles_mapPoles]
    rfl
  · have hq := retryFire_unmoved hf hp hm
    have hframe : sameExcept Block.watch s.found (endEvent s.found (retryFire s.found)) := endEvent_sameExcept (by rw [hq])
    exact ⟨_, event_on hon, ⟨by simp [hq], by simp [hq], hframe, hframe .rs (by decide)⟩, by simp [hq], by simp [hq],
      by simp [hq]⟩

end Sys2Proof.Machine
end

section
/-! PROOFS. What a trip request leaves of the drive while nothing is in flight, and the firing of a trip (R4, R9, R14; O27). -/

namespace Sys2Proof.Machine

/-! ### The drive without its requests -/

/-- The drive without its close entries, its pending trip, the next operation number and the end being handled. -/
def Drive.body (d : Drive) : Drive :=
  { d with trip := none, crew := none, radio := none, seq := ⟨none, none, none⟩, nextOp := 0, ending := false }

section
variable {d e : Drive} (h : d.body = e.body)
include h

theorem Drive.poles_of_body : d.poles = e.poles := congrArg (·.poles) h
theorem Drive.flight_of_body : d.flight = e.flight := congrArg (·.flight) h
theorem Drive.history_of_body : d.history = e.history := congrArg (·.history) h
theorem Drive.coilOpen_of_body : d.coilOpen = e.coilOpen := congrArg (·.coilOpen) h
theorem Drive.tripPulse_of_body : d.tripPulse = e.tripPulse := congrArg (·.tripPulse) h
theorem Drive.closePulse_of_body : d.closePulse = e.closePulse := congrArg (·.closePulse) h

end

/-- The drive without its close entries. -/
def Drive.unlisted (d : Drive) : Drive := { d with crew := none, radio := none, seq := ⟨none, none, none⟩ }

section
variable {d e : Drive} (h : d.unlisted = e.unlisted)
include h

theorem Drive.body_of_unlisted : d.body = e.body :=
  (rfl : d.body = d.unlisted.body).trans ((congrArg Drive.body h).trans rfl)
theorem Drive.trip_of_unlisted : d.trip = e.trip := congrArg (·.trip) h
theorem Drive.nextOp_of_unlisted : d.nextOp = e.nextOp := congrArg (·.nextOp) h

end

@[simp] theorem dropSeq_unlisted (x : Pole) (p : Part) : (dropSeq x p).dc.unlisted = p.dc.unlisted := rfl

@[simp] theorem enterLockout_unlisted (c : LockSet) (p : Part) : (enterLockout c p).dc.unlisted = p.dc.unlisted :=
  applyAll_keeps (f := dropSeq) (·.dc.unlisted) dropSeq_unlisted _ p

@[simp] theorem endCrewEntry_unlisted (r : OpResult) (p : Part) : (endCrewEntry r p).dc.unlisted = p.dc.unlisted := by
  simp only [endCrewEntry]
  split
  · rw [sendEnds_dc]; rfl
  · rfl

@[simp] theorem endRadioEntry_unlisted (r : OpResult) (p : Part) : (endRadioEntry r p).dc.unlisted = p.dc.unlisted := by
  simp only [endRadioEntry]
  split
  · rw [sendEnds_dc]; rfl
  · rfl

@[simp] theorem endLinkEntries_unlisted (s : PoleSet) (r : OpResult) (p : Part) :
    (endLinkEntries s r p).dc.unlisted = p.dc.unlisted := by
  simp only [endLinkEntries]
  repeat' split
  all_goals simp

@[simp] theorem cancelSeq_unlisted (x : Pole) (p : Part) : (cancelSeq x p).dc.unlisted = p.dc.unlisted := by
  simp only [cancelSeq]
  split <;> rfl

@[simp] theorem clearEntries_unlisted (s : PoleSet) (p : Part) : (clearEntries s p).dc.unlisted = p.dc.unlisted := by
  simp only [clearEntries, judgeQuiescence_dc, cancelEntries]
  exact (applyAll_keeps (f := cancelSeq) (·.dc.unlisted) cancelSeq_unlisted _ _).trans (endLinkEntries_unlisted _ _ _)

@[simp] theorem bringIn_unlisted (s : PoleSet) (b : Bool) (p : Part) : (bringIn s b p).dc.unlisted = p.dc.unlisted := by
  simp only [bringIn, mapSeq_dc]
  exact applyAll_keeps (f := dropSeq) (·.dc.unlisted) dropSeq_unlisted _ p

@[simp] theorem sqProtect_unlisted (s : PoleSet) (m b : Bool) (p : Part) :
    ((sqProtect s m b p).1).dc.unlisted = p.dc.unlisted := by
  simp only [sqProtect, mapSeq_dc]
  split <;> simp

@[simp] theorem sqTripReport_unlisted (s : PoleSet) (c : OpCause) (w : Requester) (p : Part) :
    ((sqTripReport s c w p).1).dc.unlisted = p.dc.unlisted := by
  simp only [sqTripReport, sqCommandReport]
  repeat' split
  all_goals simp

@[simp] theorem enterLockout_body (c : LockSet) (p : Part) : (enterLockout c p).dc.body = p.dc.body :=
  Drive.body_of_unlisted (enterLockout_unlisted c p)

@[simp] theorem clearEntries_body (s : PoleSet) (p : Part) : (clearEntries s p).dc.body = p.dc.body :=
  Drive.body_of_unlisted (clearEntries_unlisted s p)

@[simp] theorem sqTripReport_body (s : PoleSet) (c : OpCause) (w : Requester) (p : Part) :
    ((sqTripReport s c w p).1).dc.body = p.dc.body := Drive.body_of_unlisted (sqTripReport_unlisted s c w p)

@[simp] theorem restartDead_dc (s : PoleSet) (p : Part) : (restartDead s p).dc = p.dc := by simp [restartDead]

@[simp] theorem joinPending_body (s : PoleSet) (e : ReqEntry) (p : Part) : (joinPending s e p).dc.body = p.dc.body := by
  simp only [joinPending]
  split <;> rfl

theorem supersede_of_free {p : Part} (h : p.dc.flight = none) : supersede p = p := by simp [supersede, h]

/-- With nothing in flight a merge makes or widens the pending trip, or nothing. -/
theorem mergeTrip_of_free {p : Part} (h : p.dc.flight = none) (s : PoleSet) (e : ReqEntry) :
    mergeTrip s e p = if (p.joins s).isEmpty then (p, .nothing) else (joinPending (p.joins s) e p, .held) := by
  have hj : (joinPending (p.joins s) e p).dc.flight = none := by simpa using h
  cases hs : (p.joins s).isEmpty <;> simp [mergeTrip, hs, h, supersede_of_free hj]

theorem mergeTrip_body {p : Part} (h : p.dc.flight = none) (s : PoleSet) (e : ReqEntry) :
    (mergeTrip s e p).1.dc.body = p.dc.body := by
  rw [mergeTrip_of_free h]
  split
  · rfl
  · simp

theorem addTrip_body {p : Part} (h : p.dc.flight = none) (s : PoleSet) : (addTrip s p).dc.body = p.dc.body := by
  simp only [addTrip]
  split
  · rfl
  · have hf : (clearEntries s p).dc.flight = none := (Drive.flight_of_body (clearEntries_body s p)).trans h
    rw [mergeTrip_body hf, clearEntries_body]

/-- A trip request with nothing in flight changes the requests of the drive alone. -/
theorem takeTrip_body {p : Part} (h : p.dc.flight = none) (s : PoleSet) (c : OpCause) (w : Requester) (t : Option Byte) :
    (takeTrip s c w t p).1.dc.body = p.dc.body := by
  simp only [takeTrip]
  split
  · rfl
  · have hreport : ((sqTripReport s c w (clearEntries s p)).1).dc.body = p.dc.body := by simp
    have hmerge := mergeTrip_body ((Drive.flight_of_body hreport).trans h) s ⟨w, c, s, t⟩
    have hadd := addTrip_body ((Drive.flight_of_body (hmerge.trans hreport)).trans h)
      (sqTripReport s c w (clearEntries s p)).2
    split <;> simp [hadd, hmerge]

theorem noteAndTrip_body {p : Part} (h : p.dc.flight = none) (s : PoleSet) (n : EndNote) (c : OpCause) :
    (noteAndTrip s n c p).dc.body = p.dc.body := by
  simp only [noteAndTrip, seqTrip]
  split
  · rfl
  · rw [takeTrip_body (by simpa using h), notePoles_dc]

theorem lockWithGang_body {p : Part} (h : p.dc.flight = none) (c : LockSet) (b : Bool) :
    (lockWithGang c b p).dc.body = p.dc.body := by
  simp only [lockWithGang]
  split
  · rw [noteAndTrip_body (by simpa using h), enterLockout_body]
  · simp

theorem sqTripEnd_body {p : Part} (h : p.dc.flight = none) (f : Flight) : (sqTripEnd f p).dc.body = p.dc.body := by
  simp only [sqTripEnd, restartLeft_dc, startGang_dc]
  rw [lockWithGang_body (by simpa using h)]
  simp

/-! ### END messages (R23) -/

theorem lockWithGang_grows (c : LockSet) (b : Bool) (p : Part) : Grows p (lockWithGang c b p) := by
  simp only [lockWithGang]
  split
  · exact (enterLockout_grows _ _).trans (noteAndTrip_grows _ _ _ _)
  · exact enterLockout_grows _ _

theorem sqTripEnd_grows (f : Flight) (p : Part) : Grows p (sqTripEnd f p) := by
  have hbefore : Grows p (mapSeq f.op.poles (settleRec f (countShots f p)) (countShots f p)) := .of_li (by simp)
  have hlock := lockWithGang_grows (tripEndLocks f (countShots f p)) (tripEndIsSequence f (countShots f p))
    (mapSeq f.op.poles (settleRec f (countShots f p)) (countShots f p))
  exact (hbefore.trans hlock).trans (.of_li (by simp [sqTripEnd]))

theorem Grows.powered {p q : Part} (h : Grows p q) (l : Link) : (q.li.get l).powered = (p.li.get l).powered := by
  obtain ⟨ms, hm⟩ := h l
  rw [hm]

theorem Grows.mem {p q : Part} (h : Grows p q) {l : Link} {m : Message} (hm : m ∈ (p.li.get l).outbound) :
    m ∈ (q.li.get l).outbound := by
  obtain ⟨ms, hq⟩ := h l
  rw [hq]
  exact List.mem_append_left _ hm

/-- Every requester of an ended operation with a tag is told, on its powered link (R23). -/
theorem sendEnds_mem {op : OpRec} {r : OpResult} {p : Part} {e : ReqEntry} (he : e ∈ op.requesters) {l : Link} {tag : Byte}
    (hl : e.who.link = some l) (ht : e.tag = some tag) (hp : (p.li.get l).powered = true) :
    .endMsg tag (.operation r op.number) ∈ ((sendEnds op r p).li.get l).outbound := by
  have list (es : List ReqEntry) (he : e ∈ es) (p : Part) (hp : (p.li.get l).powered = true) :
      .endMsg tag (.operation r op.number) ∈ ((applyAll (sendEnd r op.number) es p).li.get l).outbound := by
    induction es generalizing p with
    | nil => simp at he
    | cons a es ih =>
      have hgrows : Grows p (sendEnd r op.number a p) := sendEnd_grows _ _ _ _
      rcases List.mem_cons.1 he with rfl | he
      · have hsent : .endMsg tag (.operation r op.number) ∈ ((sendEnd r op.number e p).li.get l).outbound := by
          simp [sendEnd, hl, ht, send_get, hp]
        exact (Grows.applyAll (sendEnd_grows r op.number) es _).mem hsent
      · exact ih he _ ((hgrows.powered l).trans hp)
  exact list op.requesters he p hp

/-! ### The firing of a trip (R9) -/

/-- A trip that ends without firing leaves of the drive what it was, but the motion of its poles. -/
theorem endUnfiredTrip_body {op : OpRec} {p : Part} (h : p.dc.flight = none) :
    (endUnfiredTrip op p).dc.body = (clearMotion op.poles p).dc.body := by
  have hend := sqTripEnd_body (p := clearMotion op.poles (beginEnd p)) rfl
    ⟨op, .TRIP_WINDOW, 0, .empty, .empty, .empty, .empty, .empty, p.tb⟩
  simp only [endUnfiredTrip, driveFreed_dc, sendEnds_dc]
  refine Eq.trans (show _ = _ from hend) ?_
  simp [clearMotion, mapPoles, beginEnd, Drive.body, h]

theorem tripFire_of_pending {t : PendingTrip} {p : Part} (ht : p.dc.trip = some t) (hf : p.dc.flight = none) :
    tripFire p = fireTrip t p := by simp [tripFire, ht, hf]

theorem fireTrip_of_unfired {t : PendingTrip} {p : Part} (h : (p.fireSet t).isEmpty = true) :
    fireTrip t p = endUnfiredTrip t.op { p with dc := { p.dc with trip := none } } := by simp [fireTrip, h]

end Sys2Proof.Machine
end

section
namespace Sys2Proof.Machine

/-- Settles O27: the trip fires, or ends unfired through the Sequencer, which touches only the requests of a free drive. -/
theorem tripFires : Obligations.TripFires := by
  intro s pt hon ht hf fire
  have hfire : tripFire s.part = fireTrip pt s.part := tripFire_of_pending ht hf
  refine ⟨fun he => ?_, fun he => ?_⟩
  · have hq := hfire.trans (fireTrip_of_fires he)
    have hframe : sameExcept Block.watch s.part (endEvent s.part (tripFire s.part)) := endEvent_sameExcept (by rw [hq]; rfl)
    refine ⟨_, _, ownStep_on hon, by simp [hq], by rw [endEvent_dc_flight, hq], rfl, rfl, rfl, rfl, rfl, rfl, ?_, fun x => ?_,
      fun x => ?_, by simp [hq], hframe, hframe .eu (by decide), hframe .rs (by decide)⟩
    · rw [endEvent_dc_tripPulse, hq]
      rfl
    · simp [Part.showsClosed, fire, Part.fireSet]
    · rw [endEvent_dc_poles, hq]
      exact poles_mapPoles _ _ _ x
  · have hq := hfire.trans (fireTrip_of_unfired he)
    have hbody : (tripFire s.part).dc.body = (clearMotion pt.op.poles s.part).dc.body :=
      hq ▸ endUnfiredTrip_body (p := { s.part with dc := { s.part.dc with trip := none } }) hf
    refine ⟨_, ownStep_on hon, ?_, ?_, ?_, fun x => ?_, ?_, ?_⟩
    · rw [endEvent_dc_flight, Drive.flight_of_body hbody]
      exact hf
    · rw [endEvent_dc_history, Drive.history_of_body hbody]
      rfl
    · rw [endEvent_dc_tripPulse, Drive.tripPulse_of_body hbody]
      rfl
    · rw [endEvent_dc_poles, Drive.poles_of_body hbody, clearMotion, poles_mapPoles]
    · intro e hr l tag hl htag hp
      refine (endEvent_grows _ _).mem ?_
      rw [hq, endUnfiredTrip, driveFreed_li]
      refine sendEnds_mem hr hl htag ?_
      refine ((sqTripEnd_grows _ _).powered l).trans ?_
      simpa [beginEnd] using hp
    · exact sameExcept_of (by decide) (by simp [hq, endUnfiredTrip, beginEnd]) (by simp [hq, endUnfiredTrip, beginEnd])
        (by simp [hq, endUnfiredTrip, beginEnd]) (by simp [hq, endUnfiredTrip, beginEnd])
        (by simp [hq, endUnfiredTrip, beginEnd]) (.inr (by simp [hq, endUnfiredTrip, beginEnd])) (.inl (by decide))

end Sys2Proof.Machine
end

section
/-! PROOFS. What the steps of R14 leave of the drive, and the trip requests of a link (R4, R13, R16; O20). -/

namespace Sys2Proof.Machine

/-! ### The steps of an end (R14) -/

/-- The drive without its pole records and its sequencer entries. -/
def Drive.bare (d : Drive) : Drive := { d with poles := .const (startPole false false 0 0), seq := ⟨none, none, none⟩ }

section
variable {d e : Drive} (h : d.bare = e.bare)
include h

theorem Drive.trip_of_bare : d.trip = e.trip := congrArg (·.trip) h
theorem Drive.crew_of_bare : d.crew = e.crew := congrArg (·.crew) h
theorem Drive.radio_of_bare : d.radio = e.radio := congrArg (·.radio) h
theorem Drive.nextOp_of_bare : d.nextOp = e.nextOp := congrArg (·.nextOp) h
theorem Drive.flight_of_bare : d.flight = e.flight := congrArg (·.flight) h
theorem Drive.history_of_bare : d.history = e.history := congrArg (·.history) h
theorem Drive.coilOpen_of_bare : d.coilOpen = e.coilOpen := congrArg (·.coilOpen) h
theorem Drive.tripPulse_of_bare : d.tripPulse = e.tripPulse := congrArg (·.tripPulse) h
theorem Drive.closePulse_of_bare : d.closePulse = e.closePulse := congrArg (·.closePulse) h

end

@[simp] theorem dropSeq_bare (x : Pole) (p : Part) : (dropSeq x p).dc.bare = p.dc.bare := rfl

@[simp] theorem mapPoles_bare (s : PoleSet) (f : Pole → PoleRec → PoleRec) (p : Part) : (mapPoles s f p).dc.bare = p.dc.bare := rfl

@[simp] theorem Part.setPole_bare (p : Part) (x : Pole) (r : PoleRec) : (p.setPole x r).dc.bare = p.dc.bare := rfl

@[simp] theorem enterLockout_bare (c : LockSet) (p : Part) : (enterLockout c p).dc.bare = p.dc.bare :=
  applyAll_keeps (f := dropSeq) (·.dc.bare) dropSeq_bare _ p

@[simp] theorem setMech_bare (c : MechCause) (x : Pole) (p : Part) : (setMech c x p).dc.bare = p.dc.bare := by
  simp only [setMech]
  split <;> simp

@[simp] theorem coilChecks_bare (s : PoleSet) (p : Part) : (coilChecks s p).dc.bare = p.dc.bare := by
  simp only [coilChecks, enterLockout_bare]
  exact applyAll_keeps (f := setMech .COIL_OPEN) (·.dc.bare) (setMech_bare _) _ p

@[simp] theorem addWear_bare (x : Pole) (p : Part) : (addWear x p).dc.bare = p.dc.bare := by simp [addWear]

@[simp] theorem countAndWear_bare (f : Flight) (p : Part) : (countAndWear f p).dc.bare = p.dc.bare := by
  by_cases h : f.op.kind = .TRIP
  · rw [countAndWear_dc_of_trip h, wornPart]
    exact applyAll_keeps (f := addWear) (·.dc.bare) addWear_bare _ _
  · rw [countAndWear_of_close h, mapPoles_bare]

@[simp] theorem clearMotion_bare (s : PoleSet) (p : Part) : (clearMotion s p).dc.bare = p.dc.bare := rfl

@[simp] theorem endFirst_bare (f : Flight) (p : Part) : (endFirst f p).dc.bare = (beginEnd p).dc.bare := by simp [endFirst]

@[simp] theorem endLast_dc (f : Flight) (r : OpResult) (p : Part) : (endLast f r p).dc = (pushHistory f r p).dc := by
  simp [endLast, pushHistory]

/-! ### The pole records at an end (R12, R20) -/

/-- A pole record with MECH_FAIL set, its cause kept where it has one (R12). -/
def PoleRec.mech (c : MechCause) (r : PoleRec) : PoleRec := { r with mechFail := some (r.mechFail.getD c) }

theorem setMech_poles_get (c : MechCause) (x y : Pole) (p : Part) :
    (setMech c x p).dc.poles.get y = if y = x then (p.dc.poles.get x).mech c else p.dc.poles.get y := by
  cases h : (p.dc.poles.get x).mechFail with
  | none => simp [setMech, h, PoleRec.mech]
  | some d =>
    have hsame : (p.dc.poles.get x).mech c = p.dc.poles.get x := by
      rw [PoleRec.mech, h, Option.getD_some, ← h]
    by_cases hy : y = x <;> simp [setMech, h, hsame, hy]

/-- The fired poles that the coil checks find keep the cause they have, or get COIL_OPEN. -/
theorem coilChecks_poles_get (s : PoleSet) (p : Part) (x : Pole) :
    (coilChecks s p).dc.poles.get x =
      if s.has x = true ∧ p.dc.coilOpen.has x = true ∧ (p.dc.poles.get x).mechFail = none
      then (p.dc.poles.get x).mech .COIL_OPEN else p.dc.poles.get x := by
  simp only [coilChecks, enterLockout_dc_poles, applyAll_poles_get (setMech_poles_get .COIL_OPEN)]
  simp [Part.sound, and_assoc]

/-- A pole record as the steps 1 to 3 of R14 leave it. -/
theorem endFirst_poles_get (f : Flight) (p : Part) (x : Pole) :
    (endFirst f p).dc.poles.get x =
      f.countedRec x ((coilChecks f.fire (clearMotion f.fire (beginEnd p))).dc.poles.get x) := by
  rw [endFirst, countAndWear_poles_get]

theorem Flight.countedRec_of_unmoved {f : Flight} {x : Pole} (h : f.moved.has x = false) (r : PoleRec) :
    f.countedRec x r = r := by simp [Flight.countedRec, h]

/-- A pole that the operation has neither fired nor moved keeps its record. -/
theorem endFirst_poles_of_apart {f : Flight} {x : Pole} (hf : f.fire.has x = false) (hm : f.moved.has x = false) (p : Part) :
    (endFirst f p).dc.poles.get x = p.dc.poles.get x := by
  rw [endFirst_poles_get, Flight.countedRec_of_unmoved hm, coilChecks_poles_get]
  simp [hf, clearMotion, beginEnd]

/-! ### What a trip request and an end leave of the entries (R4, R13, R14, R16) -/

/-- The contact inputs of a pole, with what they showed since it last showed OPEN. -/
def PoleRec.inputs (r : PoleRec) : Bool × Bool × Bool := (r.aClosed, r.bClosed, r.closedSince)

/-- Close entries only leave, with their reservations and their places in the waiting order; what is pending stays pending; and
every contact shows what it showed. -/
structure GivesWay (p q : Part) : Prop where
  pending : ∀ x, p.dc.pendingPoles.has x = true → q.dc.pendingPoles.has x = true
  crew : q.dc.crew = p.dc.crew ∨ q.dc.crew = none
  radio : q.dc.radio = p.dc.radio ∨ q.dc.radio = none
  entry : ∀ x, q.dc.seq.get x = p.dc.seq.get x ∨ q.dc.seq.get x = none
  waiting : ∀ u ∈ q.nu.waiting, ∃ v ∈ p.nu.waiting, ∀ x, u.has x = true → v.has x = true
  closes : ∀ r ∈ q.nu.closes, r ∈ p.nu.closes
  inputs : ∀ x, (q.dc.poles.get x).inputs = (p.dc.poles.get x).inputs

section
variable {p q r : Part}

theorem GivesWay.trans (h : GivesWay p q) (k : GivesWay q r) : GivesWay p r where
  pending x hx := k.pending x (h.pending x hx)
  crew := k.crew.elim (fun e => e ▸ h.crew) .inr
  radio := k.radio.elim (fun e => e ▸ h.radio) .inr
  entry x := (k.entry x).elim (fun e => e ▸ h.entry x) .inr
  waiting u hu := by
    obtain ⟨v, hv, huv⟩ := k.waiting u hu
    obtain ⟨w, hw, hvw⟩ := h.waiting v hv
    exact ⟨w, hw, fun x hx => hvw x (huv x hx)⟩
  closes r hr := h.closes r (k.closes r hr)
  inputs x := (k.inputs x).trans (h.inputs x)

/-- A part that differs at most in the pending trip, the pole records and what is in flight. -/
theorem GivesWay.of_entries (hc : q.dc.crew = p.dc.crew) (hr : q.dc.radio = p.dc.radio) (hs : q.dc.seq = p.dc.seq)
    (hn : q.nu = p.nu) (ht : ∀ x, p.dc.pendingPoles.has x = true → q.dc.pendingPoles.has x = true)
    (hi : ∀ x, (q.dc.poles.get x).inputs = (p.dc.poles.get x).inputs) : GivesWay p q where
  pending := ht
  crew := .inl hc
  radio := .inl hr
  entry x := .inl (by rw [hs])
  waiting u hu := ⟨u, hn ▸ hu, fun _ hx => hx⟩
  closes _ hm := hn ▸ hm
  inputs := hi

theorem GivesWay.of_same (hd : q.dc = p.dc) (hn : q.nu = p.nu) : GivesWay p q :=
  .of_entries (by rw [hd]) (by rw [hd]) (by rw [hd]) hn (by simp [hd]) (by simp [hd])

theorem GivesWay.refl (p : Part) : GivesWay p p := .of_same rfl rfl

theorem GivesWay.applyAll {α : Type} {f : α → Part → Part} (h : ∀ a p, GivesWay p (f a p)) (as : List α) (p : Part) :
    GivesWay p (applyAll f as p) := applyAll_induction (P := GivesWay p) (fun a q hq => hq.trans (h a q)) as (.refl p)

/-- A pole that has no entry, and is of no waiting unit, stays so. -/
theorem GivesWay.entry_none (h : GivesWay p q) {x : Pole} (he : p.dc.seq.get x = none) : q.dc.seq.get x = none :=
  (h.entry x).elim (·.trans he) id

theorem GivesWay.apart (h : GivesWay p q) {x : Pole} (hw : ∀ u ∈ p.nu.waiting, u.has x = false) :
    ∀ u ∈ q.nu.waiting, u.has x = false := fun u hu => by
  obtain ⟨v, hv, huv⟩ := h.waiting u hu
  exact Bool.eq_false_iff.2 fun hx => by simpa [hw v hv] using huv x hx

theorem GivesWay.crew_none (h : GivesWay p q) (hc : p.dc.crew = none) : q.dc.crew = none := h.crew.elim (·.trans hc) id

theorem GivesWay.radio_none (h : GivesWay p q) (hr : p.dc.radio = none) : q.dc.radio = none := h.radio.elim (·.trans hr) id

theorem GivesWay.position (h : GivesWay p q) (x : Pole) : q.position x = p.position x := by
  have hx := h.inputs x
  simp only [PoleRec.inputs, Prod.mk.injEq] at hx
  simp [Part.position, PoleRec.position, hx.1, hx.2.1]

end

/-! #### Entries that leave -/

theorem release_givesWay (e : EntryName) (p : Part) : GivesWay p (releaseEntry e p) where
  pending _ := id
  crew := .inl rfl
  radio := .inl rfl
  entry _ := .inl rfl
  waiting u hu := ⟨u, hu, fun _ hx => hx⟩
  closes _ hr := (List.mem_filter.1 hr).1
  inputs _ := rfl

theorem dropSeq_givesWay (x : Pole) (p : Part) : GivesWay p (dropSeq x p) where
  pending _ := id
  crew := .inl rfl
  radio := .inl rfl
  entry y := by
    rw [dropSeq_dc_seq]
    split
    · exact .inr rfl
    · exact .inl rfl
  waiting u hu := by
    simp only [dropSeq, dropWaiting, List.mem_filter, List.mem_map] at hu
    obtain ⟨⟨v, hv, rfl⟩, -⟩ := hu
    exact ⟨v, hv, fun y hy => by simp at hy; exact hy.1⟩
  closes _ hr := (List.mem_filter.1 hr).1
  inputs _ := rfl

theorem cancelSeq_givesWay (x : Pole) (p : Part) : GivesWay p (cancelSeq x p) := by
  simp only [cancelSeq]
  split
  · exact (dropSeq_givesWay x p).trans (.of_same rfl rfl)
  · exact dropSeq_givesWay x p

theorem enterLockout_givesWay (c : LockSet) (p : Part) : GivesWay p (enterLockout c p) :=
  (GivesWay.applyAll dropSeq_givesWay _ p).trans (.of_same rfl rfl)

@[simp] theorem endRadioEntry_dc_radio (r : OpResult) (p : Part) : (endRadioEntry r p).dc.radio = none := by
  cases h : p.dc.radio with
  | none => simp [endRadioEntry, h]
  | some e => simp [endRadioEntry, h]

@[simp] theorem endRadioEntry_dc_crew (r : OpResult) (p : Part) : (endRadioEntry r p).dc.crew = p.dc.crew := by
  cases h : p.dc.radio with
  | none => simp [endRadioEntry, h]
  | some e => simp [endRadioEntry, h]

theorem endCrewEntry_givesWay (r : OpResult) (p : Part) : GivesWay p (endCrewEntry r p) := by
  cases h : p.dc.crew with
  | none => simpa [endCrewEntry, h] using GivesWay.refl p
  | some e =>
    have hdrop : GivesWay p { p with dc := { p.dc with crew := none } } := { GivesWay.refl p with crew := .inr rfl }
    rw [endCrewEntry_of_some h]
    exact (hdrop.trans (release_givesWay .CREW _)).trans (.of_same (by simp) (by simp))

theorem endRadioEntry_givesWay (r : OpResult) (p : Part) : GivesWay p (endRadioEntry r p) := by
  cases h : p.dc.radio with
  | none => simpa [endRadioEntry, h] using GivesWay.refl p
  | some e =>
    have hdrop : GivesWay p { p with dc := { p.dc with radio := none } } := { GivesWay.refl p with radio := .inr rfl }
    simp only [endRadioEntry, h]
    exact (hdrop.trans (release_givesWay .RADIO _)).trans (.of_same (by simp) (by simp))

theorem endLinkEntries_givesWay (s : PoleSet) (r : OpResult) (p : Part) : GivesWay p (endLinkEntries s r p) := by
  simp only [endLinkEntries]
  repeat' split
  · exact (endCrewEntry_givesWay r p).trans (endRadioEntry_givesWay r _)
  · exact endCrewEntry_givesWay r p
  · exact endRadioEntry_givesWay r p
  · exact .refl p

theorem clearEntries_givesWay (s : PoleSet) (p : Part) : GivesWay p (clearEntries s p) :=
  ((endLinkEntries_givesWay s _ p).trans (.applyAll cancelSeq_givesWay _ _)).trans (.of_same rfl rfl)

theorem endLinkEntries_dc_crew (s : PoleSet) (r : OpResult) (p : Part) :
    (endLinkEntries s r p).dc.crew = if (LinkClose.poles p.dc.crew).overlaps s then none else p.dc.crew := by
  simp only [endLinkEntries]
  repeat' split
  all_goals simp_all

theorem endLinkEntries_dc_radio (s : PoleSet) (r : OpResult) (p : Part) :
    (endLinkEntries s r p).dc.radio = if (LinkClose.poles p.dc.radio).overlaps s then none else p.dc.radio := by
  simp only [endLinkEntries]
  repeat' split
  all_goals simp_all

theorem clearEntries_dc_crew (s : PoleSet) (p : Part) :
    (clearEntries s p).dc.crew = if (LinkClose.poles p.dc.crew).overlaps s then none else p.dc.crew := by
  simp only [clearEntries, judgeQuiescence_dc, cancelEntries]
  refine (applyAll_keeps (f := cancelSeq) (·.dc.crew) (fun x q => ?_) _ _).trans (endLinkEntries_dc_crew _ _ _)
  simp only [cancelSeq]
  split <;> rfl

theorem clearEntries_dc_radio (s : PoleSet) (p : Part) :
    (clearEntries s p).dc.radio = if (LinkClose.poles p.dc.radio).overlaps s then none else p.dc.radio := by
  simp only [clearEntries, judgeQuiescence_dc, cancelEntries]
  refine (applyAll_keeps (f := cancelSeq) (·.dc.radio) (fun x q => ?_) _ _).trans (endLinkEntries_dc_radio _ _ _)
  simp only [cancelSeq]
  split <;> rfl

/-! #### A close superseded by a trip (R13) -/

theorem mapPoles_givesWay {s : PoleSet} {f : Pole → PoleRec → PoleRec} (h : ∀ x r, (f x r).inputs = r.inputs) (p : Part) :
    GivesWay p (mapPoles s f p) :=
  .of_entries rfl rfl rfl rfl (fun _ => id) fun x => by
    rw [poles_mapPoles]
    split
    · exact h _ _
    · rfl

theorem setMech_givesWay (c : MechCause) (x : Pole) (p : Part) : GivesWay p (setMech c x p) := by
  have hbare := setMech_bare c x p
  refine .of_entries (Drive.crew_of_bare hbare) (Drive.radio_of_bare hbare) ?_ (by simp) ?_ fun y => ?_
  · simp only [setMech]
    split
    · rfl
    · simp [Part.setPole]
  · simp [Drive.pendingPoles, Drive.trip_of_bare hbare]
  · rw [setMech_poles_get]
    split
    · rename_i hy
      rw [hy]
      rfl
    · rfl

theorem coilChecks_givesWay (s : PoleSet) (p : Part) : GivesWay p (coilChecks s p) :=
  (GivesWay.applyAll (setMech_givesWay _) _ p).trans (enterLockout_givesWay _ _)

theorem countAndWear_givesWay (f : Flight) (p : Part) : GivesWay p (countAndWear f p) := by
  have hbare := countAndWear_bare f p
  refine .of_entries (Drive.crew_of_bare hbare) (Drive.radio_of_bare hbare) ?_ (by simp) ?_ fun y => ?_
  · by_cases h : f.op.kind = .TRIP
    · rw [countAndWear_dc_of_trip h, wornPart]
      exact applyAll_keeps (f := addWear) (·.dc.seq) (fun x q => by simp [addWear, Part.setPole]) _ _
    · rw [countAndWear_of_close h]
      rfl
  · simp [Drive.pendingPoles, Drive.trip_of_bare hbare]
  · rw [countAndWear_poles_get, Flight.countedRec]
    split <;> split <;> rfl

theorem endFirst_givesWay (f : Flight) (p : Part) : GivesWay p (endFirst f p) := by
  have hbegin : GivesWay p (beginEnd p) := { GivesWay.refl p with }
  have hmotion : GivesWay (beginEnd p) (clearMotion f.fire (beginEnd p)) :=
    mapPoles_givesWay (f := fun _ r => { r with motion := .NONE }) (fun _ _ => rfl) _
  exact ((hbegin.trans hmotion).trans (coilChecks_givesWay _ _)).trans (countAndWear_givesWay f _)

theorem releaseFlight_givesWay (op : OpRec) (p : Part) : GivesWay p (releaseFlight op p) := by
  simp only [releaseFlight]
  split
  · exact .refl p
  · exact .applyAll (fun x q => release_givesWay _ q) _ p
  · exact .applyAll (fun e q => release_givesWay _ q) _ p

theorem endLast_givesWay (f : Flight) (r : OpResult) (p : Part) : GivesWay p (endLast f r p) := by
  have hpush (q : Part) : GivesWay q (pushHistory f r q) := { GivesWay.refl q with }
  have hreport : GivesWay (releaseFlight f.op p) (doneReport f.op r (releaseFlight f.op p)) := .of_same (by simp) (by simp)
  have hsend (q : Part) : GivesWay q (sendEnds f.op r q) := .of_same (by simp) (by simp)
  exact (((releaseFlight_givesWay f.op p).trans hreport).trans (hpush _)).trans (hsend _)

theorem driveFreed_givesWay (p : Part) : GivesWay p (driveFreed p) := { GivesWay.refl p with }

theorem endSuperseded_givesWay (f : Flight) (p : Part) : GivesWay p (endSuperseded f p) := by
  have hmark : GivesWay (endFirst f p) (markSuperseded f.op (endFirst f p)) := .of_same (by simp) (by simp)
  exact (((endFirst_givesWay f p).trans hmark).trans (endLast_givesWay f _ _)).trans (driveFreed_givesWay _)

theorem takeClosing_givesWay (s : PoleSet) (p : Part) : GivesWay p (takeClosing s p) := by
  cases h : p.dc.trip with
  | none => simpa [takeClosing, h] using GivesWay.refl p
  | some t => simpa [takeClosing, h] using
      { GivesWay.refl p with pending := fun x hx => by simp [Drive.pendingPoles, h] at hx ⊢; exact .inl hx }

theorem supersede_givesWay (p : Part) : GivesWay p (supersede p) := by
  unfold supersede
  repeat' split
  · exact (takeClosing_givesWay _ p).trans (endSuperseded_givesWay _ _)
  · exact .refl p
  · exact .refl p

/-! #### The merge and the Sequencer's report (R4, R48, R49) -/

theorem joinPending_givesWay (s : PoleSet) (e : ReqEntry) (p : Part) : GivesWay p (joinPending s e p) := by
  have hpend : ∀ x, p.dc.pendingPoles.has x = true → (joinPending s e p).dc.pendingPoles.has x = true := fun x hx => by
    cases ht : p.dc.trip <;> simp [Drive.pendingPoles, joinPending, ht] at hx ⊢
    exact .inl hx
  cases h : p.dc.trip <;> exact .of_entries (by simp [joinPending, h]) (by simp [joinPending, h]) (by simp [joinPending, h])
    (by simp) hpend (by simp [joinPending, h])

theorem joinPending_pending {s : PoleSet} {x : Pole} (h : s.has x = true) (e : ReqEntry) (p : Part) :
    (joinPending s e p).dc.pendingPoles.has x = true := by
  cases ht : p.dc.trip <;> simp [Drive.pendingPoles, joinPending, ht, h]

theorem mergeTrip_of_joins {s : PoleSet} {p : Part} (h : (p.joins s).isEmpty = false) (e : ReqEntry) :
    mergeTrip s e p = (supersede (joinPending (p.joins s) e p), .held) := by simp [mergeTrip, h]

theorem mergeTrip_givesWay (s : PoleSet) (e : ReqEntry) (p : Part) : GivesWay p (mergeTrip s e p).1 := by
  simp only [mergeTrip]
  split
  · exact (joinPending_givesWay _ e p).trans (supersede_givesWay _)
  · split
    · split
      · exact .refl p
      · exact { GivesWay.refl p with }
    · exact .refl p

/-- The poles that join a trip are pending then. -/
theorem mergeTrip_pending {s : PoleSet} {p : Part} {x : Pole} (h : (p.joins s).has x = true) (e : ReqEntry) :
    (mergeTrip s e p).1.dc.pendingPoles.has x = true ∧ (mergeTrip s e p).2 = .held := by
  rw [mergeTrip_of_joins ((PoleSet.isEmpty_false_iff _).2 ⟨x, h⟩)]
  exact ⟨(supersede_givesWay _).pending x (joinPending_pending h e p), rfl⟩

theorem sqProtect_givesWay (s : PoleSet) (m b : Bool) (p : Part) : GivesWay p (sqProtect s m b p).1 := by
  have hbring : GivesWay p (bringIn s b p) := (GivesWay.applyAll dropSeq_givesWay _ p).trans (.of_same rfl rfl)
  simp only [sqProtect]
  split
  · exact hbring.trans (.of_same (by rw [mapSeq_dc]) (by rw [mapSeq_nu]))
  · exact .of_same rfl rfl

theorem sqTripReport_givesWay (s : PoleSet) (c : OpCause) (w : Requester) (p : Part) :
    GivesWay p (sqTripReport s c w p).1 := by
  simp only [sqTripReport, sqCommandReport]
  split
  · exact GivesWay.trans (.of_same (by simp) (by simp)) (enterLockout_givesWay _ _)
  · split
    · exact .refl p
    · exact sqProtect_givesWay _ _ _ _

theorem addTrip_givesWay (s : PoleSet) (p : Part) : GivesWay p (addTrip s p) := by
  simp only [addTrip]
  split
  · exact .refl p
  · exact (clearEntries_givesWay _ _).trans (mergeTrip_givesWay _ _ _)

/-! ### A trip request that is taken (R4) -/

/-- The Sequencer's part of a trip request: what its report leaves, and the poles it adds. -/
def reportedTrip (s : PoleSet) (c : OpCause) (w : Requester) (p : Part) : Part × PoleSet := sqTripReport s c w (clearEntries s p)

/-- The merge of a trip request that is taken. -/
def mergedTrip (s : PoleSet) (c : OpCause) (w : Requester) (t : Option Byte) (p : Part) : Part × Taken :=
  mergeTrip s ⟨w, c, s, t⟩ (reportedTrip s c w p).1

section
variable {s : PoleSet} {p : Part} (hrun : p.bc.partState = .RUN) (hs : s.isEmpty = false) (c : OpCause) (w : Requester)
  (t : Option Byte)
include hrun hs

theorem takeTrip_of_run : takeTrip s c w t p =
    (judgeQuiescence (if c.note.isNone && w != .SEQUENCER
      then restartDead s (addTrip (reportedTrip s c w p).2 (mergedTrip s c w t p).1)
      else addTrip (reportedTrip s c w p).2 (mergedTrip s c w t p).1), (mergedTrip s c w t p).2) := by
  simp [takeTrip, Part.isRun, hrun, hs, reportedTrip, mergedTrip]

theorem takeTrip_dc : (takeTrip s c w t p).1.dc = (addTrip (reportedTrip s c w p).2 (mergedTrip s c w t p).1).dc := by
  rw [takeTrip_of_run hrun hs]
  simp only [judgeQuiescence_dc]
  split <;> simp

theorem takeTrip_taken : (takeTrip s c w t p).2 = (mergedTrip s c w t p).2 := by rw [takeTrip_of_run hrun hs]

end

theorem Part.joins_of_body {p q : Part} (h : q.dc.body = p.dc.body) (s : PoleSet) : q.joins s = p.joins s := by
  have hpoles := Drive.poles_of_body h
  have hflight := Drive.flight_of_body h
  simp [Part.joins, Part.notOpen, Part.showsOpen, Part.position, Drive.closing, Drive.tripping, hpoles, hflight]

theorem reportedTrip_body (s : PoleSet) (c : OpCause) (w : Requester) (p : Part) :
    (reportedTrip s c w p).1.dc.body = p.dc.body := by simp [reportedTrip]

/-- A pole that does not show OPEN and is not being tripped is pending once its trip is taken (R4). -/
theorem takeTrip_pending {s : PoleSet} {p : Part} (hrun : p.bc.partState = .RUN) {x : Pole} (hx : s.has x = true)
    (hopen : p.position x ≠ .OPEN) (ht : p.dc.tripping.has x = false) (c : OpCause) (w : Requester) (t : Option Byte) :
    (takeTrip s c w t p).1.dc.pendingPoles.has x = true ∧ (takeTrip s c w t p).2 = .held := by
  have hs : s.isEmpty = false := (PoleSet.isEmpty_false_iff s).2 ⟨x, hx⟩
  have hjoins : ((reportedTrip s c w p).1.joins s).has x = true := by
    rw [Part.joins_of_body (reportedTrip_body s c w p)]
    simp [Part.joins, Part.notOpen, Part.showsOpen, hx, hopen, ht]
  obtain ⟨hpend, hheld⟩ := mergeTrip_pending hjoins ⟨w, c, s, t⟩
  rw [takeTrip_dc hrun hs, takeTrip_taken hrun hs]
  exact ⟨(addTrip_givesWay _ _).pending x hpend, hheld⟩

/-- Where every named pole shows OPEN and nothing is in flight, a trip request has no entry (R4). -/
theorem takeTrip_nothing {s : PoleSet} {p : Part} (hopen : ∀ x, s.has x = true → p.position x = .OPEN)
    (hf : p.dc.flight = none) (c : OpCause) (w : Requester) (t : Option Byte) : (takeTrip s c w t p).2 = .nothing := by
  by_cases hrun : p.bc.partState = .RUN
  · cases hs : s.isEmpty with
    | true => simp [takeTrip, hs]
    | false =>
      have hfree : (reportedTrip s c w p).1.dc.flight = none := (Drive.flight_of_body (reportedTrip_body s c w p)).trans hf
      have hjoins : ((reportedTrip s c w p).1.joins s).isEmpty = true := by
        rw [Part.joins_of_body (reportedTrip_body s c w p), PoleSet.isEmpty_iff]
        intro x
        by_cases hx : s.has x = true
        · simp [Part.joins, Part.notOpen, Part.showsOpen, Drive.closing, hopen x hx, hf]
        · simp [Part.joins, hx]
      rw [takeTrip_taken hrun hs, mergedTrip, mergeTrip_of_free hfree, if_pos hjoins]
  · simp [takeTrip, Part.isRun, hrun]

/-- A trip request past the end of the entries it touches (R16). -/
theorem takeTrip_givesWay_of_cleared {s : PoleSet} {p : Part} (hrun : p.bc.partState = .RUN) (hs : s.isEmpty = false)
    (c : OpCause) (w : Requester) (t : Option Byte) : GivesWay (clearEntries s p) (takeTrip s c w t p).1 := by
  have hreport : GivesWay (clearEntries s p) (reportedTrip s c w p).1 := sqTripReport_givesWay _ _ _ _
  have hadd := (hreport.trans (mergeTrip_givesWay s ⟨w, c, s, t⟩ _)).trans (addTrip_givesWay (reportedTrip s c w p).2 _)
  rw [takeTrip_of_run hrun hs]
  refine hadd.trans (.of_same ?_ ?_)
  · simp only [judgeQuiescence_dc]
    split
    · exact restartDead_dc _ _
    · rfl
  · simp only [judgeQuiescence_nu]
    split
    · simp [restartDead, mergedTrip]
    · rfl

theorem takeTrip_of_none {s : PoleSet} {p : Part} (h : ¬ (p.bc.partState = .RUN ∧ s.isEmpty = false)) (c : OpCause)
    (w : Requester) (t : Option Byte) : takeTrip s c w t p = (p, .nothing) := by
  have hnone : (!p.isRun || s.isEmpty) = true := by
    simp only [Part.isRun, Bool.or_eq_true, Bool.not_eq_true', beq_eq_false_iff_ne]
    exact (not_and_or.1 h).imp_right (by simp)
  simp [takeTrip, hnone]

theorem takeTrip_givesWay (s : PoleSet) (c : OpCause) (w : Requester) (t : Option Byte) (p : Part) :
    GivesWay p (takeTrip s c w t p).1 := by
  by_cases h : p.bc.partState = .RUN ∧ s.isEmpty = false
  · exact (clearEntries_givesWay s p).trans (takeTrip_givesWay_of_cleared h.1 h.2 c w t)
  · rw [takeTrip_of_none h]
    exact .refl p

/-! ### TRIP as its link brings it -/

/-- The cause of a link TRIP (R4). -/
def linkCause (l : Link) (flags : Byte) : OpCause := if l = .PROTECTION ∧ flags.getLsbD 0 then .PROTECTIVE else .COMMAND

theorem tripRequest_range {l : Link} {tag poles flags : Byte} {p : Part} (h : PoleSet.ofByteNonempty poles = none) :
    tripRequest l tag poles flags p = (p, reply .RANGE) := by simp [tripRequest, h]

theorem tripRequest_taken {l : Link} {tag poles flags : Byte} {p : Part} {s : PoleSet}
    (h : PoleSet.ofByteNonempty poles = some s) :
    tripRequest l tag poles flags p =
      ((takeTrip s (linkCause l flags) (requesterOf l) (some tag) p).1,
        reply (if (takeTrip s (linkCause l flags) (requesterOf l) (some tag) p).2 = .held then .STARTED else .DONE)) := by
  simp [tripRequest, h, linkCause]

theorem PoleSet.isEmpty_of_ofByteNonempty {b : Byte} {s : PoleSet} (h : PoleSet.ofByteNonempty b = some s) :
    s.isEmpty = false := by
  cases hb : PoleSet.ofByte b with
  | none => simp [PoleSet.ofByteNonempty, hb] at h
  | some r =>
    cases hr : r.isEmpty <;> simp [PoleSet.ofByteNonempty, hb, hr] at h
    rwa [← h]

theorem takeTrip_sameExcept (s : PoleSet) (c : OpCause) (w : Requester) (t : Option Byte) (p : Part) :
    sameExcept (.pu :: .rs :: Block.watch) p (takeTrip s c w t p).1 := by
  intro b hb
  cases b <;> simp [Block.watch] at hb <;> simp [Block.same]

/-- A TRIP is answered at once, and touches only the blocks of the watch and the store. -/
theorem tripRequest_replies (l : Link) (tag poles flags : Byte) (p : Part) :
    ∃ q code, tripRequest l tag poles flags p = (q, reply code) ∧ sameExcept (.pu :: .rs :: Block.watch) p q ∧ Grows p q := by
  cases h : PoleSet.ofByteNonempty poles with
  | none => exact ⟨_, _, tripRequest_range h, fun b _ => by cases b <;> rfl, .refl p⟩
  | some s => exact ⟨_, _, tripRequest_taken h, takeTrip_sameExcept _ _ _ _ _, takeTrip_grows _ _ _ _ _⟩

end Sys2Proof.Machine
end

section
namespace Sys2Proof.Machine

/-- Settles O20: the reports and the merge leave the positions and what is in flight as they were, so the named poles join. -/
theorem linkTripMerges : Obligations.LinkTripMerges := by
  intro l tag poles flags crew s ht hrun
  let p := passedPart l ⟨tag, .trip poles flags crew⟩ s.found
  have hrun' : p.bc.partState = .RUN := by simpa [p] using hrun
  obtain ⟨q, code, hh, hframe, hgrows⟩ := tripRequest_replies l tag poles flags p
  have hans : answered l (.trip poles flags crew) tag code [] s.found
      (answeredPart l ⟨tag, .trip poles flags crew⟩ code [] s.found q) :=
    answeredPart_answered ⟨tag, .trip poles flags crew⟩ code [] ht.2.2.2.1.1 hgrows
  have gives {c : AnswerCode} {g : Part} (e : tripRequest l tag poles flags p = (g, reply c)) : code = c ∧ q = g := by
    obtain ⟨hg, hc⟩ := Prod.ext_iff.1 (hh.symm.trans e)
    exact ⟨by simpa [reply] using hc, hg⟩
  refine ⟨_, request_answered ht rfl (fun _ => rfl) hh, answeredPart_sameExcept hframe, fun hn => ?_, fun ns hns => ?_⟩
  · obtain ⟨rfl, rfl⟩ := gives (tripRequest_range hn)
    exact ⟨hans, by simp [p]⟩
  · have hne := PoleSet.isEmpty_of_ofByteNonempty hns
    obtain ⟨hcode, rfl⟩ := gives (tripRequest_taken hns)
    have hdrops := takeTrip_givesWay_of_cleared hrun' hne (linkCause l flags) (requesterOf l) (some tag)
    refine ⟨fun x hx hopen htrip => ?_, fun hopen hf => ?_, fun hc => ?_, fun hc => ?_⟩
    · obtain ⟨hpend, hheld⟩ := takeTrip_pending hrun' hx (by simpa [p] using hopen) (by simpa [p] using htrip)
        (linkCause l flags) (requesterOf l) (some tag)
      rw [if_pos hheld] at hcode
      refine ⟨?_, hcode ▸ hans⟩
      simpa [Drive.pendingPoles] using hpend
    · have hnothing := takeTrip_nothing (p := p) (by simpa [p] using hopen) (by simpa [p] using hf) (linkCause l flags)
        (requesterOf l) (some tag)
      rw [if_neg (by rw [hnothing]; decide)] at hcode
      exact hcode ▸ hans
    · rw [answeredPart_crew]
      exact hdrops.crew_none (by rw [clearEntries_dc_crew, if_pos (by simpa [p] using hc)])
    · rw [answeredPart_radio]
      exact hdrops.radio_none (by rw [clearEntries_dc_radio, if_pos (by simpa [p] using hc)])

end Sys2Proof.Machine
end

section
/-! PROOFS. A link TRIP at a free drive (R3, R4, R48, R49; O21). -/

namespace Sys2Proof.Machine

@[simp] theorem answeredPart_seq (l : Link) (w : WaitReq) (code : AnswerCode) (content : List Byte) (p q : Part) (x : Pole) :
    (answeredPart l w code content p q).seq x = q.seq x := by simp [Part.seq]

/-! ### A command trip with nothing pending (R3, R4) -/

/-- The record of a command trip (R3). -/
theorem takeTrip_command {s : PoleSet} {p : Part} (hrun : p.bc.partState = .RUN) (hs : s.isEmpty = false)
    (hf : p.dc.flight = none) (ht : p.dc.trip = none) (hj : (s.inter p.notOpen).isEmpty = false) (w : Requester)
    (t : Option Byte) :
    (takeTrip s .COMMAND w t p).1.dc.trip = some ⟨⟨p.dc.nextOp, .TRIP, s.inter p.notOpen, .COMMAND,
        [⟨w, .COMMAND, s, t⟩], .PENDING, none⟩, .empty⟩ ∧
      (takeTrip s .COMMAND w t p).1.dc.nextOp = wrapNext p.dc.nextOp := by
  have hunlisted : (reportedTrip s .COMMAND w p).1.dc.unlisted = p.dc.unlisted := by simp [reportedTrip]
  have htrip := (Drive.trip_of_unlisted hunlisted).trans ht
  have hnext := Drive.nextOp_of_unlisted hunlisted
  have hjoins : (reportedTrip s .COMMAND w p).1.joins s = s.inter p.notOpen := by
    rw [Part.joins_of_body (reportedTrip_body s .COMMAND w p)]
    refine PoleSet.ext_has fun x => ?_
    simp [Part.joins, Drive.closing, Drive.tripping, hf]
  have hadded : (reportedTrip s .COMMAND w p).2 = .empty := rfl
  have hfree : (reportedTrip s .COMMAND w p).1.dc.flight = none := (Drive.flight_of_body (reportedTrip_body s _ w p)).trans hf
  rw [takeTrip_dc hrun hs, hadded, mergedTrip, mergeTrip_of_free hfree, hjoins, if_neg (by simp [hj])]
  have hempty : PoleSet.empty.isEmpty = true := by decide
  simp [addTrip, joinPending, htrip, hnext, hempty]

/-! ### The sequence records under a protective trip (R48, R49) -/

/-- The end of an entry cancelled leaves every record outside CLOSE_WAIT. -/
theorem clearEntries_seq {s : PoleSet} {p : Part} {x : Pole} (h : (p.seq x).state ≠ .CLOSE_WAIT) :
    (clearEntries s p).seq x = p.seq x := by
  have hlinks : (endLinkEntries s .CANCELLED p).seq x = p.seq x := by simp [Part.seq]
  have hcancel (xs : List Pole) : (applyAll cancelSeq xs (endLinkEntries s .CANCELLED p)).seq x = p.seq x := by
    refine applyAll_induction (P := fun q => q.seq x = p.seq x) (fun y q hq => ?_) xs hlinks
    simp only [cancelSeq]
    split
    · rename_i hy
      have hne : x ≠ y := fun e => h (by rw [← hq, e]; exact hy)
      rw [Part.seq_setSeq, if_neg hne]
      exact hq
    · exact hq
  simpa [clearEntries, cancelEntries, Part.seq] using hcancel _

theorem mergeTrip_sq_of_free {p : Part} (h : p.dc.flight = none) (s : PoleSet) (e : ReqEntry) :
    (mergeTrip s e p).1.sq = p.sq := by
  rw [mergeTrip_of_free h]
  split <;> simp

theorem addTrip_seq_of_free {p : Part} (hf : p.dc.flight = none) (s : PoleSet) {x : Pole} (h : (p.seq x).state ≠ .CLOSE_WAIT) :
    (addTrip s p).seq x = p.seq x := by
  simp only [addTrip]
  split
  · rfl
  · have hfree : (clearEntries s p).dc.flight = none := (Drive.flight_of_body (clearEntries_body s p)).trans hf
    simpa [Part.seq, mergeTrip_sq_of_free hfree] using clearEntries_seq h

theorem startGang_seq {p : Part} {x : Pole} (h : p.gangDead.has x = false) : (startGang p).seq x = p.seq x := by
  simp only [startGang]
  repeat' split
  · rfl
  · rfl
  · simp [h]

theorem joinGangTimer_seq {p : Part} {x : Pole} (h : (p.seq x).state ≠ .DEAD ∨ (p.seq x).deadTimer.isSome = true) :
    (joinGangTimer p).seq x = p.seq x := by
  have hstopped : p.gangStopped.has x = false := by
    rcases h with h | h <;> simp [Part.gangStopped, Part.gangDead, h]
  simp only [joinGangTimer]
  split
  · split
    · rfl
    · simp [hstopped]
  · rename_i hnone
    refine startGang_seq (Bool.eq_false_iff.2 fun hx => ?_)
    have hrun := (List.find?_eq_none.1 hnone) x (by simpa using hx)
    have hdead : (p.seq x).state = .DEAD := by simpa [Part.gangDead] using (by simpa [Part.gangDead] using hx : _ ∧ _).2
    exact hrun (h.resolve_left (fun hn => hn hdead))

/-- The dead timers of R49 start only where none runs. -/
theorem restartDead_seq {s : PoleSet} {p : Part} {x : Pole}
    (h : (p.seq x).state ≠ .DEAD ∨ (p.seq x).deadTimer.isSome = true) : (restartDead s p).seq x = p.seq x := by
  have hstart (xs : List Pole) (hx : x ∉ xs) (q : Part) : (applyAll startDead xs q).seq x = q.seq x := by
    induction xs generalizing q with
    | nil => rfl
    | cons y ys ih =>
      obtain ⟨hy, hys⟩ : x ≠ y ∧ x ∉ ys := by simpa using hx
      rw [applyAll, ih hys, startDead, Part.seq_setSeq, if_neg hy]
  have hx : x ∉ (PoleSet.ofFun fun y =>
      s.has y && (p.seq y).state == .DEAD && (p.seq y).deadTimer.isNone && !(p.seq y).ganged).members := by
    rcases h with h | h
    · simp [h]
    · simp [Option.isSome_iff_ne_none.1 h]
  rw [restartDead, joinGangTimer_seq] <;> rw [hstart _ hx]
  exact h

/-- The gang trip brings in no pole that is neither in DEAD nor in CLOSE_WAIT, and none that the trip leaves in DEAD. -/
theorem bringIn_seq {s : PoleSet} {b : Bool} {p : Part} {x : Pole}
    (h : ((p.seq x).state ≠ .DEAD ∧ (p.seq x).state ≠ .CLOSE_WAIT) ∨ leftInDead s b p x = true) :
    (bringIn s b p).seq x = p.seq x := by
  have hdrop (xs : List Pole) (q : Part) : (applyAll dropSeq xs q).seq x = q.seq x :=
    applyAll_keeps (f := dropSeq) (·.seq x) (fun _ _ => rfl) xs q
  rcases h with ⟨hdead, hwait⟩ | h
  · simp [bringIn, Part.waitingPoles, Part.unfired, hdead, hwait, hdrop]
  · simp [bringIn, h, hdrop]

/-- A named pole that is closed or reclaims goes to TRIP_WAIT (R48). -/
theorem sqProtect_seq_closed {s : PoleSet} {m b : Bool} {p : Part} {x : Pole} (hx : s.has x = true)
    (h : (p.seq x).state = .CLOSED_IDLE ∨ (p.seq x).state = .TIMING ∨ (p.seq x).state = .RECLAIM) :
    (((sqProtect s m b p).1).seq x).state = .TRIP_WAIT ∧ (((sqProtect s m b p).1).seq x).reclaim = .stopped ∧
      (((sqProtect s m b p).1).seq x).shot = (p.seq x).shot := by
  have hbring : (bringIn s b p).seq x = p.seq x :=
    bringIn_seq (.inl (by rcases h with h | h | h <;> simp [h]))
  have hrec (fired open' gang : Bool) :
      (((p.seq x).protect fired open').joinGang gang open').state = .TRIP_WAIT ∧
        (((p.seq x).protect fired open').joinGang gang open').reclaim = .stopped ∧
        (((p.seq x).protect fired open').joinGang gang open').shot = (p.seq x).shot := by
    rcases h with h | h | h <;> simp only [SeqRec.protect, h, SeqRec.joinGang] <;> split <;> simp
  simp only [sqProtect, seq_mapSeq]
  split
  · simpa [hx, hbring] using hrec _ _ _
  · simpa [hx] using hrec _ _ _

/-- A named pole in DEAD with its timer running stays as it is under a protection-link TRIP (R49). -/
theorem sqProtect_seq_dead {s : PoleSet} {m : Bool} {p : Part} {x : Pole} (hx : s.has x = true)
    (h : (p.seq x).state = .DEAD) (ht : (p.seq x).deadTimer.isSome = true) :
    ((sqProtect s m true p).1).seq x = p.seq x := by
  have hany : (s.any fun y => (p.seq y).ganged && (p.seq y).state == .DEAD && (p.seq y).deadTimer.isSome) =
      true ∨ (p.seq x).ganged = false := by
    by_cases hg : (p.seq x).ganged = true
    · exact .inl (by simpa [PoleSet.any] using ⟨x, hx, by simp [hg, h, ht]⟩)
    · exact .inr (by simpa using hg)
  have hleft : leftInDead s true p x = true := by
    by_cases hg : (p.seq x).ganged = true
    · simp [leftInDead, hg, h, ht, hany.resolve_right (by simp [hg])]
    · simp [leftInDead, hg, hx]
  have hbring : (bringIn s true p).seq x = p.seq x := bringIn_seq (.inr hleft)
  have hrec (fired open' gang : Bool) : ((p.seq x).protect fired open').joinGang gang open' = p.seq x := by
    simp [SeqRec.protect, h, SeqRec.joinGang]
  simp only [sqProtect, seq_mapSeq]
  split
  · simp [hbring, hrec]
  · simp [hrec]

/-- A link TRIP with the sequence flag, at a free drive: past the report, no record in TRIP_WAIT, or in DEAD with its timer
running, changes. -/
theorem takeTrip_seq_protective {s : PoleSet} {p : Part} (hrun : p.bc.partState = .RUN) (hs : s.isEmpty = false)
    (hf : p.dc.flight = none) (t : Option Byte) {x : Pole} {r : SeqRec}
    (hr : ((sqProtect s (decide (2 ≤ s.count)) true (clearEntries s p)).1).seq x = r) (hw : r.state ≠ .CLOSE_WAIT)
    (hd : r.state ≠ .DEAD ∨ r.deadTimer.isSome = true) :
    (takeTrip s .PROTECTIVE .PROTECTION_LINK t p).1.seq x = r := by
  have hreport : (reportedTrip s .PROTECTIVE .PROTECTION_LINK p).1.seq x = r := by
    rw [← hr]
    rfl
  have hfree : (reportedTrip s .PROTECTIVE .PROTECTION_LINK p).1.dc.flight = none :=
    (Drive.flight_of_body (reportedTrip_body s _ _ p)).trans hf
  have hmerge : (mergedTrip s .PROTECTIVE .PROTECTION_LINK t p).1.seq x = r := by
    rw [← hreport]
    simp [mergedTrip, Part.seq, mergeTrip_sq_of_free hfree]
  have hmfree : (mergedTrip s .PROTECTIVE .PROTECTION_LINK t p).1.dc.flight = none :=
    (Drive.flight_of_body (mergeTrip_body hfree _ _)).trans hfree
  have hadd : (addTrip (reportedTrip s .PROTECTIVE .PROTECTION_LINK p).2
      (mergedTrip s .PROTECTIVE .PROTECTION_LINK t p).1).seq x = r := by
    rw [addTrip_seq_of_free hmfree _ (by rw [hmerge]; exact hw), hmerge]
  rw [takeTrip_of_run hrun hs]
  have hrestart := (restartDead_seq (s := s) (p := addTrip (reportedTrip s .PROTECTIVE .PROTECTION_LINK p).2
    (mergedTrip s .PROTECTIVE .PROTECTION_LINK t p).1) (x := x) (by rw [hadd]; exact hd)).trans hadd
  simpa [OpCause.note, Part.seq] using hrestart

end Sys2Proof.Machine
end

section
namespace Sys2Proof.Machine

/-- Settles O21: a free drive takes the trip as its record, and the Sequencer's records change by its report alone. -/
theorem tripAtFreeDrive : Obligations.TripAtFreeDrive := by
  intro l tag poles flags crew s ns ht hrun hns hf
  let p := passedPart l ⟨tag, .trip poles flags crew⟩ s.found
  have hrun' : p.bc.partState = .RUN := by simpa [p] using hrun
  have hf' : p.dc.flight = none := by simpa [p] using hf
  have hp (x : Pole) : p.seq x = s.found.seq x := by simp [p, Part.seq]
  have hne := PoleSet.isEmpty_of_ofByteNonempty hns
  have hh : handle l tag (.trip poles flags crew) p = _ := tripRequest_taken hns
  have hbody := takeTrip_body hf' ns (linkCause l flags) (requesterOf l) (some tag)
  have hseq (hl : l = .PROTECTION) (hflag : flags.getLsbD 0 = true) {x : Pole} {r : SeqRec}
      (hr : ((sqProtect ns (decide (2 ≤ ns.count)) true (clearEntries ns p)).1).seq x = r) (hw : r.state ≠ .CLOSE_WAIT)
      (hd : r.state ≠ .DEAD ∨ r.deadTimer.isSome = true) :
      (takeTrip ns (linkCause l flags) (requesterOf l) (some tag) p).1.seq x = r := by
    have hc : linkCause l flags = .PROTECTIVE := by simp [linkCause, hl, hflag]
    have hq : requesterOf l = .PROTECTION_LINK := by rw [hl]; rfl
    rw [hc, hq]
    exact takeTrip_seq_protective hrun' hne hf' (some tag) hr hw hd
  refine ⟨_, request_answered ht rfl (fun _ => rfl) hh, ?_, ?_, ?_, answeredPart_sameExcept (takeTrip_sameExcept _ _ _ _ _),
    fun hl hn hj => ?_, fun hl hflag x hx hstate => ?_, fun hl hflag x hx hstate htimer => ?_⟩
  · rw [answeredPart_poles, Drive.poles_of_body hbody]
    simp [p]
  · simp [p]
  · simp only [answeredPart_pu, takeTrip_pu]
    simp only [p, passedPart_eq, setUnder_pu]
    exact loadClaimTimer_pu l s.found
  · have hc : linkCause l flags = .COMMAND := if_neg hl
    have hopen : p.notOpen = s.found.notOpen := by simp [p, Part.notOpen, Part.showsOpen]
    obtain ⟨htrip, hnext⟩ := takeTrip_command hrun' hne hf' (by simpa [p] using hn) (by rw [hopen]; exact hj) (requesterOf l)
      (some tag)
    rw [answeredPart_trip, answeredPart_nextOp, hc, htrip, hnext, hopen]
    exact ⟨by simp [p], by simp [p]⟩
  · have hclear : (clearEntries ns p).seq x = s.found.seq x :=
      (clearEntries_seq (by rw [hp]; rcases hstate with h | h | h <;> simp [h])).trans (hp x)
    obtain ⟨hstate', hreclaim, hshot⟩ := sqProtect_seq_closed (m := decide (2 ≤ ns.count)) (b := true) hx
      (by rw [hclear]; exact hstate)
    have hkept := hseq hl hflag rfl (by rw [hstate']; decide) (.inl (by rw [hstate']; decide))
    rw [answeredPart_seq, hkept]
    exact ⟨hstate', hreclaim, hshot.trans (by rw [hclear])⟩
  · have hclear : (clearEntries ns p).seq x = s.found.seq x :=
      (clearEntries_seq (by rw [hp, hstate]; decide)).trans (hp x)
    have hdead := sqProtect_seq_dead (m := decide (2 ≤ ns.count)) hx (by rw [hclear]; exact hstate)
      (by rw [hclear]; exact htimer)
    have hkept := hseq hl hflag (hdead.trans hclear) (by rw [hstate]; decide) (.inr htimer)
    rw [answeredPart_seq, hkept]

end Sys2Proof.Machine
end

section
/-! PROOFS. The dead timer and the reclaim timer (R53, R56, R57, R123, R125; O38). -/

namespace Sys2Proof.Machine

/-! ### The entries at the end of an event (R125) -/

theorem endEvent_dc_seq (b a : Part) :
    (endEvent b a).dc.seq = (grantUnits a.nu.waiting (recountReserve (reportLockouts b a))).dc.seq := by
  simp [endEvent, refresh, energyJudge]

/-- A grant readies the entries of its units, and leaves the others. -/
theorem grantUnits_entry (us : List PoleSet) (p : Part) (x : Pole) :
    (grantUnits us p).dc.seq.get x = p.dc.seq.get x ∨
      (∃ u ∈ us, u.has x = true) ∧ (grantUnits us p).dc.seq.get x = some .PENDING := by
  induction us generalizing p with
  | nil => exact .inl rfl
  | cons u us ih =>
    unfold grantUnits
    split
    · rcases ih (applyAll pendingEntry u.members { p with nu := { p.nu with waiting := us } }) with h | ⟨⟨v, hv, hx⟩, h⟩
      · by_cases hx : u.has x = true
        · exact .inr ⟨⟨u, by simp, hx⟩, h.trans (by simp [hx])⟩
        · exact .inl (h.trans (by simp [hx]))
      · exact .inr ⟨⟨v, by simp [hv], hx⟩, h⟩
    · exact .inl rfl

/-- The poles of a unit keep entries in one state. -/
theorem grantUnits_together {s : PoleSet} {us : List PoleSet} (hu : ∀ u ∈ us, u = s ∨ u.overlaps s = false) {p : Part}
    {e : Option SeqEntry} (he : ∀ x, s.has x = true → p.dc.seq.get x = e) :
    ∃ f, ∀ x, s.has x = true → (grantUnits us p).dc.seq.get x = f := by
  induction us generalizing p e with
  | nil => exact ⟨e, he⟩
  | cons u us ih =>
    have hus : ∀ v ∈ us, v = s ∨ v.overlaps s = false := fun v hv => hu v (by simp [hv])
    unfold grantUnits
    split
    · rcases hu u (by simp) with rfl | hn
      · exact ih hus (e := some .PENDING) fun x hx => by simp [hx]
      · refine ih hus (e := e) fun x hx => ?_
        have hux : u.has x = false := Bool.eq_false_iff.2 fun h => by
          simp [(PoleSet.overlaps_false_iff u s).1 hn x h] at hx
        simp [hux, he x hx]
    · exact ⟨e, he⟩

theorem endEvent_entry (b a : Part) (x : Pole) :
    (endEvent b a).dc.seq.get x = a.dc.seq.get x ∨
      (∃ u ∈ a.nu.waiting, u.has x = true) ∧ (endEvent b a).dc.seq.get x = some .PENDING := by
  rw [endEvent_dc_seq]
  simpa using grantUnits_entry a.nu.waiting (recountReserve (reportLockouts b a)) x

theorem endEvent_entry_isSome (b a : Part) {x : Pole} (h : (a.dc.seq.get x).isSome = true) :
    ((endEvent b a).dc.seq.get x).isSome = true := by
  rcases endEvent_entry b a x with he | ⟨-, he⟩ <;> simp [he, h]

/-- An entry of a pole of no waiting unit stays as it is. -/
theorem endEvent_entry_of_apart (b a : Part) {x : Pole} (h : ∀ u ∈ a.nu.waiting, u.has x = false) :
    (endEvent b a).dc.seq.get x = a.dc.seq.get x := by
  rcases endEvent_entry b a x with he | ⟨⟨u, hu, hx⟩, -⟩
  · exact he
  · simp [h u hu] at hx

theorem endEvent_together {s : PoleSet} {a : Part} (b : Part) (hu : ∀ u ∈ a.nu.waiting, u = s ∨ u.overlaps s = false)
    {e : Option SeqEntry} (he : ∀ x, s.has x = true → a.dc.seq.get x = e) :
    ∃ f, ∀ x, s.has x = true → (endEvent b a).dc.seq.get x = f := by
  rw [endEvent_dc_seq]
  exact grantUnits_together hu (e := e) fun x hx => by simpa using he x hx

/-! ### Frames of a change of the entries -/

theorem judgeQuiescence_ofEntries (p : Part) : OfEntries p (judgeQuiescence p) := ⟨_, _, _, rfl⟩

theorem enterLockout_ofEntries (c : LockSet) (p : Part) : OfEntries p (enterLockout c p) :=
  (OfEntries.applyAll dropSeq_ofEntries _ p).trans ⟨_, _, _, rfl⟩

/-- An event that changes entries and sequence records alone. -/
theorem OfEntries.endEvent_sameExcept {p q : Part} (h : OfEntries p q) : sameExcept (.rs :: Block.watch) p (endEvent p q) := by
  obtain ⟨_, _, _, rfl⟩ := h
  exact sameExcept_of (by decide) (by simp) (by simp) (by simp) (by simp) (by simp) (.inr (by simp)) (.inl (by decide))

theorem OfEntries.endEvent_poles {p q : Part} (h : OfEntries p q) : (endEvent p q).dc.poles = p.dc.poles := by
  obtain ⟨_, _, _, rfl⟩ := h
  simp

/-- An event that locks no pole out leaves the store. -/
theorem OfEntries.endEvent_rs {p q : Part} (h : OfEntries p q) (hl : q.locked = p.locked) : (endEvent p q).rs = p.rs := by
  rw [endEvent_of_same hl]
  obtain ⟨_, _, _, rfl⟩ := h
  simp

theorem Part.locked_congr {p q : Part} (h : ∀ x, (q.seq x).state = .LOCKOUT ↔ (p.seq x).state = .LOCKOUT) :
    q.locked = p.locked := by
  refine PoleSet.ext_has fun x => ?_
  simp only [Part.locked, PoleSet.has_ofFun]
  exact Bool.eq_iff_iff.2 (by simpa using h x)

/-! ### Locks at the expiry of a dead timer (R53, R57) -/

theorem LockSet.get_on (s : PoleSet) (c : Pole → Option LockCause) (x : Pole) :
    (LockSet.on s c).get x = if s.has x then c x else none := by simp [LockSet.on]

/-- No pole of the set is locked out by a cause of its own. -/
theorem expiryLocks_none {s : PoleSet} {p : Part} (h : ∀ x, s.has x = true → expiryCause p x = none) :
    (expiryLocks s p).poles.isEmpty = true := by
  have hown : (LockSet.on s (expiryCause p)).poles.isEmpty = true := by
    rw [PoleSet.isEmpty_iff]
    intro x
    by_cases hx : s.has x = true <;> simp [LockSet.poles, LockSet.get_on, hx, h]
  simp only [expiryLocks, hown, if_true]

/-- With one pole locked out, the others of the set lock out for the gang. -/
theorem expiryLocks_some {s : PoleSet} {p : Part} {y : Pole} (hy : s.has y = true) (h : expiryCause p y ≠ none) (x : Pole) :
    (expiryLocks s p).get x = if s.has x then some ((expiryCause p x).getD .GANG) else none := by
  have hown : (LockSet.on s (expiryCause p)).poles.isEmpty = false := by
    rw [PoleSet.isEmpty_false_iff]
    exact ⟨y, by simpa [LockSet.poles, LockSet.get_on, hy] using Option.isSome_iff_ne_none.2 h⟩
  simp only [expiryLocks, hown]
  by_cases hx : s.has x = true
  · cases hc : expiryCause p x <;> simp [LockSet.orElse, LockSet.of, LockSet.get_on, hx, hc]
  · simp [LockSet.orElse, LockSet.of, LockSet.get_on, hx]

/-- Poles that hold no entry leave the drive and the Energy Unit as they were when they lock out. -/
theorem enterLockout_of_fired {c : LockSet} {p : Part} (h : ∀ x, (c.get x).isSome = true → p.unfired x = false) :
    (enterLockout c p).dc = p.dc ∧ (enterLockout c p).nu = p.nu := by
  have hnone : (p.newLocks c).poles.members.filter p.unfired = [] := by
    refine List.filter_eq_nil_iff.2 fun x hx => ?_
    have hc : (c.get x).isSome = true := by
      have hx : ((p.newLocks c).get x).isSome = true := by simpa [LockSet.poles] using hx
      by_cases hl : (p.seq x).state = .LOCKOUT
      · simp [Part.newLocks, hl] at hx
      · simpa [Part.newLocks, hl] using hx
    simp [h x hc]
  simp [enterLockout, hnone, applyAll]

/-! ### The dead timer (R53, R57) -/

/-- The poles whose dead timer expires together: a pole in DEAD, or the members of its gang in DEAD (R57). -/
def Part.deadUnit (p : Part) (x : Pole) : PoleSet := .ofFun fun y => (p.unitOf x).has y && (p.seq y).state == .DEAD

section
variable {p : Part} {x : Pole}

theorem deadUnit_dead {y : Pole} (h : (p.deadUnit x).has y = true) : (p.seq y).state = .DEAD := by
  simpa using (by simpa [Part.deadUnit] using h : _ ∧ _).2

theorem deadUnit_of_alone (hx : (p.seq x).state = .DEAD) (hg : (p.seq x).ganged = false) : p.deadUnit x = .single x := by
  refine PoleSet.ext_has fun y => ?_
  by_cases hy : y = x
  · simp [Part.deadUnit, Part.unitOf, hg, hy, hx]
  · simp [Part.deadUnit, Part.unitOf, hg, hy]

theorem deadUnit_of_ganged (hg : (p.seq x).ganged = true) :
    p.deadUnit x = .ofFun fun y => (p.seq y).ganged && (p.seq y).state == .DEAD :=
  PoleSet.ext_has fun y => by simp [Part.deadUnit, Part.unitOf, Part.gang, hg]

variable (hd : (p.seq x).state = .DEAD) (ht : (p.seq x).deadTimer.isSome = true)
include hd ht

theorem deadTimerExpiry_stops (hg : (p.seq x).ganged = true) (ha : p.gangAwaits = true) :
    deadTimerExpiry x p = mapSeq (p.deadUnit x) (fun _ r => r.deadStopped) p := by
  simp [deadTimerExpiry, hd, ht, hg, ha, Part.deadUnit]

theorem deadTimerExpiry_places (ha : (p.seq x).ganged = true → p.gangAwaits = false)
    (hc : ∀ y, (p.deadUnit x).has y = true → expiryCause p y = none) :
    deadTimerExpiry x p = placeEntries (p.deadUnit x) (mapSeq (p.deadUnit x) (fun _ r => r.closeWait) p) := by
  have hlocks := expiryLocks_none hc
  rw [Part.deadUnit] at hlocks
  simpa [deadTimerExpiry, hd, ht, hlocks, Part.deadUnit] using fun hg => by simp [ha hg]

theorem deadTimerExpiry_locks (ha : (p.seq x).ganged = true → p.gangAwaits = false)
    (hc : ∃ y, (p.deadUnit x).has y = true ∧ expiryCause p y ≠ none) :
    deadTimerExpiry x p = enterLockout (expiryLocks (p.deadUnit x) p) p := by
  obtain ⟨y, hy, hne⟩ := hc
  have hlocks : (expiryLocks (p.deadUnit x) p).poles.isEmpty = false :=
    (PoleSet.isEmpty_false_iff _).2 ⟨y, by simp [LockSet.poles, expiryLocks_some hy hne, hy]⟩
  rw [Part.deadUnit] at hlocks
  simpa [deadTimerExpiry, hd, ht, hlocks, Part.deadUnit] using fun hg => by simp [ha hg]

/-- The records and the entries of the poles locked out at the expiry. -/
theorem deadTimerExpiry_locked (ha : (p.seq x).ganged = true → p.gangAwaits = false)
    (hc : ∃ y, (p.deadUnit x).has y = true ∧ expiryCause p y ≠ none) :
    (deadTimerExpiry x p).dc = p.dc ∧ (deadTimerExpiry x p).nu = p.nu ∧ ∀ y, (p.deadUnit x).has y = true →
      (deadTimerExpiry x p).seq y = (p.seq y).locked ((expiryCause p y).getD .GANG) := by
  rw [deadTimerExpiry_locks hd ht ha hc]
  obtain ⟨z, hz, hne⟩ := hc
  obtain ⟨hdc, hnu⟩ := enterLockout_of_fired (c := expiryLocks (p.deadUnit x) p) (p := p) fun y hy => by
    have hy : (p.deadUnit x).has y = true := by
      by_contra hn
      rw [expiryLocks_some hz hne, if_neg hn] at hy
      simp at hy
    simp [Part.unfired, deadUnit_dead hy]
  refine ⟨hdc, hnu, fun y hy => ?_⟩
  have hget : (p.newLocks (expiryLocks (p.deadUnit x) p)).get y = some ((expiryCause p y).getD .GANG) := by
    simp [Part.newLocks, deadUnit_dead hy, expiryLocks_some hz hne, hy]
  rw [enterLockout_seq, hget]

end

theorem deadTimerExpiry_stopped {p : Part} {x : Pole} (hd : (p.seq x).state = .DEAD)
    (ht : (p.seq x).deadTimer.isSome = true) (hg : (p.seq x).ganged = true) (ha : p.gangAwaits = true) :
    (deadTimerExpiry x p).dc = p.dc ∧ (deadTimerExpiry x p).nu = p.nu ∧ ∀ y, (p.deadUnit x).has y = true →
      (deadTimerExpiry x p).seq y = (p.seq y).deadStopped := by
  rw [deadTimerExpiry_stops hd ht hg ha]
  exact ⟨rfl, rfl, fun y hy => by simp [hy]⟩

theorem deadTimerExpiry_placed {p : Part} {x : Pole} (hd : (p.seq x).state = .DEAD)
    (ht : (p.seq x).deadTimer.isSome = true) (ha : (p.seq x).ganged = true → p.gangAwaits = false)
    (hc : ∀ y, (p.deadUnit x).has y = true → expiryCause p y = none) :
    (deadTimerExpiry x p).locked = p.locked ∧ ∀ y, (p.deadUnit x).has y = true →
      (deadTimerExpiry x p).seq y = (p.seq y).closeWait ∧ ((deadTimerExpiry x p).dc.seq.get y).isSome = true := by
  have hseq (y : Pole) : (deadTimerExpiry x p).seq y =
      if (p.deadUnit x).has y = true then (p.seq y).closeWait else p.seq y := by
    rw [deadTimerExpiry_places hd ht ha hc, placeEntries_seq, seq_mapSeq]
  refine ⟨Part.locked_congr fun y => ?_, fun y hy => ⟨by rw [hseq, if_pos hy], ?_⟩⟩
  · rw [hseq]
    split
    · rename_i hy
      simp [SeqRec.closeWait, deadUnit_dead hy]
    · rfl
  · rw [deadTimerExpiry_places hd ht ha hc]
    exact (placeEntries_entry (p.deadUnit x) _ y).1 hy

/-- The expiry of a dead timer changes entries and sequence records alone. -/
theorem deadTimerExpiry_ofEntries (x : Pole) (p : Part) : OfEntries p (deadTimerExpiry x p) := by
  simp only [deadTimerExpiry]
  split
  · split
    · exact mapSeq_ofEntries _ _ _
    · split
      · exact (mapSeq_ofEntries _ _ _).trans (placeEntries_ofEntries _ _)
      · exact enterLockout_ofEntries _ _
  · exact .refl p

/-! ### Entries placed (R123, R125) -/

theorem applyAll_pendingEntry_closes {x : Pole} {xs : List Pole} (hx : x ∈ xs) (p : Part) :
    ⟨.SEQ x, 14⟩ ∈ (applyAll pendingEntry xs p).nu.closes := by
  induction xs generalizing p with
  | nil => simp at hx
  | cons y ys ih =>
    rcases List.mem_cons.1 hx with rfl | hx
    · have hmem : (⟨.SEQ x, 14⟩ : Reservation) ∈ (pendingEntry x p).nu.closes := by simp [pendingEntry, reserve, Config.closeCost]
      exact applyAll_induction (P := fun q => (⟨.SEQ x, 14⟩ : Reservation) ∈ q.nu.closes)
        (fun z q hq => (pendingEntry_closesGain z q).mem hq) ys hmem
    · exact ih hx _

theorem placeEntries_fits {s : PoleSet} {p : Part} (h : p.closeFits s = true) {x : Pole} (hx : s.has x = true) :
    (placeEntries s p).dc.seq.get x = some .PENDING ∧ ⟨.SEQ x, 14⟩ ∈ (placeEntries s p).nu.closes := by
  simp only [placeEntries, h, if_true]
  exact ⟨by simp [hx], applyAll_pendingEntry_closes (by simpa using hx) p⟩

/-- Entries placed together are in one state, and wait as one unit or not at all. -/
theorem placeEntries_unit (s : PoleSet) (p : Part) :
    (∃ e, ∀ x, s.has x = true → (placeEntries s p).dc.seq.get x = e) ∧
      ∀ u ∈ (placeEntries s p).nu.waiting, u ∈ p.nu.waiting ∨ u = s := by
  simp only [placeEntries]
  split
  · refine ⟨⟨some .PENDING, fun x hx => by simp [hx]⟩, fun u hu => .inl ?_⟩
    rwa [applyAll_keeps (fun q => q.nu.waiting) (f := pendingEntry) (fun _ _ => rfl)] at hu
  · refine ⟨⟨some .WAIT_ENERGY, fun x hx => by simp [hx]⟩, fun u hu => ?_⟩
    rw [applyAll_keeps (fun q => q.nu.waiting) (f := setEntry .WAIT_ENERGY) (fun _ _ => rfl)] at hu
    simpa using hu

/-! ### The reclaim timer (R56) -/

/-- The poles whose reclaim timer expires together (R56). -/
def Part.reclaimUnit (p : Part) (x : Pole) : PoleSet := .ofFun fun y => (p.unitOf x).has y && (p.seq y).state == .RECLAIM

theorem reclaimTimerExpiry_resets {p : Part} {x : Pole} {ms : Nat} (hs : (p.seq x).state = .RECLAIM)
    (hr : (p.seq x).reclaim = .running ms) :
    reclaimTimerExpiry x p = enterReport .SEQ_RESET (some (p.reclaimUnit x)) []
      (judgeQuiescence (mapSeq (p.reclaimUnit x) (fun _ r => r.reset) p)) := by
  simp [reclaimTimerExpiry, hs, hr, Reclaim.runs, Part.reclaimUnit]

theorem enterReport_seq (k : ReportKind) (s : Option PoleSet) (b : List Byte) (p : Part) (x : Pole) :
    (enterReport k s b p).seq x = p.seq x := by simp [Part.seq]

end Sys2Proof.Machine
end

section
namespace Sys2Proof.Machine

/-- Settles O38: each timer's pole, or its gang, goes together; the end of the event grants only waiting units. -/
theorem sequenceTimersEnd : Obligations.SequenceTimersEnd := by
  intro x s hon
  have hof := deadTimerExpiry_ofEntries x s.found
  refine ⟨fun hd ht hg => ?_, fun hd ht hg => ?_, fun ms hs hr => ?_⟩
  · have hunit (y : Pole) : (s.found.deadUnit x).has y = true ↔ y = x := by simp [deadUnit_of_alone hd hg]
    have ha : (s.found.seq x).ganged = true → s.found.gangAwaits = false := by simp [hg]
    have placed (hc : expiryCause s.found x = none) := deadTimerExpiry_placed hd ht ha fun y hy => (hunit y).1 hy ▸ hc
    have locked {c : LockCause} (hc : expiryCause s.found x = some c) :
        (deadTimerExpiry x s.found).seq x = (s.found.seq x).locked c := by
      obtain ⟨-, -, h⟩ := deadTimerExpiry_locked hd ht ha ⟨x, (hunit x).2 rfl, by simp [hc]⟩
      simpa [hc] using h x ((hunit x).2 rfl)
    refine ⟨_, event_on hon, ?_, ?_, hof.endEvent_sameExcept, hof.endEvent_poles, fun c hc => ?_, fun hc => ?_⟩
    · rw [endEvent_seq]
      cases hc : expiryCause s.found x with
      | none => rw [((placed hc).2 x ((hunit x).2 rfl)).1]; rfl
      | some c => rw [locked hc]; rfl
    · rw [endEvent_seq]
      cases hc : expiryCause s.found x with
      | none => rw [((placed hc).2 x ((hunit x).2 rfl)).1]; rfl
      | some c => rw [locked hc]; rfl
    · rw [endEvent_seq, locked hc]
      exact ⟨rfl, rfl⟩
    · obtain ⟨hlocked, h⟩ := placed hc
      obtain ⟨hseq, hentry⟩ := h x ((hunit x).2 rfl)
      exact ⟨by rw [endEvent_seq, hseq]; rfl, endEvent_entry_isSome _ _ hentry, hof.endEvent_rs hlocked⟩
  · intro gang hw
    have hgang : gang = s.found.deadUnit x := (deadUnit_of_ganged hg).symm
    clear_value gang
    subst hgang
    have hx : (s.found.deadUnit x).has x = true := by simp [deadUnit_of_ganged hg, hg, hd]
    have hapart {y : Pole} (hy : (s.found.deadUnit x).has y = true) : ∀ u ∈ s.found.nu.waiting, u.has y = false :=
      fun u hu => Bool.eq_false_iff.2 fun h => by simp [(PoleSet.overlaps_false_iff u _).1 (hw u hu) y h] at hy
    have ganged {y : Pole} (hy : (s.found.deadUnit x).has y = true) : (s.found.seq y).ganged = true := by
      simpa using (by simpa [deadUnit_of_ganged hg] using hy : _ ∧ _).1
    have stopped (ha : s.found.gangAwaits = true) := deadTimerExpiry_stopped hd ht hg ha
    have placed (ha : s.found.gangAwaits = false) := deadTimerExpiry_placed hd ht (fun _ => ha)
    have locked (ha : s.found.gangAwaits = false) := deadTimerExpiry_locked hd ht (fun _ => ha)
    have entry {y : Pole} (hy : (s.found.deadUnit x).has y = true) (hdc : (deadTimerExpiry x s.found).dc = s.found.dc)
        (hnu : (deadTimerExpiry x s.found).nu = s.found.nu) :
        (endEvent s.found (deadTimerExpiry x s.found)).dc.seq.get y = s.found.dc.seq.get y := by
      rw [endEvent_entry_of_apart _ _ (by rw [hnu]; exact hapart hy), hdc]
    refine ⟨_, event_on hon, hof.endEvent_sameExcept, hof.endEvent_poles, fun y hy => ?_, fun ha => ⟨?_, fun y hy => ?_⟩,
      fun ha hc => ⟨?_, fun y hy => ?_⟩, fun ha hc y hy => ?_⟩
    · rw [endEvent_seq]
      cases ha : s.found.gangAwaits with
      | true => rw [(stopped ha).2.2 y hy]; exact ⟨rfl, rfl⟩
      | false =>
        by_cases hc : ∀ z, (s.found.deadUnit x).has z = true → expiryCause s.found z = none
        · rw [((placed ha hc).2 y hy).1]; exact ⟨rfl, rfl⟩
        · rw [(locked ha (by simpa using hc)).2.2 y hy]; exact ⟨rfl, rfl⟩
    · refine hof.endEvent_rs (Part.locked_congr fun y => ?_)
      rw [deadTimerExpiry_stops hd ht hg ha, seq_mapSeq]
      split
      · rename_i hy
        simp [SeqRec.deadStopped, deadUnit_dead hy]
      · rfl
    · obtain ⟨hdc, hnu, hseq⟩ := stopped ha
      refine ⟨by rw [endEvent_seq, hseq y hy]; rfl, ?_, entry hy hdc hnu⟩
      rw [endEvent_seq, hseq y hy]
      exact ganged hy
    · exact hof.endEvent_rs (placed ha hc).1
    · obtain ⟨hseq, hsome⟩ := (placed ha hc).2 y hy
      have hq := deadTimerExpiry_places hd ht (fun _ => ha) hc
      obtain ⟨⟨e, he⟩, hunits⟩ := placeEntries_unit (s.found.deadUnit x)
        (mapSeq (s.found.deadUnit x) (fun _ r => r.closeWait) s.found)
      obtain ⟨f, hf⟩ := endEvent_together (s := s.found.deadUnit x) (a := deadTimerExpiry x s.found) s.found
        (fun u hu => (hunits u (hq ▸ hu)).symm.imp_right (hw u)) (e := e) (fun z hz => by rw [hq]; exact he z hz)
      refine ⟨by rw [endEvent_seq, hseq]; rfl, by rw [endEvent_seq, hseq]; exact ganged hy, endEvent_entry_isSome _ _ hsome,
        (hf y hy).trans (hf x hx).symm, fun hfits => ?_⟩
      obtain ⟨hpend, hres⟩ := placeEntries_fits (p := mapSeq (s.found.deadUnit x) (fun _ r => r.closeWait) s.found) hfits hy
      rw [← hq] at hpend hres
      refine ⟨?_, (endEvent_closesGain _ _).mem hres⟩
      rcases endEvent_entry s.found (deadTimerExpiry x s.found) y with h | ⟨-, h⟩
      · exact h.trans hpend
      · exact h
    · obtain ⟨hdc, hnu, hseq⟩ := locked ha hc
      rw [endEvent_seq, hseq y hy]
      exact ⟨rfl, rfl, rfl, entry hy hdc hnu⟩
  · have hq := reclaimTimerExpiry_resets hs hr
    have hseq (y : Pole) : (reclaimTimerExpiry x s.found).seq y =
        if (s.found.reclaimUnit x).has y = true then (s.found.seq y).reset else s.found.seq y := by
      rw [hq, enterReport_seq, judgeQuiescence_seq, seq_mapSeq]
    have hlocked : (reclaimTimerExpiry x s.found).locked = s.found.locked := Part.locked_congr fun y => by
      rw [hseq]
      split
      · rename_i hy
        have hy : (s.found.seq y).state = .RECLAIM := by simpa using (by simpa [Part.reclaimUnit] using hy : _ ∧ _).2
        simp [SeqRec.reset, hy]
      · rfl
    refine ⟨_, event_on hon, by simp [hq], ?_, fun y => ?_⟩
    · exact sameExcept_of (by simp) (by simp [hq]) (by simp [hq]) (by simp [hq]) (by simp [hq]) (by simp [hq])
        (.inr (by simp [hq])) (.inr (by rw [endEvent_of_same hlocked]; simp [hq]))
    · rw [endEvent_seq, hseq]
      simp [Part.reclaimUnit, SeqRec.reset]

end Sys2Proof.Machine
end

section
/-! PROOFS. What the end of an operation and a change of contacts leave of the close entries and of the contacts (R2, R14, R16). -/

namespace Sys2Proof.Machine

theorem mapSeq_givesWay (s : PoleSet) (f : Pole → SeqRec → SeqRec) (p : Part) : GivesWay p (mapSeq s f p) := .of_same rfl rfl

theorem noteAndTrip_givesWay (s : PoleSet) (n : EndNote) (c : OpCause) (p : Part) : GivesWay p (noteAndTrip s n c p) := by
  simp only [noteAndTrip, seqTrip]
  split
  · exact .refl p
  · exact GivesWay.trans (.of_same (by simp) (by simp)) (takeTrip_givesWay _ _ _ _ _)

theorem blindCheck_givesWay (p : Part) : GivesWay p (blindCheck p) := by
  simp only [blindCheck]
  split
  · exact noteAndTrip_givesWay _ _ _ _
  · exact .refl p

/-! ### The end of an operation (R14) -/

theorem lockWithGang_givesWay (c : LockSet) (b : Bool) (p : Part) : GivesWay p (lockWithGang c b p) := by
  simp only [lockWithGang]
  split
  · exact (enterLockout_givesWay _ _).trans (noteAndTrip_givesWay _ _ _ _)
  · exact enterLockout_givesWay _ _

theorem sqTripEnd_givesWay (f : Flight) (p : Part) : GivesWay p (sqTripEnd f p) := by
  have hbefore : GivesWay p (mapSeq f.op.poles (settleRec f (countShots f p)) (countShots f p)) :=
    .of_same (by simp) (by simp)
  have hlock := lockWithGang_givesWay (tripEndLocks f (countShots f p)) (tripEndIsSequence f (countShots f p))
    (mapSeq f.op.poles (settleRec f (countShots f p)) (countShots f p))
  exact (hbefore.trans hlock).trans (.of_same (by simp [sqTripEnd]) (by simp [sqTripEnd]))

theorem coldLoadTest_givesWay (s : PoleSet) (p : Part) : GivesWay p (coldLoadTest s p) := .of_same (by simp) (by simp)

theorem sqRecloseEnd_givesWay (f : Flight) (r : OpResult) (p : Part) : GivesWay p (sqRecloseEnd f r p) := by
  simp only [sqRecloseEnd]
  split
  · exact ((mapSeq_givesWay _ _ p).trans (lockWithGang_givesWay _ _ _)).trans (coldLoadTest_givesWay _ _)
  · exact (mapSeq_givesWay _ _ p).trans (lockWithGang_givesWay _ _ _)

theorem sqManualEnd_givesWay (f : Flight) (r : OpResult) (p : Part) : GivesWay p (sqManualEnd f r p) := by
  simp only [sqManualEnd]
  split
  · exact ((mapSeq_givesWay _ _ p).trans (enterLockout_givesWay _ _)).trans (coldLoadTest_givesWay _ _)
  · exact (mapSeq_givesWay _ _ p).trans (enterLockout_givesWay _ _)

theorem sqOperationEnd_givesWay (f : Flight) (r : OpResult) (p : Part) : GivesWay p (sqOperationEnd f r p) := by
  unfold sqOperationEnd
  split
  · exact sqTripEnd_givesWay f p
  · exact sqRecloseEnd_givesWay f r p
  · exact sqManualEnd_givesWay f r p

theorem clearHandle_givesWay (f : Flight) (r : OpResult) (p : Part) : GivesWay p (clearHandle f r p) := by
  simp only [clearHandle]
  split
  · exact mapPoles_givesWay (f := fun _ r => { r with handle := false }) (fun _ _ => rfl) p
  · exact .refl p

theorem finish_givesWay (f : Flight) (r : OpResult) (p : Part) : GivesWay p (finish f r p) :=
  ((((endFirst_givesWay f p).trans (sqOperationEnd_givesWay f r _)).trans (endLast_givesWay f r _)).trans
    (clearHandle_givesWay f r _)).trans (driveFreed_givesWay _)

/-! ### A change of contacts (R2, R17, R18) -/

theorem flightContact_givesWay (x : Pole) (new : Position) (p : Part) : GivesWay p (flightContact x new p) := by
  simp only [flightContact]
  split
  · split
    · exact finish_givesWay _ _ p
    · exact { GivesWay.refl p with }
  · exact .refl p

theorem setPole_givesWay {p : Part} {x : Pole} {r : PoleRec} (h : r.inputs = (p.dc.poles.get x).inputs) :
    GivesWay p (p.setPole x r) :=
  .of_entries rfl rfl rfl rfl (fun _ => id) fun y => by
    rw [Part.poles_setPole]
    split
    · rename_i hy
      rw [hy, h]
    · rfl

theorem setSeq_givesWay (p : Part) (x : Pole) (r : SeqRec) : GivesWay p (p.setSeq x r) := .of_same rfl rfl

theorem enterReport_givesWay (k : ReportKind) (s : Option PoleSet) (b : List Byte) (p : Part) :
    GivesWay p (enterReport k s b p) := .of_same (by simp) (by simp)

theorem judgeQuiescence_givesWay (p : Part) : GivesWay p (judgeQuiescence p) := .of_same rfl rfl

theorem uncommandedOpening_givesWay (x : Pole) (p : Part) : GivesWay p (uncommandedOpening x p) := by
  have hset : GivesWay p (p.setPole x { (p.dc.poles.get x).counted with handle := true }) := setPole_givesWay rfl
  exact ((hset.trans (enterReport_givesWay _ _ _ _)).trans (enterLockout_givesWay _ _)).trans (setSeq_givesWay _ _ _)

/-- The part of an uncommanded closing before a trip back (R18, R66). -/
def closedPart (x : Pole) (p : Part) : Part :=
  let t := enterReport .CLOSE_DONE (some (.single x)) [0, 0, 0, 0, 1]
    (clearEntries (.single x) (p.setPole x { (p.dc.poles.get x).counted with handle := false }))
  judgeQuiescence (t.setSeq x ((t.seq x).handClosed (t.sq.pickup.has x)))

theorem uncommandedClosing_eq (x : Pole) (p : Part) : uncommandedClosing x p =
    if (closedPart x p).tu.hotLine && (closedPart x p).sqOk && (closedPart x p).isRun
    then noteAndTrip (.single x) .HOT_LINE .HOT_LINE_FAILSAFE (closedPart x p) else closedPart x p := rfl

/-- The part with the entries that an uncommanded closing ends, ended. -/
def closedEntries (x : Pole) (p : Part) : Part :=
  clearEntries (.single x) (p.setPole x { (p.dc.poles.get x).counted with handle := false })

theorem closedPart_givesWay_of_cleared (x : Pole) (p : Part) : GivesWay (closedEntries x p) (closedPart x p) :=
  ((enterReport_givesWay _ _ _ _).trans (setSeq_givesWay _ _ _)).trans (judgeQuiescence_givesWay _)

theorem closedEntries_givesWay (x : Pole) (p : Part) : GivesWay p (closedEntries x p) := by
  have hset : GivesWay p (p.setPole x { (p.dc.poles.get x).counted with handle := false }) := setPole_givesWay rfl
  exact hset.trans (clearEntries_givesWay _ _)

theorem uncommandedClosing_givesWay_of_cleared (x : Pole) (p : Part) :
    GivesWay (closedEntries x p) (uncommandedClosing x p) := by
  rw [uncommandedClosing_eq]
  split
  · exact (closedPart_givesWay_of_cleared x p).trans (noteAndTrip_givesWay _ _ _ _)
  · exact closedPart_givesWay_of_cleared x p

theorem uncommanded_givesWay (x : Pole) (back : Bool) (new : Position) (p : Part) : GivesWay p (uncommanded x back new p) := by
  unfold uncommanded
  split
  · split
    · exact .refl p
    · exact uncommandedOpening_givesWay x p
  · exact (closedEntries_givesWay x p).trans (uncommandedClosing_givesWay_of_cleared x p)
  · exact .refl p

/-- The part with the inputs of a pole as they now stand and its open counts moved (R2, R62). -/
def movedPart (x : Pole) (a b coil : Bool) (p : Part) : Part :=
  let q := setInputs x a b coil p
  q.setSeq x ((q.seq x).moved (p.position x) (positionOf a b))

section
variable (x : Pole) (a b coil : Bool) (p : Part)

theorem setInputs_pole : (setInputs x a b coil p).dc.poles.get x = (p.dc.poles.get x).contacts a b := by
  simp [setInputs, Part.setPole]

theorem setInputs_position : (setInputs x a b coil p).position x = positionOf a b := by
  rw [Part.position, setInputs_pole]
  rfl

theorem contactChange_same (h : p.position x = positionOf a b) : contactChange x a b coil p = setInputs x a b coil p := by
  simp only [contactChange, setInputs_position, h, if_true]

theorem contactChange_changed (h : p.position x ≠ positionOf a b) : contactChange x a b coil p =
    let t := if (p.dc.poles.get x).motion = .NONE
      then uncommanded x (p.dc.poles.get x).backToOpen (positionOf a b) (movedPart x a b coil p)
      else flightContact x (positionOf a b) (movedPart x a b coil p)
    if positionOf a b = .OPEN then t else blindCheck t := by
  simp only [contactChange, setInputs_position, h, if_false, movedPart]

theorem contactChange_givesWay : GivesWay (setInputs x a b coil p) (contactChange x a b coil p) := by
  by_cases h : p.position x = positionOf a b
  · rw [contactChange_same x a b coil p h]
    exact .refl _
  · have hmoved : GivesWay (setInputs x a b coil p) (movedPart x a b coil p) := setSeq_givesWay _ _ _
    rw [contactChange_changed x a b coil p h]
    dsimp only
    split <;> split
    · exact hmoved.trans (uncommanded_givesWay _ _ _ _)
    · exact hmoved.trans (flightContact_givesWay _ _ _)
    · exact (hmoved.trans (uncommanded_givesWay _ _ _ _)).trans (blindCheck_givesWay _)
    · exact (hmoved.trans (flightContact_givesWay _ _ _)).trans (blindCheck_givesWay _)

end

end Sys2Proof.Machine
end

section
/-! PROOFS. What a trip request of the Sequencer's own leaves of a pole that a close in flight has not fired, and of a sequence
record at rest; the frames of a contact change (R13, R17, R18, R69). -/

namespace Sys2Proof.Machine

/-! ### The record of a pole that no close in flight has fired (R13) -/

/-- A close in flight has neither fired nor moved the pole. -/
def Part.Apart (p : Part) (x : Pole) : Prop :=
  ∀ f, p.dc.flight = some f → f.op.kind = .CLOSE → f.fire.has x = false ∧ f.moved.has x = false

/-- The pole keeps its record, and stays apart from a close in flight. -/
def Spares (x : Pole) (p q : Part) : Prop := p.Apart x → q.dc.poles.get x = p.dc.poles.get x ∧ q.Apart x

section
variable {x : Pole} {p q r : Part}

theorem Spares.trans (h : Spares x p q) (k : Spares x q r) : Spares x p r := fun hp => by
  obtain ⟨hq, haq⟩ := h hp
  obtain ⟨hr, har⟩ := k haq
  exact ⟨hr.trans hq, har⟩

theorem Spares.of_body (h : q.dc.body = p.dc.body) : Spares x p q := fun hp => by
  refine ⟨by rw [Drive.poles_of_body h], fun f hf => hp f ?_⟩
  rwa [← Drive.flight_of_body h]

theorem supersede_spares (x : Pole) (p : Part) : Spares x p (supersede p) := by
  intro hp
  unfold supersede
  split
  · rename_i f hf
    split
    · rename_i hk
      obtain ⟨hfire, hmoved⟩ := hp f hf hk
      have htake : (takeClosing f.fire p).dc.poles = p.dc.poles := by
        cases h : p.dc.trip <;> simp [takeClosing, h]
      have hfree : (endSuperseded f (takeClosing f.fire p)).dc.flight = none := by
        simpa [endSuperseded, pushHistory] using Drive.flight_of_bare (endFirst_bare f (takeClosing f.fire p))
      refine ⟨?_, fun g hg => by simp [hfree] at hg⟩
      rw [← htake, ← endFirst_poles_of_apart hfire hmoved (takeClosing f.fire p)]
      simp [endSuperseded, pushHistory]
    · exact ⟨rfl, hp⟩
  · exact ⟨rfl, hp⟩

theorem mergeTrip_spares (x : Pole) (s : PoleSet) (e : ReqEntry) (p : Part) : Spares x p (mergeTrip s e p).1 := by
  simp only [mergeTrip]
  split
  · exact (Spares.of_body (joinPending_body _ e p)).trans (supersede_spares x _)
  · split
    · rename_i f hf
      split
      · exact .of_body rfl
      · refine fun hp => ⟨rfl, fun g hg hk => ?_⟩
        obtain rfl : { f with op := f.op.addRequester e } = g := by simpa using hg
        exact hp f hf hk
    · exact .of_body rfl

theorem addTrip_spares (x : Pole) (s : PoleSet) (p : Part) : Spares x p (addTrip s p) := by
  simp only [addTrip]
  split
  · exact .of_body rfl
  · exact (Spares.of_body (clearEntries_body s p)).trans (mergeTrip_spares x _ _ _)

theorem takeTrip_spares (x : Pole) (s : PoleSet) (c : OpCause) (w : Requester) (t : Option Byte) (p : Part) :
    Spares x p (takeTrip s c w t p).1 := by
  by_cases h : p.bc.partState = .RUN ∧ s.isEmpty = false
  · have hreport : Spares x p (reportedTrip s c w p).1 := .of_body (reportedTrip_body s c w p)
    have hmerge : Spares x _ (mergedTrip s c w t p).1 := mergeTrip_spares x s ⟨w, c, s, t⟩ (reportedTrip s c w p).1
    exact ((hreport.trans hmerge).trans (addTrip_spares x _ _)).trans
      (.of_body (by rw [takeTrip_dc h.1 h.2]))
  · rw [takeTrip_of_none h]
    exact .of_body rfl

theorem noteAndTrip_spares (x : Pole) (s : PoleSet) (n : EndNote) (c : OpCause) (p : Part) :
    Spares x p (noteAndTrip s n c p) := by
  simp only [noteAndTrip, seqTrip]
  split
  · exact .of_body rfl
  · exact Spares.trans (.of_body (by simp)) (takeTrip_spares x _ _ _ _ _)

theorem blindCheck_spares (x : Pole) (p : Part) : Spares x p (blindCheck p) := by
  simp only [blindCheck]
  split
  · exact noteAndTrip_spares x _ _ _ _
  · exact .of_body rfl

end

/-! ### A sequence record at rest (R48, R60) -/

/-- A record that does not wait for a reclose (R60). -/
def SeqRec.atRest (r : SeqRec) : Prop := r.state ≠ .DEAD ∧ r.state ≠ .CLOSE_WAIT

/-- A record at rest keeps its state, its shot, its lockout cause and its reclaim timer. -/
def Rests (x : Pole) (p q : Part) : Prop := (p.seq x).atRest →
  (q.seq x).state = (p.seq x).state ∧ (q.seq x).shot = (p.seq x).shot ∧ (q.seq x).lockout = (p.seq x).lockout ∧
    (q.seq x).reclaim = (p.seq x).reclaim

section
variable {x : Pole} {p q r : Part}

theorem Rests.of_seq (h : q.seq x = p.seq x) : Rests x p q := fun _ => by rw [h]; exact ⟨rfl, rfl, rfl, rfl⟩

theorem Rests.trans (h : Rests x p q) (k : Rests x q r) : Rests x p r := fun hp => by
  obtain ⟨hs, hn, hl, hr⟩ := h hp
  obtain ⟨ks, kn, kl, kr⟩ := k (by simpa [SeqRec.atRest, hs] using hp)
  exact ⟨ks.trans hs, kn.trans hn, kl.trans hl, kr.trans hr⟩

theorem SeqRec.atRest.not_wait (h : (p.seq x).atRest) : p.waitingPoles.has x = false := by
  simp [Part.waitingPoles, Part.unfired, h.1, h.2]

/-- A lockout of waiting poles leaves the records at rest. -/
theorem enterLockout_rests {s : PoleSet} (c : LockCause) (hs : (p.seq x).atRest → s.has x = false) :
    Rests x p (enterLockout (.of s c) p) := fun hp => by
  have hget : (p.newLocks (.of s c)).get x = none := by simp [Part.newLocks, LockSet.of, hs hp]
  rw [enterLockout_seq, hget]
  exact ⟨rfl, rfl, rfl, rfl⟩

theorem notePoles_rests (s : PoleSet) (n : EndNote) (p : Part) : Rests x p (notePoles s n p) := fun _ => by
  rw [notePoles, seq_mapSeq]
  split
  · simp only [SeqRec.note]
    split <;> exact ⟨rfl, rfl, rfl, rfl⟩
  · exact ⟨rfl, rfl, rfl, rfl⟩

theorem clearEntries_rests (s : PoleSet) (p : Part) : Rests x p (clearEntries s p) := fun hp => by
  rw [clearEntries_seq hp.2]
  exact ⟨rfl, rfl, rfl, rfl⟩

theorem coilChecks_rests (s : PoleSet) (p : Part) : Rests x p (coilChecks s p) := by
  have hmech (xs : List Pole) : (applyAll (setMech .COIL_OPEN) xs p).seq x = p.seq x :=
    applyAll_keeps (f := setMech .COIL_OPEN) (·.seq x) (fun y q => by simp [Part.seq]) xs p
  exact (Rests.of_seq (hmech _)).trans (enterLockout_rests _ fun hp => by simp [hp.not_wait])

theorem endFirst_rests (f : Flight) (p : Part) : Rests x p (endFirst f p) := by
  have hbefore : Rests x p (clearMotion f.fire (beginEnd p)) := .of_seq rfl
  have hcount (q : Part) : Rests x q (countAndWear f q) := .of_seq (by simp [Part.seq])
  exact (hbefore.trans (coilChecks_rests _ _)).trans (hcount _)

theorem endSuperseded_rests (f : Flight) (p : Part) : Rests x p (endSuperseded f p) := by
  have hmark (q : Part) : Rests x q (markSuperseded f.op q) := fun _ => by
    simp only [markSuperseded]
    split
    · rw [seq_mapSeq]
      split
      · simp only [SeqRec.markSuperseded]
        split <;> exact ⟨rfl, rfl, rfl, rfl⟩
      · exact ⟨rfl, rfl, rfl, rfl⟩
    · exact ⟨rfl, rfl, rfl, rfl⟩
  have hlast (q : Part) : Rests x q (driveFreed (endLast f .SUPERSEDED q)) :=
    .of_seq (by simp only [driveFreed, judgeQuiescence_seq]; simp [endLast, pushHistory, Part.seq])
  exact ((endFirst_rests f p).trans (hmark _)).trans (hlast _)

theorem supersede_rests (p : Part) : Rests x p (supersede p) := by
  unfold supersede
  split
  · split
    · exact Rests.trans (.of_seq (by simp [Part.seq])) (endSuperseded_rests _ _)
    · exact .of_seq rfl
  · exact .of_seq rfl

theorem mergeTrip_rests (s : PoleSet) (e : ReqEntry) (p : Part) : Rests x p (mergeTrip s e p).1 := by
  simp only [mergeTrip]
  split
  · exact Rests.trans (.of_seq (by simp [Part.seq])) (supersede_rests _)
  · split
    · split
      · exact .of_seq rfl
      · exact .of_seq rfl
    · exact .of_seq rfl

@[simp] theorem notePoles_state (s : PoleSet) (n : EndNote) (p : Part) : ((notePoles s n p).seq x).state = (p.seq x).state := by
  rw [notePoles, seq_mapSeq]
  split
  · simp only [SeqRec.note]
    split <;> rfl
  · rfl

theorem sqCommandReport_rests (s : PoleSet) (c : OpCause) (n : EndNote) (p : Part) : Rests x p (sqCommandReport s c n p) := by
  refine (notePoles_rests _ n p).trans (enterLockout_rests _ fun hq => ?_)
  have hwait := SeqRec.atRest.not_wait (p := p) (x := x) (by simpa [SeqRec.atRest] using hq)
  split <;> simp [hwait]

/-- The Sequencer's report of a trip with an end note adds no pole. -/
theorem sqTripReport_of_note {c : OpCause} {n : EndNote} (hc : c.note = some n) (s : PoleSet) (w : Requester) (p : Part) :
    sqTripReport s c w p = (sqCommandReport s c n p, .empty) := by simp [sqTripReport, hc]

/-- A trip request with an end note leaves the records at rest (R59, R69). -/
theorem takeTrip_rests {c : OpCause} (hc : c.note.isSome = true) (s : PoleSet) (w : Requester) (t : Option Byte) (p : Part) :
    Rests x p (takeTrip s c w t p).1 := by
  obtain ⟨n, hn⟩ := Option.isSome_iff_exists.1 hc
  by_cases h : p.bc.partState = .RUN ∧ s.isEmpty = false
  · have hreport : Rests x p (reportedTrip s c w p).1 := by
      rw [reportedTrip, sqTripReport_of_note hn]
      exact (clearEntries_rests s p).trans (sqCommandReport_rests _ _ _ _)
    have hmerge : Rests x _ (mergedTrip s c w t p).1 := mergeTrip_rests s ⟨w, c, s, t⟩ (reportedTrip s c w p).1
    have hadded : (reportedTrip s c w p).2 = .empty := by rw [reportedTrip, sqTripReport_of_note hn]
    have hempty : PoleSet.empty.isEmpty = true := by decide
    refine (hreport.trans hmerge).trans (.of_seq ?_)
    rw [takeTrip_of_run h.1 h.2, hadded]
    simp [addTrip, hempty, hn]
  · rw [takeTrip_of_none h]
    exact .of_seq rfl

theorem noteAndTrip_rests (s : PoleSet) (n : EndNote) {c : OpCause} (hc : c.note.isSome = true) (p : Part) :
    Rests x p (noteAndTrip s n c p) := by
  simp only [noteAndTrip, seqTrip]
  split
  · exact .of_seq rfl
  · exact (notePoles_rests s n p).trans (takeTrip_rests hc _ _ _ _)

theorem blindCheck_rests (p : Part) : Rests x p (blindCheck p) := by
  simp only [blindCheck]
  split
  · exact noteAndTrip_rests _ _ rfl p
  · exact .of_seq rfl

end

end Sys2Proof.Machine
end

section
/-! PROOFS. A change of contacts (R2, R17, R18, R66; O32). -/

namespace Sys2Proof.Machine

/-! ### Frames -/

theorem sameExcept.trans {bs : List Block} {p q r : Part} (h : sameExcept bs p q) (k : sameExcept bs q r) :
    sameExcept bs p r := fun b hb => by
  have hpq := h b hb
  have hqr := k b hb
  cases b <;> exact hqr.trans hpq

theorem sameExcept.refl (bs : List Block) (p : Part) : sameExcept bs p p := fun b _ => by cases b <;> rfl

section
variable (x : Pole) (p : Part)

theorem uncommandedOpening_sameExcept : sameExcept (.rs :: .pu :: Block.watch) p (uncommandedOpening x p) := by
  intro b hb
  cases b <;> simp [Block.watch] at hb <;> simp [Block.same, uncommandedOpening]

theorem uncommandedClosing_sameExcept : sameExcept (.rs :: .pu :: Block.watch) p (uncommandedClosing x p) := by
  intro b hb
  rw [uncommandedClosing_eq]
  split <;> cases b <;> simp [Block.watch] at hb <;> simp [Block.same, closedPart]

theorem uncommanded_sameExcept (back : Bool) (new : Position) :
    sameExcept (.rs :: .pu :: Block.watch) p (uncommanded x back new p) := by
  unfold uncommanded
  split
  · split
    · exact .refl _ p
    · exact uncommandedOpening_sameExcept x p
  · exact uncommandedClosing_sameExcept x p
  · exact .refl _ p

theorem flightContact_sameExcept (new : Position) : sameExcept (.rs :: .pu :: Block.watch) p (flightContact x new p) := by
  intro b hb
  simp only [flightContact]
  split
  · split <;> cases b <;> simp [Block.watch] at hb <;> simp [Block.same]
  · cases b <;> rfl

theorem blindCheck_sameExcept : sameExcept (.rs :: .pu :: Block.watch) p (blindCheck p) := by
  intro b hb
  cases b <;> simp [Block.watch] at hb <;> simp [Block.same]

theorem movedPart_sameExcept (a b coil : Bool) : sameExcept (.rs :: .pu :: Block.watch) p (movedPart x a b coil p) := by
  intro b hb
  cases b <;> simp [Block.watch] at hb <;> rfl

theorem contactChange_sameExcept (a b coil : Bool) :
    sameExcept (.rs :: .pu :: Block.watch) p (contactChange x a b coil p) := by
  have hmoved := movedPart_sameExcept x p a b coil
  by_cases h : p.position x = positionOf a b
  · rw [contactChange_same x a b coil p h]
    intro c hc
    cases c <;> simp [Block.watch] at hc <;> rfl
  · rw [contactChange_changed x a b coil p h]
    dsimp only
    split <;> split
    · exact hmoved.trans (uncommanded_sameExcept x _ _ _)
    · exact hmoved.trans (flightContact_sameExcept x _ _)
    · exact (hmoved.trans (uncommanded_sameExcept x _ _ _)).trans (blindCheck_sameExcept _)
    · exact (hmoved.trans (flightContact_sameExcept x _ _)).trans (blindCheck_sameExcept _)

end

/-! ### The inputs as a contact change finds them -/

section
variable (x : Pole) (a b coil : Bool) (p : Part)

theorem movedPart_pole : (movedPart x a b coil p).dc.poles.get x = (p.dc.poles.get x).contacts a b :=
  setInputs_pole x a b coil p

theorem movedPart_flight : (movedPart x a b coil p).dc.flight = p.dc.flight := rfl

theorem movedPart_seq : (movedPart x a b coil p).seq x = (p.seq x).moved (p.position x) (positionOf a b) := by
  simp [movedPart, setInputs, Part.setPole, Part.seq, Part.setSeq]

theorem contactChange_inputs :
    ((contactChange x a b coil p).dc.poles.get x).inputs = ((p.dc.poles.get x).contacts a b).inputs := by
  rw [(contactChange_givesWay x a b coil p).inputs x, setInputs_pole]

end

theorem SeqRec.moved_rest (r : SeqRec) (old new : Position) :
    (r.moved old new).state = r.state ∧ (r.moved old new).shot = r.shot := by
  simp only [SeqRec.moved]
  split <;> split <;> exact ⟨rfl, rfl⟩

/-! ### An uncommanded opening (R17) -/

section
variable {x : Pole} {a b coil : Bool} {p : Part}

theorem contactChange_opens (h : p.position x ≠ .OPEN) (hn : positionOf a b = .OPEN)
    (hm : (p.dc.poles.get x).motion = .NONE) : contactChange x a b coil p =
      if (p.dc.poles.get x).backToOpen then movedPart x a b coil p else uncommandedOpening x (movedPart x a b coil p) := by
  rw [contactChange_changed x a b coil p (by rw [hn]; exact h), hn]
  simp [hm, uncommanded]

theorem PoleRec.backToOpen_iff (r : PoleRec) :
    r.backToOpen = true ↔ r.handle = true ∧ r.position ≠ .CLOSED ∧ r.closedSince = false := by
  simp [PoleRec.backToOpen, and_assoc]

theorem uncommandedOpening_pole (x : Pole) (p : Part) :
    (uncommandedOpening x p).dc.poles.get x = { (p.dc.poles.get x).counted with handle := true } := by
  simp [uncommandedOpening, Part.setSeq]

/-- A pole named by a lockout is in LOCKOUT. -/
theorem enterLockout_state {s : PoleSet} (h : s.has x = true) (c : LockCause) (p : Part) :
    ((enterLockout (.of s c) p).seq x).state = .LOCKOUT := by
  rw [enterLockout_seq]
  by_cases hl : (p.seq x).state = .LOCKOUT <;> simp [Part.newLocks, LockSet.of, h, hl, SeqRec.locked]

theorem uncommandedOpening_state (x : Pole) (p : Part) : ((uncommandedOpening x p).seq x).state = .LOCKOUT := by
  simpa [uncommandedOpening] using enterLockout_state (by simp) .HANDLE _

theorem uncommandedOpening_free (x : Pole) (p : Part) : (uncommandedOpening x p).dc.flight = p.dc.flight ∧
    (uncommandedOpening x p).dc.history = p.dc.history := by
  simp [uncommandedOpening, Part.setSeq]

end

/-! ### An uncommanded closing (R18) -/

section
variable {x : Pole} {p : Part}

theorem contactChange_closes {a b coil : Bool} (h : p.position x ≠ .CLOSED) (hn : positionOf a b = .CLOSED)
    (hm : (p.dc.poles.get x).motion = .NONE) :
    contactChange x a b coil p = blindCheck (uncommandedClosing x (movedPart x a b coil p)) := by
  rw [contactChange_changed x a b coil p (by rw [hn]; exact h), hn]
  simp [hm, uncommanded]

theorem closedEntries_pole (x : Pole) (p : Part) :
    (closedEntries x p).dc.poles.get x = { (p.dc.poles.get x).counted with handle := false } := by
  rw [closedEntries, Drive.poles_of_body (clearEntries_body _ _)]
  simp

theorem closedEntries_free (x : Pole) (p : Part) : (closedEntries x p).dc.flight = p.dc.flight ∧
    (closedEntries x p).dc.history = p.dc.history := by
  rw [closedEntries, Drive.flight_of_body (clearEntries_body _ _), Drive.history_of_body (clearEntries_body _ _)]
  exact ⟨rfl, rfl⟩

theorem closedPart_dc (x : Pole) (p : Part) : (closedPart x p).dc = (closedEntries x p).dc := by
  simp [closedPart, closedEntries, Part.setSeq]

theorem clearEntries_pickup (s : PoleSet) (p : Part) : (clearEntries s p).sq.pickup = p.sq.pickup := by
  have hcancel (y : Pole) (q : Part) : (cancelSeq y q).sq.pickup = q.sq.pickup := by
    simp only [cancelSeq]
    split <;> rfl
  simp only [clearEntries, judgeQuiescence_sq_pickup, cancelEntries]
  rw [applyAll_keeps (f := cancelSeq) (·.sq.pickup) hcancel, endLinkEntries_sq]

theorem closedPart_seq (x : Pole) (p : Part) :
    ((closedPart x p).seq x).state = (if p.sq.pickup.has x then .TIMING else .CLOSED_IDLE) ∧
      ((closedPart x p).seq x).shot = 0 := by
  simp [closedPart, SeqRec.handClosed, clearEntries_pickup, Part.setPole]

theorem uncommandedClosing_spares (x : Pole) (p : Part) : Spares x (closedPart x p) (uncommandedClosing x p) := by
  rw [uncommandedClosing_eq]
  split
  · exact noteAndTrip_spares x _ _ _ _
  · exact .of_body rfl

theorem uncommandedClosing_rests (x : Pole) (p : Part) : Rests x (closedPart x p) (uncommandedClosing x p) := by
  rw [uncommandedClosing_eq]
  split
  · exact noteAndTrip_rests _ _ rfl _
  · exact .of_seq rfl

theorem closedPart_atRest (x : Pole) (p : Part) : ((closedPart x p).seq x).atRest := by
  rw [SeqRec.atRest, (closedPart_seq x p).1]
  split <;> decide

/-- No close in flight has fired a pole whose motion is NONE. -/
theorem closedPart_apart {a b coil : Bool} (h : p.dc.Ok) (hm : (p.dc.poles.get x).motion = .NONE) :
    (closedPart x (movedPart x a b coil p)).Apart x := by
  intro f hf hk
  rw [closedPart_dc, (closedEntries_free x _).1, movedPart_flight] at hf
  have hmoves := h.moves hf x
  have hfire : f.fire.has x = false := Bool.eq_false_iff.2 fun hx => by simp [Flight.Moves, hx, hk, hm] at hmoves
  exact ⟨hfire, Bool.eq_false_iff.2 fun hx => by simp [(h.flight f hf).moved x hx] at hfire⟩

theorem PoleSet.overlaps_single (s : PoleSet) (x : Pole) : s.overlaps (.single x) = s.has x := by
  cases hx : s.has x with
  | true =>
    have hne : (s.inter (.single x)).isEmpty = false := (PoleSet.isEmpty_false_iff _).2 ⟨x, by simp [hx]⟩
    simp [PoleSet.overlaps, hne]
  | false =>
    rw [PoleSet.overlaps_false_iff]
    intro y hy
    simp only [PoleSet.has_single, beq_eq_false_iff_ne]
    rintro rfl
    simp [hx] at hy

/-- Without a HOT_LINE tag an uncommanded closing trips nothing. -/
theorem uncommandedClosing_of_cold (h : p.tu.hotLine = false) : blindCheck (uncommandedClosing x p) = closedPart x p := by
  have hu : (closedPart x p).tu.hotLine = false := by simpa [closedPart] using h
  rw [uncommandedClosing_eq, if_neg (by simp [hu]), blindCheck, if_neg (by simp [hu])]

theorem endLinkEntries_dc_seq (s : PoleSet) (r : OpResult) (p : Part) : (endLinkEntries s r p).dc.seq = p.dc.seq := by
  have hcrew (q : Part) : (endCrewEntry r q).dc.seq = q.dc.seq := by
    cases h : q.dc.crew <;> simp [endCrewEntry, h]
  have hradio (q : Part) : (endRadioEntry r q).dc.seq = q.dc.seq := by
    cases h : q.dc.radio <;> simp [endRadioEntry, h]
  simp only [endLinkEntries]
  split <;> split <;> simp [hcrew, hradio]

/-- A pole whose entry is cancelled has no place in the waiting order. -/
theorem applyAll_cancelSeq_apart {xs : List Pole} (hx : x ∈ xs) (p : Part) :
    ∀ u ∈ (applyAll cancelSeq xs p).nu.waiting, u.has x = false := by
  induction xs generalizing p with
  | nil => simp at hx
  | cons y ys ih =>
    rcases List.mem_cons.1 hx with rfl | hx
    · have hnu : (cancelSeq x p).nu.waiting = dropWaiting x p.nu.waiting := by
        simp only [cancelSeq]
        split <;> rfl
      refine (GivesWay.applyAll cancelSeq_givesWay ys (cancelSeq x p)).apart fun u hu => ?_
      rw [hnu] at hu
      simp only [dropWaiting, List.mem_filter, List.mem_map] at hu
      obtain ⟨⟨v, -, rfl⟩, -⟩ := hu
      simp
    · exact ih hx _

/-- The close entries on a pole that has closed are gone: no entry of its own, and no place in the waiting order. -/
theorem closedEntries_gone (h : ∀ u ∈ p.nu.waiting, ∀ y, u.has y = true → (p.dc.seq.get y).isSome = true) :
    (closedEntries x p).dc.seq.get x = none ∧ ∀ u ∈ (closedEntries x p).nu.waiting, u.has x = false := by
  refine ⟨clearEntries_dc_seq _ _ (by simp), ?_⟩
  cases he : p.dc.seq.get x with
  | none => exact (closedEntries_givesWay x p).apart fun u hu => Bool.eq_false_iff.2 fun hx => by simpa [he] using h u hu x hx
  | some e =>
    rw [closedEntries, clearEntries, judgeQuiescence_nu, cancelEntries]
    exact applyAll_cancelSeq_apart (by simp [Drive.seqPoles, endLinkEntries_dc_seq, Part.setPole, he]) _

end

end Sys2Proof.Machine
end

section
namespace Sys2Proof.Machine

theorem reset_driveSane : State.reset.part.driveSane = true := by decide +kernel

/-- Settles O32: the contacts are set once and kept by all that follows; a pole with motion NONE is judged by R17 and R18, and a
trip that follows spares it, for no close in flight has fired it. -/
theorem contactsSetPosition : Obligations.ContactsSetPosition := by
  refine ⟨fun x a b coil s hon hsane => ?_, fun s t h e => step_driveSane h e, reset_driveSane⟩
  have hinputs := contactChange_inputs x a b coil s.found
  simp only [PoleRec.inputs, Prod.mk.injEq] at hinputs
  obtain ⟨ha, hb, hsince⟩ := hinputs
  refine ⟨_, event_on hon, ?_, ?_, by rw [endEvent_dc_poles, ha]; rfl, by rw [endEvent_dc_poles, hb]; rfl,
    by rw [endEvent_dc_poles, hsince]; rfl, fun hp hn hm hhandle hpos hback => ?_, fun hp hn hm hfresh => ?_,
    fun hp hn hm => ?_⟩
  · rw [Part.position, endEvent_dc_poles, PoleRec.position, ha, hb]
    rfl
  · refine (contactChange_sameExcept x s.found a b coil).trans (sameExcept_of (by decide) ?_ ?_ ?_ ?_ ?_ (.inl (by decide))
      (.inl (by decide))) <;> simp
  · have hq := (contactChange_opens (coil := coil) hp hn hm).trans
      (if_pos ((PoleRec.backToOpen_iff _).2 ⟨hhandle, by rw [Part.position] at hpos; simp [hpos], hback⟩))
    rw [endEvent_dc_poles, endEvent_seq, endEvent_dc_flight, endEvent_dc_history, hq, movedPart_pole, movedPart_seq]
    exact ⟨hhandle, rfl, (SeqRec.moved_rest _ _ _).1, rfl, rfl⟩
  · have hback : ¬ (s.found.dc.poles.get x).backToOpen = true := by
      rw [PoleRec.backToOpen_iff]
      rintro ⟨h1, h2, h3⟩
      rcases hfresh with h | h | h
      · simp [h] at h1
      · exact h2 h
      · simp [h] at h3
    have hq := (contactChange_opens (coil := coil) hp hn hm).trans (if_neg hback)
    obtain ⟨hflight, hhistory⟩ := uncommandedOpening_free x (movedPart x a b coil s.found)
    rw [endEvent_dc_poles, endEvent_seq, endEvent_dc_flight, endEvent_dc_history, hq, uncommandedOpening_pole, movedPart_pole,
      hflight, hhistory]
    exact ⟨rfl, rfl, uncommandedOpening_state x _, rfl, rfl⟩
  · have hq := contactChange_closes (coil := coil) hp hn hm
    have hspares := ((uncommandedClosing_spares x (movedPart x a b coil s.found)).trans (blindCheck_spares x _))
      (closedPart_apart ((Part.driveSane_iff _).1 hsane) hm)
    have hrests := ((uncommandedClosing_rests x (movedPart x a b coil s.found)).trans (blindCheck_rests _)) (closedPart_atRest x _)
    have hways := (uncommandedClosing_givesWay_of_cleared x (movedPart x a b coil s.found)).trans (blindCheck_givesWay _)
    obtain ⟨hstate, hshot⟩ := closedPart_seq x (movedPart x a b coil s.found)
    rw [closedPart_dc, closedEntries_pole, movedPart_pole] at hspares
    rw [hstate, hshot] at hrests
    simp only [endEvent_dc_poles, endEvent_seq, endEvent_dc_flight, endEvent_dc_history, endEvent_dc_crew, endEvent_dc_radio,
      hq, hspares.1]
    refine ⟨trivial, rfl, rfl, hrests.1, hrests.2.1, fun hw => ?_, fun hcold => ?_, fun hc => ?_, fun hr => ?_⟩
    · obtain ⟨hentry, hapart⟩ := closedEntries_gone (x := x) (p := movedPart x a b coil s.found) hw
      rw [endEvent_entry_of_apart _ _ (hways.apart hapart)]
      exact hways.entry_none hentry
    · rw [uncommandedClosing_of_cold (p := movedPart x a b coil s.found) hcold, closedPart_dc]
      obtain ⟨hflight, hhistory⟩ := closedEntries_free x (movedPart x a b coil s.found)
      exact ⟨hhistory, hflight⟩
    · refine hways.crew_none ?_
      rw [closedEntries, clearEntries_dc_crew, if_pos]
      exact (PoleSet.overlaps_single _ x).trans hc
    · refine hways.radio_none ?_
      rw [closedEntries, clearEntries_dc_radio, if_pos]
      exact (PoleSet.overlaps_single _ x).trans hr

end Sys2Proof.Machine
end

section
/-! PROOFS. The start-up sequence (R197, R199, R200; O5): its judgements leave what its steps have set. -/

namespace Sys2Proof.Machine

/-! ### What the judgements of a start-up keep (R199) -/

/-- What a start-up takes from the images of the Battery Controller, and the part state (R156). -/
def Battery.started (b : Battery) : Nat × Nat × Health × Nat × PartState := (b.soc, b.capacity, b.health, b.hours, b.partState)

/-- The blocks and fields that the judgements at the end of a start-up leave. -/
structure KeepsStart (p q : Part) : Prop where
  frame : sameExcept (.rs :: .pu :: Block.watch) p q
  pu : q.pu = p.pu
  rs : q.rs = p.rs
  bc : q.bc.started = p.bc.started
  body : q.dc.body = p.dc.body
  crew : q.dc.crew = none
  radio : q.dc.radio = none
  rests : ∀ x, Rests x p q
  links : ∀ l, l ≠ .RADIO → q.li.get l = p.li.get l

/-- A part as a start-up leaves it before its judgements: nothing in flight and no close entry of a link. -/
structure Part.Idle (p : Part) : Prop where
  flight : p.dc.flight = none
  crew : p.dc.crew = none
  radio : p.dc.radio = none

section
variable {p q r : Part}

theorem KeepsStart.idle (h : KeepsStart p q) (hp : p.Idle) : q.Idle :=
  ⟨(Drive.flight_of_body h.body).trans hp.flight, h.crew, h.radio⟩

theorem KeepsStart.trans (h : KeepsStart p q) (k : KeepsStart q r) : KeepsStart p r where
  frame := h.frame.trans k.frame
  pu := k.pu.trans h.pu
  rs := k.rs.trans h.rs
  bc := k.bc.trans h.bc
  body := k.body.trans h.body
  crew := k.crew
  radio := k.radio
  rests x := (h.rests x).trans (k.rests x)
  links l hl := (k.links l hl).trans (h.links l hl)

/-- A change of the lists, the Sequencer's flags and the Report Unit alone. -/
theorem KeepsStart.of_same (hp : p.Idle) (hframe : sameExcept (.rs :: .pu :: Block.watch) p q) (hpu : q.pu = p.pu)
    (hrs : q.rs = p.rs) (hdc : q.dc = p.dc) (hsq : q.sq.recs = p.sq.recs)
    (hbc : q.bc.started = p.bc.started)
    (hli : ∀ l, l ≠ .RADIO → q.li.get l = p.li.get l) : KeepsStart p q where
  frame := hframe
  pu := hpu
  rs := hrs
  bc := hbc
  body := by rw [hdc]
  crew := by rw [hdc, hp.crew]
  radio := by rw [hdc, hp.radio]
  rests x := .of_seq (by simp [Part.seq, hsq])
  links := hli

end

/-! #### The Report Unit sends on the radio link alone -/

theorem judgeCall_links {l : Link} (h : l ≠ .RADIO) (p : Part) : (judgeCall p).li.get l = p.li.get l := by
  simp only [judgeCall]
  split
  · rw [send_get, if_neg (by simp [h])]
  · rfl

theorem judgeSending_links {l : Link} (h : l ≠ .RADIO) (p : Part) : (judgeSending p).li.get l = p.li.get l := by
  simp only [judgeSending]
  split
  · rfl
  · exact judgeCall_links h p

theorem enterReport_links {l : Link} (h : l ≠ .RADIO) (k : ReportKind) (s : Option PoleSet) (b : List Byte) (p : Part) :
    (enterReport k s b p).li.get l = p.li.get l := by
  simp only [enterReport]
  split
  · rfl
  · split
    · exact judgeSending_links h _
    · split
      · exact judgeSending_links h _
      · rfl

theorem enterReport_keepsStart {p : Part} (hp : p.Idle) (k : ReportKind) (s : Option PoleSet) (b : List Byte) :
    KeepsStart p (enterReport k s b p) :=
  .of_same hp (fun c hc => by cases c <;> simp [Block.watch] at hc <;> simp [Block.same]) (by simp) (by simp) (by simp) (by simp)
    (by simp) fun _ hl => enterReport_links hl _ _ _ _

/-! #### Trips of a start-up (R69, R151) -/

theorem endLinkEntries_of_idle {p : Part} (hp : p.Idle) (s : PoleSet) (r : OpResult) : endLinkEntries s r p = p := by
  have hempty : PoleSet.empty.overlaps s = false := by simp [PoleSet.overlaps_false_iff]
  simp [endLinkEntries, LinkClose.poles, hp.crew, hp.radio, hempty]

theorem clearEntries_li_of_idle {p : Part} (hp : p.Idle) (s : PoleSet) : (clearEntries s p).li = p.li := by
  rw [clearEntries, judgeQuiescence_li, cancelEntries, endLinkEntries_of_idle hp]
  refine applyAll_keeps (f := cancelSeq) (·.li) (fun x q => ?_) _ p
  simp only [cancelSeq]
  split <;> rfl

theorem mergeTrip_same_of_free {p : Part} (h : p.dc.flight = none) (s : PoleSet) (e : ReqEntry) :
    (mergeTrip s e p).1.li = p.li ∧ (mergeTrip s e p).1.rs = p.rs := by
  rw [mergeTrip_of_free h]
  split <;> simp

/-- A trip request with an end note at an idle drive (R60, R69). -/
theorem takeTrip_keepsStart {p : Part} (hp : p.Idle) {c : OpCause} (hc : c.note.isSome = true) (s : PoleSet) (w : Requester)
    (t : Option Byte) : KeepsStart p (takeTrip s c w t p).1 := by
  have hways := takeTrip_givesWay s c w t p
  obtain ⟨n, hn⟩ := Option.isSome_iff_exists.1 hc
  have hsame : (takeTrip s c w t p).1.li = p.li ∧ (takeTrip s c w t p).1.rs = p.rs := by
    by_cases h : p.bc.partState = .RUN ∧ s.isEmpty = false
    · have hfree : (reportedTrip s c w p).1.dc.flight = none := (Drive.flight_of_body (reportedTrip_body s c w p)).trans hp.flight
      obtain ⟨hli, hrs⟩ := mergeTrip_same_of_free hfree s ⟨w, c, s, t⟩
      have hadded : (reportedTrip s c w p).2 = .empty := by rw [reportedTrip, sqTripReport_of_note hn]
      have hempty : PoleSet.empty.isEmpty = true := by decide
      rw [takeTrip_of_run h.1 h.2, hadded]
      simp [addTrip, hempty, hn, mergedTrip, hli, hrs]
      simp [reportedTrip, clearEntries_li_of_idle hp]
    · rw [takeTrip_of_none h]
      exact ⟨rfl, rfl⟩
  exact {
    frame := fun b hb => by cases b <;> simp [Block.watch] at hb <;> simp [Block.same]
    pu := by simp
    rs := hsame.2
    bc := by simp
    body := takeTrip_body hp.flight s c w t
    crew := hways.crew_none hp.crew
    radio := hways.radio_none hp.radio
    rests := fun x => takeTrip_rests hc s w t p
    links := fun l _ => by rw [hsame.1] }

theorem KeepsStart.refl {p : Part} (hp : p.Idle) : KeepsStart p p :=
  .of_same hp (.refl _ p) rfl rfl rfl rfl rfl fun _ _ => rfl

theorem notePoles_keepsStart {p : Part} (hp : p.Idle) (s : PoleSet) (n : EndNote) : KeepsStart p (notePoles s n p) where
  frame b hb := by cases b <;> simp [Block.watch] at hb <;> simp [Block.same]
  pu := by simp
  rs := by simp
  bc := by simp
  body := by simp
  crew := by simp [hp.crew]
  radio := by simp [hp.radio]
  rests _ := notePoles_rests s n p
  links l _ := by simp

theorem noteAndTrip_keepsStart {p : Part} (hp : p.Idle) (s : PoleSet) (n : EndNote) {c : OpCause} (hc : c.note.isSome = true) :
    KeepsStart p (noteAndTrip s n c p) := by
  simp only [noteAndTrip, seqTrip]
  split
  · exact .refl hp
  · have hnote := notePoles_keepsStart hp s n
    exact hnote.trans (takeTrip_keepsStart (hnote.idle hp) hc _ _ _)

theorem blindCheck_keepsStart {p : Part} (hp : p.Idle) : KeepsStart p (blindCheck p) := by
  simp only [blindCheck]
  split
  · exact noteAndTrip_keepsStart hp _ _ rfl
  · exact .refl hp

theorem tellLockouts_keepsStart {p : Part} (hp : p.Idle) (b : Part) : KeepsStart p (tellLockouts b p) := by
  simp only [tellLockouts]
  split
  · exact .refl hp
  · refine .of_same hp (fun c hc => ?_) (by simp) (by simp) (by simp) (by simp) (by simp)
      fun l hl => enterReport_links hl _ _ _ _
    cases c <;> simp [Block.watch] at hc <;> simp [Block.same]

theorem exhaustionTrip_keepsStart {p : Part} (hp : p.Idle) : KeepsStart p (exhaustionTrip p).1 := by
  simp only [exhaustionTrip]
  split
  · have htrip := takeTrip_keepsStart hp (c := .EXHAUSTION) rfl p.notOpen .BATTERY none
    exact htrip.trans (tellLockouts_keepsStart (htrip.idle hp) p)
  · exact .refl hp

/-- A change of the Battery Controller outside what the images give. -/
theorem setBattery_keepsStart {p : Part} (hp : p.Idle) {b : Battery} (hb : b.started = p.bc.started) :
    KeepsStart p { p with bc := b } :=
  .of_same hp (fun c hc => by cases c <;> simp [Block.watch] at hc <;> rfl) rfl rfl rfl rfl hb fun _ _ => rfl

theorem judgeExhaustion_keepsStart {p : Part} (hp : p.Idle) : KeepsStart p (judgeExhaustion p) := by
  simp only [judgeExhaustion]
  split
  · have htrip := exhaustionTrip_keepsStart hp
    have hreport := htrip.trans (enterReport_keepsStart (htrip.idle hp) .EXHAUSTION none
      (two p.bc.permille ++ [byte p.bc.health.code, flag (exhaustionTrip p).2]))
    exact hreport.trans (setBattery_keepsStart (hreport.idle hp) rfl)
  · exact .refl hp

theorem judgePosting_keepsStart {p : Part} (hp : p.Idle) : KeepsStart p (judgePosting p) := by
  simp only [judgePosting]
  split
  · exact setBattery_keepsStart hp rfl
  · exact .refl hp

theorem startReports_keepsStart {p : Part} (hp : p.Idle) (c : StartCause) (lost : List (Item × FaultReason)) :
    KeepsStart p (startReports c lost p) := by
  have hrestart := enterReport_keepsStart hp .RESTART none ([byte c.code, flag p.tb.isSet] ++ faultEntries lost)
  simp only [startReports]
  split
  · exact hrestart
  · exact hrestart.trans (enterReport_keepsStart (hrestart.idle hp) _ _ _)

theorem judgeDeficit_links {l : Link} (h : l ≠ .RADIO) (p : Part) : (judgeDeficit p).li.get l = p.li.get l := by
  simp only [judgeDeficit]
  repeat' split
  · rfl
  · rfl
  · rfl
  · rfl
  · exact enterReport_links h _ _ _ _
  · rfl

theorem refresh_keepsStart {p : Part} (hp : p.Idle) : KeepsStart p (refresh p) where
  frame b hb := by cases b <;> simp [Block.watch] at hb <;> simp [Block.same]
  pu := by simp
  rs := by simp
  bc := by simp [Battery.started]
  body := by
    simp only [refresh, suspendTest_dc, judgeQuiescence_dc]
    exact energyJudge_keeps (fun q => q.dc.body) (fun _ _ => rfl) (fun _ _ => rfl) (fun _ => rfl) (by simp) p
  crew := by simp [hp.crew]
  radio := by simp [hp.radio]
  rests x := .of_seq (by simp [Part.seq])
  links l hl := by
    simp only [refresh, suspendTest_li, judgeQuiescence_li, energyJudge]
    rw [judgeDeficit_links hl, grantUnits_li, recountReserve_li]

/-! ### The images (R194, R197) -/

/-- What an item's image holds is left by the judgements. -/
theorem KeepsStart.imageOf {p q : Part} (h : KeepsStart p q) (hr : ∀ x, (p.seq x).atRest) (i : Item) :
    imageOf q i = imageOf p i := by
  have htu : q.tu = p.tu := h.frame .tu (by decide)
  have hbc := h.bc
  simp only [Battery.started, Prod.mk.injEq] at hbc
  obtain ⟨hsoc, hcap, hhealth, hhours, -⟩ := hbc
  cases i <;> simp only [Machine.imageOf, h.pu, htu, Drive.poles_of_body h.body, hsoc, hhealth, hhours, Battery.permille, hcap,
    (h.rests _ (hr _)).2.2.1]

/-- The hand-offs of a start-up: each item of the list once. -/
theorem applyAll_retain_rs {is : List Item} (hn : is.Nodup) (p : Part) (i : Item) :
    (applyAll retain is p).rs.get i = if i ∈ is then (p.rs.get i).hand (imageOf p i) else p.rs.get i := by
  induction is generalizing p with
  | nil => rfl
  | cons j js ih =>
    obtain ⟨hj, hn⟩ := List.nodup_cons.1 hn
    have himage : imageOf (retain j p) i = imageOf p i := by cases i <;> rfl
    rw [applyAll, ih hn, himage, retain, Store.get_set]
    by_cases he : i = j
    · simp [he, hj]
    · simp [he]

theorem startHandOffs_rs (lost : List (Item × FaultReason)) (roster lockout : Bool) (p : Part) (i : Item) :
    (startHandOffs lost roster lockout p).rs.get i =
      if lost.any (fun l => l.1 == i) || (i == .ROSTER && roster) || (i == .LOCKOUT && lockout)
      then (p.rs.get i).hand (imageOf p i) else p.rs.get i := by
  have hall : i ∈ allItems := by cases i <;> decide
  rw [startHandOffs, applyAll_retain_rs (List.Nodup.filter _ (by decide))]
  exact if_congr (List.mem_filter.trans (and_iff_right hall)) rfl rfl

theorem notRestored_any (s : Store) (i : Item) :
    (notRestored s).any (fun l => l.1 == i) = ((s.get i).stored.reason).isSome := by
  have hall : i ∈ allItems := by cases i <;> decide
  rw [Bool.eq_iff_iff]
  simp only [notRestored, List.any_eq_true, List.mem_filterMap, beq_iff_eq, Option.map_eq_some_iff]
  constructor
  · rintro ⟨⟨j, r⟩, ⟨k, -, m, hm, hjr⟩, rfl⟩
    obtain ⟨rfl, rfl⟩ := Prod.mk.inj hjr
    simp [hm]
  · intro h
    obtain ⟨r, hr⟩ := Option.isSome_iff_exists.1 h
    exact ⟨(i, r), ⟨i, hall, r, hr, rfl⟩, rfl⟩

/-! ### The steps of the sequence (R199) -/

/-- The part that a start-up settles and judges: its settings, drive, Sequencer, lists and Battery Controller as restored. -/
def restoredPart (c : StartCause) (p : Part) : Part :=
  let q := startLists (c == .COMMANDED && !p.ru.queue.isEmpty) (startSequencer (startDrive (startSettings p)))
  let u := q.pu.unit
  let soc := socFrom u.capacity q.rs.soc.stored
  let health := healthFrom q.rs.health.stored
  let level := energyLevelOf u (permilleOf soc u.capacity) health
  let mode : ChargerMode := if q.bc.supply then modeFromOff (permilleOf soc u.capacity) else .OFF
  { q with
    bc := ⟨soc, 0, u.capacity, health, level, q.bc.supply, mode, false, .RUN, none, none, none, none, none, none, none,
      Config.socPeriod, idleTest, hoursFrom q.rs.hours.stored, 0, false, false, true⟩
    ru := { q.ru with level := level } }

theorem startBattery_eq (c : StartCause) (p : Part) :
    startBattery (startLists (c == .COMMANDED && !p.ru.queue.isEmpty) (startSequencer (startDrive (startSettings p)))) =
      judgeExhaustion (judgePosting (restoredPart c p)) := rfl

theorem restoredPart_idle (c : StartCause) (p : Part) : (restoredPart c p).Idle := ⟨rfl, rfl, rfl⟩

theorem restoredPart_seq (c : StartCause) (p : Part) (x : Pole) :
    (restoredPart c p).seq x =
      startSeqRec ((restoredPart c p).position x) ((lockoutFrom (p.rs.get .LOCKOUT).stored).get x) := by
  simp only [restoredPart, startLists, startSequencer, Part.seq, PerPole.get_ofFun]
  rfl

theorem restoredPart_atRest (c : StartCause) (p : Part) (x : Pole) : ((restoredPart c p).seq x).atRest := by
  rw [restoredPart_seq, SeqRec.atRest, startSeqRec]
  dsimp only
  split <;> decide

theorem restoredPart_pole (c : StartCause) (p : Part) (x : Pole) :
    (restoredPart c p).dc.poles.get x =
      startPole (p.dc.poles.get x).aClosed (p.dc.poles.get x).bClosed ((wearFrom (p.rs.get .WEAR).stored).get x).1
        ((wearFrom (p.rs.get .WEAR).stored).get x).2 := by
  simp only [restoredPart, startLists, startSequencer, startDrive, PerPole.get_ofFun]
  rfl

theorem restoredPart_rs (c : StartCause) (p : Part) (i : Item) : (restoredPart c p).rs.get i = (p.rs.get i).restored := by
  simp [restoredPart, startLists, startSequencer, startSettings, startDrive]

/-- The part of a start-up before the hand-offs (R199). -/
def reportedPart (c : StartCause) (p : Part) : Part :=
  startReports c (notRestored p.rs) (startBattery (startLists (c == .COMMANDED && !p.ru.queue.isEmpty)
    (startSequencer (startDrive (startSettings p)))))

theorem reportedPart_keepsStart (c : StartCause) (p : Part) :
    KeepsStart (restoredPart c p) (reportedPart c p) := by
  have hidle := restoredPart_idle c p
  have hposting := judgePosting_keepsStart hidle
  have hexh := hposting.trans (judgeExhaustion_keepsStart (hposting.idle hidle))
  rw [reportedPart, startBattery_eq]
  exact hexh.trans (startReports_keepsStart (hexh.idle hidle) c _)

/-- A start-up from its hand-offs on. -/
theorem startUp_handOffs (c : StartCause) (p : Part) : ∃ roster lockout,
    startUp c p = refresh (blindCheck (startHandOffs (notRestored p.rs) roster lockout (reportedPart c p))) := ⟨_, _, rfl⟩

/-- The hand-offs touch the store alone. -/
theorem startHandOffs_eq (lost : List (Item × FaultReason)) (roster lockout : Bool) (p : Part) :
    ∃ r, startHandOffs lost roster lockout p = { p with rs := r } :=
  applyAll_induction (P := fun q => ∃ r, q = { p with rs := r }) (fun i q ⟨_, hq⟩ => ⟨(retain i q).rs, by subst hq; rfl⟩) _
    ⟨_, rfl⟩

theorem KeepsStart.withStore {p q : Part} (h : KeepsStart p q) (s : Store) :
    KeepsStart { p with rs := s } { q with rs := s } where
  frame b hb := by
    have hsame := h.frame b hb
    cases b <;> simp [Block.watch] at hb <;> exact hsame
  pu := h.pu
  rs := rfl
  bc := h.bc
  body := h.body
  crew := h.crew
  radio := h.radio
  rests x := h.rests x
  links := h.links

/-- The images are of what the owners hold, whatever the store. -/
theorem imageOf_withStore (p : Part) (s : Store) (i : Item) : imageOf { p with rs := s } i = imageOf p i := by cases i <;> rfl

/-- A start-up leaves what it has restored, and hands every item it could not restore to the store (R197, R199). -/
theorem startUp_restores (c : StartCause) (p : Part) : ∃ st : Store,
    KeepsStart { restoredPart c p with rs := st } (startUp c p) ∧
      ∀ i, (st.get i).fault = ((p.rs.get i).stored.reason).isSome ∧
        (((p.rs.get i).stored.reason).isSome = true → (st.get i).writing = some (imageOf (startUp c p) i)) := by
  obtain ⟨roster, lockout, hstart⟩ := startUp_handOffs c p
  obtain ⟨st, hst⟩ := startHandOffs_eq (notRestored p.rs) roster lockout (reportedPart c p)
  have hget := startHandOffs_rs (notRestored p.rs) roster lockout (reportedPart c p)
  have hreported := reportedPart_keepsStart c p
  have hkeeps := hreported.withStore st
  rw [hst] at hstart hget
  have hidle : ({ restoredPart c p with rs := st } : Part).Idle := ⟨rfl, rfl, rfl⟩
  have hblind := blindCheck_keepsStart (hkeeps.idle hidle)
  have htail := hblind.trans (refresh_keepsStart (hblind.idle (hkeeps.idle hidle)))
  rw [← hstart] at htail
  have hwhole := hkeeps.trans htail
  refine ⟨st, hwhole, fun i => ?_⟩
  have himage : imageOf (startUp c p) i = imageOf (reportedPart c p) i :=
    (hwhole.imageOf (restoredPart_atRest c p) i).trans ((imageOf_withStore _ st i).trans
      (hreported.imageOf (restoredPart_atRest c p) i).symm)
  have hrec : (reportedPart c p).rs.get i = (p.rs.get i).restored := by rw [hreported.rs, restoredPart_rs]
  have hi : st.get i = _ := hget i
  rw [hrec, notRestored_any] at hi
  rw [hi, himage]
  refine ⟨?_, fun hlost => ?_⟩
  · split
    · simp [WriteRec.restored, idleWrite, WriteRec.hand]
    · rfl
  · rw [if_pos (by simp [hlost])]
    rfl

end Sys2Proof.Machine
end

section
namespace Sys2Proof.Machine

/-- The images as a power-up finds them (R197). -/
theorem poweredPart_stored (lines : Lines) (bad : List Item) (p : Part) (i : Item) :
    ((poweredPart lines bad p).rs.get i).stored =
      if i ∈ bad then ((p.rs.get i).image).spoil else (p.rs.get i).image := by
  have hloss : (powerLoss p).rs.get i = idleWrite false (p.rs.get i).image := by cases i <;> rfl
  simp only [poweredPart, Store.spoiled, Store.get_mapItems, hloss]
  split <;> rfl

/-- What a power-up finds besides the images (R200). -/
theorem poweredPart_found (lines : Lines) (bad : List Item) (p : Part) :
    (poweredPart lines bad p).on = true ∧ (poweredPart lines bad p).tb = ⟨0, 0, false⟩ ∧
      (poweredPart lines bad p).restart = none ∧ (poweredPart lines bad p).dc.history = [] ∧
      (∀ l, (poweredPart lines bad p).li.get l = startLink) ∧
      ∀ x, ((poweredPart lines bad p).dc.poles.get x).aClosed = (linePair lines x).aClosed ∧
        ((poweredPart lines bad p).dc.poles.get x).bClosed = (linePair lines x).bClosed :=
  ⟨rfl, rfl, rfl, rfl, fun l => by cases l <;> rfl, fun x => by simp [poweredPart, startPole]⟩

/-- The sequence record and the pole record of a start-up, with what they were restored from (R1, R45). -/
theorem startUp_pole {c : StartCause} {p : Part} {st : Store} (h : KeepsStart { restoredPart c p with rs := st } (startUp c p))
    (x : Pole) :
    (startUp c p).dc.poles.get x =
      startPole (p.dc.poles.get x).aClosed (p.dc.poles.get x).bClosed ((wearFrom (p.rs.get .WEAR).stored).get x).1
        ((wearFrom (p.rs.get .WEAR).stored).get x).2 ∧
    ((startUp c p).seq x).state = (if (startUp c p).position x = .CLOSED then .CLOSED_IDLE else .LOCKOUT) ∧
      ((startUp c p).seq x).shot = 0 ∧
      ((startUp c p).seq x).lockout = (if (startUp c p).position x = .CLOSED then none
        else some (((lockoutFrom (p.rs.get .LOCKOUT).stored).get x).getD .START)) := by
  have hpole : (startUp c p).dc.poles.get x = (restoredPart c p).dc.poles.get x :=
    congrArg (fun d : PerPole PoleRec => d.get x) (Drive.poles_of_body h.body)
  have hposition : (restoredPart c p).position x = (startUp c p).position x := congrArg PoleRec.position hpole.symm
  obtain ⟨hstate, hshot, hlock, -⟩ := h.rests x (restoredPart_atRest c p x)
  have hseq := restoredPart_seq c p x
  rw [hposition] at hseq
  exact ⟨hpole.trans (restoredPart_pole c p x), hstate.trans (congrArg SeqRec.state hseq), hshot.trans (congrArg SeqRec.shot hseq),
    hlock.trans (congrArg SeqRec.lockout hseq)⟩

/-- Settles O5: the judgements at the end of a start-up leave what its steps have restored. -/
theorem powerUpRestoresImages : Obligations.PowerUpRestoresImages := by
  intro lines bad s img
  have himg : img = fun i => ((poweredPart lines bad s.part).rs.get i).stored :=
    funext fun i => (poweredPart_stored lines bad s.part i).symm
  clear_value img
  subst himg
  have hexec : exec (.powerUp lines bad) s =
      .next { s with part := startUp .POWER_UP (poweredPart lines bad s.part) } := rfl
  obtain ⟨hon, htb, hrestart, hhistory, hlinks, hcontacts⟩ := poweredPart_found lines bad s.part
  generalize poweredPart lines bad s.part = p at *
  obtain ⟨st, hkeeps, hstore⟩ := startUp_restores .POWER_UP p
  have hpole := startUp_pole hkeeps
  have hbc := hkeeps.bc
  simp only [Battery.started, Prod.mk.injEq] at hbc
  obtain ⟨hsoc, hcap, hhealth, hhours, hstate⟩ := hbc
  have hpu := hkeeps.pu
  have htu := hkeeps.frame .tu (by decide)
  have heu := hkeeps.frame .eu (by decide)
  refine ⟨_, hexec, (hkeeps.frame .on (by decide)).trans hon, (hkeeps.frame .tb (by decide)).trans htb,
    (hkeeps.frame .restart (by decide)).trans hrestart, (Drive.history_of_body hkeeps.body).trans hhistory,
    (hkeeps.links .PROTECTION (by decide)).trans (hlinks _), (hkeeps.links .CREW (by decide)).trans (hlinks _), fun x => ?_,
    congrArg ProfileUnit.groups hpu, congrArg ProfileUnit.unit hpu, congrArg ProfileUnit.selected hpu,
    congrArg TagUnit.tags htu, congrArg TagUnit.nextTag htu, congrArg TagUnit.roster htu, hhealth, hhours, hcap, hsoc,
    congrArg ElementUnit.state heu, hstate, fun i => ?_⟩
  · obtain ⟨hrec, hst, hshot, hlock⟩ := hpole x
    have hposition : (startUp .POWER_UP p).position x = positionOf (linePair lines x).aClosed (linePair lines x).bClosed := by
      rw [Part.position, hrec, ← (hcontacts x).1, ← (hcontacts x).2]
      rfl
    refine ⟨hposition, by rw [hrec]; rfl, by rw [hrec]; rfl, hshot, fun hc => ?_, fun hc => ?_⟩
    · rw [hst, hlock, if_pos hc, if_pos hc]
      exact ⟨rfl, rfl⟩
    · rw [hst, hlock, if_neg hc, if_neg hc]
      exact ⟨rfl, rfl⟩
  · have hrs : (startUp .POWER_UP p).rs = st := hkeeps.rs
    rw [hrs]
    exact hstore i

end Sys2Proof.Machine
end

section
/-! PROOFS. The Sequencer at the end of a close (R55, R56, R59, R61, R62; O29, O31). -/

namespace Sys2Proof.Machine

/-! ### The open time through a lockout of the gang (R56, R62) -/

/-- No pole's open time changes. -/
def KeepsDeparture (p q : Part) : Prop := ∀ x, (q.seq x).departure = (p.seq x).departure

section
variable {p q r : Part}

theorem KeepsDeparture.trans (h : KeepsDeparture p q) (k : KeepsDeparture q r) : KeepsDeparture p r :=
  fun x => (k x).trans (h x)

theorem KeepsDeparture.of_seq (h : ∀ x, q.seq x = p.seq x) : KeepsDeparture p q := fun x => by rw [h]

theorem enterLockout_departure (c : LockSet) (p : Part) : KeepsDeparture p (enterLockout c p) := fun x => by
  rw [enterLockout_seq]
  split <;> rfl

theorem notePoles_departure (s : PoleSet) (n : EndNote) (p : Part) : KeepsDeparture p (notePoles s n p) := fun x => by
  rw [notePoles, seq_mapSeq]
  split
  · simp only [SeqRec.note]
    split <;> rfl
  · rfl

theorem clearEntries_departure (s : PoleSet) (p : Part) : KeepsDeparture p (clearEntries s p) := fun x => by
  have hcancel (y : Pole) (q : Part) : ((cancelSeq y q).seq x).departure = (q.seq x).departure := by
    simp only [cancelSeq]
    split
    · rw [Part.seq_setSeq]
      split
      · subst_vars
        rfl
      · rfl
    · rfl
  have hlinks : (endLinkEntries s .CANCELLED p).seq x = p.seq x := by simp [Part.seq]
  have hcancels (xs : List Pole) (q : Part) : ((applyAll cancelSeq xs q).seq x).departure = (q.seq x).departure :=
    applyAll_keeps (f := cancelSeq) (fun q => (q.seq x).departure) hcancel xs q
  simpa [clearEntries, cancelEntries, hlinks] using hcancels _ (endLinkEntries s .CANCELLED p)

/-- A trip request with an end note, at a free drive. -/
theorem takeTrip_departure {c : OpCause} (hc : c.note.isSome = true) (hf : p.dc.flight = none) (s : PoleSet) (w : Requester)
    (t : Option Byte) : KeepsDeparture p (takeTrip s c w t p).1 := by
  obtain ⟨n, hn⟩ := Option.isSome_iff_exists.1 hc
  by_cases h : p.bc.partState = .RUN ∧ s.isEmpty = false
  · have hreport : KeepsDeparture p (reportedTrip s c w p).1 := by
      rw [reportedTrip, sqTripReport_of_note hn]
      exact ((clearEntries_departure s p).trans (notePoles_departure _ n _)).trans (enterLockout_departure _ _)
    have hfree : (reportedTrip s c w p).1.dc.flight = none :=
      (Drive.flight_of_body (reportedTrip_body s c w p)).trans hf
    have hmerge : (mergedTrip s c w t p).1.sq = (reportedTrip s c w p).1.sq := mergeTrip_sq_of_free hfree _ _
    have hadded : (reportedTrip s c w p).2 = .empty := by rw [reportedTrip, sqTripReport_of_note hn]
    have hempty : PoleSet.empty.isEmpty = true := by decide
    refine hreport.trans (.of_seq fun x => ?_)
    rw [takeTrip_of_run h.1 h.2, hadded]
    simp [addTrip, hempty, hn, Part.seq, hmerge]
  · rw [takeTrip_of_none h]
    exact .of_seq fun _ => rfl

theorem lockWithGang_departure (hf : p.dc.flight = none) (c : LockSet) (b : Bool) :
    KeepsDeparture p (lockWithGang c b p) := by
  simp only [lockWithGang]
  split
  · have htrip (s : PoleSet) (n : EndNote) (q : Part) (hq : q.dc.flight = none) :
        KeepsDeparture q (noteAndTrip s n .GANG_LOCKOUT q) := by
      simp only [noteAndTrip, seqTrip]
      split
      · exact .of_seq fun _ => rfl
      · exact (notePoles_departure _ _ _).trans (takeTrip_departure rfl (by simpa using hq) _ _ _)
    exact (enterLockout_departure _ p).trans (htrip _ _ _ (by simpa using hf))
  · exact enterLockout_departure _ p

end

/-! ### The COLD_LOAD frame (R55, R62) -/

/-- What a push of the COLD_LOAD frame changes of a sequence record: whether a new value waits. -/
theorem coldLoadTest_seq (s : PoleSet) (p : Part) (x : Pole) :
    ∃ b, (coldLoadTest s p).seq x = { p.seq x with newValue := b } := by
  have hchanged (q : Part) : ∃ b, (sqProfileChanged q).seq x = { q.seq x with newValue := b } := by
    refine ⟨((q.seq x).judgeNewValue q.profile).newValue, ?_⟩
    have hmode (m : PoleMode) (r : Part) : ({ r with sq := judgeMode m r.sq } : Part).seq x = r.seq x := by simp [Part.seq]
    rw [sqProfileChanged, hmode, judgeQuiescence_seq, seq_mapSeq, if_pos (by cases x <;> rfl)]
    rfl
  simp only [coldLoadTest, pushColdLoad, judged]
  split
  · split
    · exact ⟨_, rfl⟩
    · rw [enterReport_seq]
      exact hchanged _
  · exact ⟨_, rfl⟩

theorem PoleSet.any_iff (s : PoleSet) (f : Pole → Bool) : s.any f = true ↔ ∃ x, s.has x = true ∧ f x = true := by
  simp [PoleSet.any]

/-- A pole of the set was open for longer than the cold-load open time, where that is not 0 (R55). -/
def Part.longOpen (p : Part) (s : PoleSet) : Prop :=
  0 < p.pu.unit.coldOpenS ∧ ∃ x, s.has x = true ∧ p.pu.unit.coldOpenS < (p.seq x).departure

/-- The COLD_LOAD frame is pushed exactly where a pole was open for longer than the cold-load open time. -/
theorem coldLoadTest_pu (s : PoleSet) (p : Part) :
    (p.longOpen s → (coldLoadTest s p).pu = { p.pu with coldLoad := some (p.pu.selectedGroup.coldS * 1000) }) ∧
      (¬ p.longOpen s → (coldLoadTest s p).pu = p.pu) := by
  have hpush : (pushColdLoad p).pu = { p.pu with coldLoad := some (p.pu.selectedGroup.coldS * 1000) } := by
    simp only [pushColdLoad, judged]
    split
    · rfl
    · simp
  have hcond : (decide (0 < p.pu.unit.coldOpenS) && s.any fun x => decide (p.pu.unit.coldOpenS < (p.seq x).departure)) = true ↔
      p.longOpen s := by simp [Part.longOpen, PoleSet.any_iff]
  constructor
  · intro h
    rw [coldLoadTest, if_pos (hcond.2 h), hpush]
  · intro h
    rw [coldLoadTest, if_neg fun k => h (hcond.1 k)]

/-! ### A lockout with the gang (R59, R62) -/

section
variable {p : Part} {c : LockSet} {x : Pole}

theorem SeqRec.locked_atRest (r : SeqRec) (k : LockCause) : (r.locked k).atRest := by simp [SeqRec.atRest, SeqRec.locked]

theorem LockSet.get_of (s : PoleSet) (c : LockCause) (x : Pole) : (LockSet.of s c).get x = if s.has x then some c else none := by
  simp [LockSet.of]

theorem enterLockout_record (p : Part) {k : LockCause} (h : c.get x = some k) : (enterLockout c p).seq x =
    if (p.seq x).state = .LOCKOUT then p.seq x else (p.seq x).locked k := by
  rw [enterLockout_seq]
  by_cases hl : (p.seq x).state = .LOCKOUT <;> simp [Part.newLocks, hl, h]

theorem enterLockout_other (p : Part) (h : c.get x = none) : (enterLockout c p).seq x = p.seq x := by
  have hnew : (p.newLocks c).get x = none := by
    by_cases hl : (p.seq x).state = .LOCKOUT <;> simp [Part.newLocks, hl, h]
  rw [enterLockout_seq, hnew]

/-- A named pole that was not locked out is locked out for its cause. -/
theorem lockWithGang_locks {k : LockCause} (h : c.get x = some k) (hs : (p.seq x).state ≠ .LOCKOUT) (b : Bool) :
    ((lockWithGang c b p).seq x).state = .LOCKOUT ∧ ((lockWithGang c b p).seq x).lockout = some k := by
  have hall : (c.orElse (gangLocks c p)).get x = some k := by simp [LockSet.orElse, h]
  simp only [lockWithGang]
  split
  · have hrec := enterLockout_record p hall
    rw [if_neg hs] at hrec
    obtain ⟨hstate, -, hlock, -⟩ := noteAndTrip_rests (gangTrips c p) .GANG (c := .GANG_LOCKOUT) rfl _
      (show ((enterLockout (c.orElse (gangLocks c p)) p).seq x).atRest by rw [hrec]; exact SeqRec.locked_atRest _ _)
    rw [hstate, hlock, hrec]
    exact ⟨rfl, rfl⟩
  · rw [enterLockout_record p h, if_neg hs]
    exact ⟨rfl, rfl⟩

/-- A pole at rest that does not show OPEN keeps its record but where it is named. -/
theorem lockWithGang_rests (h : c.get x = none) (hopen : p.position x ≠ .OPEN) (b : Bool) : Rests x p (lockWithGang c b p) := by
  have hgang : (c.orElse (gangLocks c p)).get x = none := by
    simp [LockSet.orElse, h, gangLocks, LockSet.get_of, Part.showsOpen, hopen]
  simp only [lockWithGang]
  split
  · exact Rests.trans (.of_seq (enterLockout_other p hgang)) (noteAndTrip_rests _ _ rfl _)
  · exact .of_seq (enterLockout_other p h)

/-- A sequence lockout at a free drive: every other pole that shows OPEN is locked out, and every other one is tripped. -/
theorem lockWithGang_gang (hf : p.dc.flight = none) (hrun : p.bc.partState = .RUN) (h : c.get x = none)
    (hs : (p.seq x).state ≠ .LOCKOUT) (hr : p.recloseFired x = false) :
    (p.position x = .OPEN → ((lockWithGang c true p).seq x).state = .LOCKOUT) ∧
      (p.position x ≠ .OPEN → (lockWithGang c true p).dc.pendingPoles.has x = true) := by
  have hunlocked : c.poles.has x = false := by simp [LockSet.poles, h]
  have hreclose : p.reclosing x = false := by simp [Part.reclosing, hr]
  constructor
  · intro hopen
    have hgang : (c.orElse (gangLocks c p)).get x = some .GANG := by
      simp [LockSet.orElse, h, gangLocks, LockSet.get_of, hunlocked, Part.showsOpen, hopen, hreclose]
    have hrec := enterLockout_record p hgang
    rw [if_neg hs] at hrec
    obtain ⟨hstate, -⟩ := noteAndTrip_rests (gangTrips c p) .GANG (c := .GANG_LOCKOUT) rfl _
      (show ((enterLockout (c.orElse (gangLocks c p)) p).seq x).atRest by rw [hrec]; exact SeqRec.locked_atRest _ _)
    rw [lockWithGang, if_pos rfl, hstate, hrec]
    rfl
  · intro hopen
    have hmem : (gangTrips c p).has x = true := by simp [gangTrips, hunlocked, hs, Part.showsOpen, hopen]
    have hsome : (gangTrips c p).isEmpty = false := (PoleSet.isEmpty_false_iff _).2 ⟨x, hmem⟩
    rw [lockWithGang, if_pos rfl, noteAndTrip, if_neg (by simp [hsome, Part.isRun, hrun])]
    refine (takeTrip_pending (by simpa using hrun) hmem ?_ ?_ _ _ _).1
    · simpa [Part.position] using hopen
    · simp [Drive.tripping, hf]

end

/-! ### Where a closed pole goes (R55, R61) -/

/-- The pickup copy holds the pole or a member of its gang. -/
def Part.picked (p : Part) (x : Pole) : Prop := p.sq.pickup.has x = true ∨
  ((p.seq x).ganged = true ∧ ∃ y, (p.seq y).ganged = true ∧ p.sq.pickup.has y = true)

theorem Part.pickedUp_iff (p : Part) (x : Pole) : p.pickedUp x = true ↔ p.picked x := by
  have hmember : p.pickedUp x = true ↔ ∃ y, (p.unitOf x).has y = true ∧ p.sq.pickup.has y = true := by
    rw [Part.pickedUp, PoleSet.overlaps, Bool.not_eq_true', PoleSet.isEmpty_false_iff]
    simp
  rw [hmember, Part.unitOf]
  cases hg : (p.seq x).ganged with
  | false => simp [Part.picked, hg]
  | true =>
    simp only [Part.picked, if_pos, Part.gang, PoleSet.has_ofFun, hg, true_and]
    exact ⟨.inr, fun h => h.elim (fun hx => ⟨x, hg, hx⟩) id⟩

/-- The record of a pole that a close has moved: in RECLAIM with a full reclaim time, or in TIMING. -/
def Reclaims (p : Part) (x : Pole) (r : SeqRec) : Prop :=
  (p.picked x → r.state = .TIMING ∧ r.reclaim = .stopped) ∧
  (¬ p.picked x → r.state = .RECLAIM ∧ r.reclaim =
    if p.sq.meas = .OK then .running (p.profile.reclaimS * 1000) else .held (p.profile.reclaimS * 1000))

theorem SeqRec.closed_reclaims (p : Part) (x : Pole) (r : SeqRec) :
    Reclaims p x (r.closed (p.pickedUp x) (reclaimStart p.sqOk p.profile)) := by
  refine ⟨fun h => ?_, fun h => ?_⟩
  · rw [SeqRec.closed, if_pos ((p.pickedUp_iff x).2 h)]
    exact ⟨rfl, rfl⟩
  · rw [SeqRec.closed, if_neg fun k => h ((p.pickedUp_iff x).1 k)]
    simp [SeqRec.toReclaim, reclaimStart, Part.sqOk]

theorem Reclaims.state {p : Part} {x : Pole} {r : SeqRec} (h : Reclaims p x r) : r.state = .RECLAIM ∨ r.state = .TIMING := by
  by_cases hp : p.picked x
  · exact .inr (h.1 hp).1
  · exact .inl (h.2 hp).1

theorem Reclaims.congr {p : Part} {x : Pole} {r s : SeqRec} (h : Reclaims p x r) (hs : s.state = r.state)
    (hr : s.reclaim = r.reclaim) : Reclaims p x s := by
  simpa [Reclaims, hs, hr] using h

/-! ### The end of a reclose (R55, R56, R59) -/

/-- The poles of a reclose that its end finds unmoved. -/
def Flight.recloseFailed (f : Flight) (p : Part) : PoleSet :=
  (PoleSet.ofFun fun x => f.op.poles.has x && (p.seq x).state == .CLOSE_WAIT).diff f.moved

/-- The records of the moved poles of a reclose, set. -/
def recloseMoved (f : Flight) (p : Part) : Part :=
  mapSeq ((PoleSet.ofFun fun x => f.op.poles.has x && (p.seq x).state == .CLOSE_WAIT).inter f.moved)
    (fun x r => r.closed (p.pickedUp x) (reclaimStart p.sqOk p.profile)) p

/-- A reclose's end before its test for cold load. -/
def recloseLocked (f : Flight) (p : Part) : Part :=
  lockWithGang (.of (f.recloseFailed p) .MECH_FAIL) (!(f.recloseFailed p).isEmpty) (recloseMoved f p)

section
variable (f : Flight) {p : Part} {x : Pole}

theorem sqRecloseEnd_eq (result : OpResult) (p : Part) : sqRecloseEnd f result p =
    if result = .COMPLETE then coldLoadTest f.op.poles (recloseLocked f p) else recloseLocked f p := rfl

theorem Flight.recloseFailed_iff : (f.recloseFailed p).has x = true ↔
    f.op.poles.has x = true ∧ f.moved.has x = false ∧ (p.seq x).state = .CLOSE_WAIT := by
  simp [Flight.recloseFailed]
  tauto

theorem recloseMoved_moved (hx : f.op.poles.has x = true) (hs : (p.seq x).state = .CLOSE_WAIT) (hm : f.moved.has x = true) :
    (recloseMoved f p).seq x = (p.seq x).closed (p.pickedUp x) (reclaimStart p.sqOk p.profile) := by
  rw [recloseMoved, seq_mapSeq, if_pos (by simp [hx, hs, hm])]

theorem recloseMoved_other (h : f.op.poles.has x = false ∨ (p.seq x).state ≠ .CLOSE_WAIT ∨ f.moved.has x = false) :
    (recloseMoved f p).seq x = p.seq x := by
  rw [recloseMoved, seq_mapSeq, if_neg ?_]
  simpa using fun hx hs => by simpa [hx, hs] using h

theorem Reclaims.not_lockout {r : SeqRec} (h : Reclaims p x r) : r.state ≠ .LOCKOUT := by
  rcases h.state with k | k <;> simp [k]

theorem Reclaims.atRest {r : SeqRec} (h : Reclaims p x r) : r.atRest := by
  rcases h.state with k | k <;> simp [SeqRec.atRest, k]

/-- An unmoved pole of a reclose is locked out for MECH_FAIL. -/
theorem recloseLocked_failed (hx : f.op.poles.has x = true) (hs : (p.seq x).state = .CLOSE_WAIT)
    (hm : f.moved.has x = false) :
    ((recloseLocked f p).seq x).state = .LOCKOUT ∧ ((recloseLocked f p).seq x).lockout = some .MECH_FAIL := by
  have hget : (LockSet.of (f.recloseFailed p) .MECH_FAIL).get x = some .MECH_FAIL := by
    rw [LockSet.get_of, if_pos ((f.recloseFailed_iff).2 ⟨hx, hm, hs⟩)]
  refine lockWithGang_locks hget ?_ _
  rw [recloseMoved_other f (.inr (.inr hm)), hs]
  decide

/-- Without an unmoved pole a reclose locks nobody out. -/
theorem recloseLocked_complete (h : ∀ y, (f.recloseFailed p).has y = false) :
    (recloseLocked f p).seq x = (recloseMoved f p).seq x := by
  have hempty : (f.recloseFailed p).isEmpty = true := (PoleSet.isEmpty_iff _).2 h
  rw [recloseLocked, hempty]
  exact enterLockout_other _ (by rw [LockSet.get_of, h, if_neg (by decide)])

/-- A moved pole of a reclose keeps its shot and is in RECLAIM or TIMING. -/
theorem recloseLocked_moved (hx : f.op.poles.has x = true) (hs : (p.seq x).state = .CLOSE_WAIT) (hm : f.moved.has x = true)
    (hlock : (∀ y, (f.recloseFailed p).has y = false) ∨ p.position x ≠ .OPEN) :
    Reclaims p x ((recloseLocked f p).seq x) ∧ ((recloseLocked f p).seq x).shot = (p.seq x).shot := by
  have hrec := recloseMoved_moved f hx hs hm
  have hclosed := SeqRec.closed_reclaims p x (p.seq x)
  have hshot : ((p.seq x).closed (p.pickedUp x) (reclaimStart p.sqOk p.profile)).shot = (p.seq x).shot := by
    rw [SeqRec.closed]
    split <;> rfl
  rcases hlock with hnone | hopen
  · rw [recloseLocked_complete f hnone, hrec]
    exact ⟨hclosed, hshot⟩
  · have hget : (LockSet.of (f.recloseFailed p) .MECH_FAIL).get x = none := by
      rw [LockSet.get_of, if_neg fun k => by simp [((f.recloseFailed_iff).1 k).2.1] at hm]
    obtain ⟨kstate, kshot, -, kreclaim⟩ := lockWithGang_rests (p := recloseMoved f p) hget hopen
      (!(f.recloseFailed p).isEmpty) (by rw [hrec]; exact hclosed.atRest)
    rw [hrec] at kstate kshot kreclaim
    exact ⟨hclosed.congr kstate kreclaim, kshot.trans hshot⟩

/-- A failed reclose is a sequence lockout (R59). -/
theorem recloseLocked_gang (hf : p.dc.flight = none) (hrun : p.bc.partState = .RUN) {y : Pole}
    (hy : (f.recloseFailed p).has y = true) (hs : (p.seq x).state ≠ .LOCKOUT)
    (hw : (p.seq x).state = .CLOSE_WAIT → f.op.poles.has x = true ∨ (p.dc.seq.get x).isSome = true) :
    (p.position x = .OPEN → ((recloseLocked f p).seq x).state = .LOCKOUT) ∧
      (p.position x ≠ .OPEN → ((recloseLocked f p).seq x).state = .LOCKOUT ∨
        (recloseLocked f p).dc.pendingPoles.has x = true) := by
  have hsome : (f.recloseFailed p).isEmpty = false := (PoleSet.isEmpty_false_iff _).2 ⟨y, hy⟩
  by_cases hx : (f.recloseFailed p).has x = true
  · obtain ⟨hop, hm, hwait⟩ := (f.recloseFailed_iff).1 hx
    have hlock := (recloseLocked_failed f hop hwait hm).1
    exact ⟨fun _ => hlock, fun _ => .inl hlock⟩
  · have hget : (LockSet.of (f.recloseFailed p) .MECH_FAIL).get x = none := by rw [LockSet.get_of, if_neg hx]
    have hmoved : ((recloseMoved f p).seq x).state ≠ .LOCKOUT ∧ (recloseMoved f p).recloseFired x = false := by
      by_cases hmine : f.op.poles.has x = true ∧ (p.seq x).state = .CLOSE_WAIT
      · have hm : f.moved.has x = true := by
          by_contra hm
          exact hx ((f.recloseFailed_iff).2 ⟨hmine.1, by simpa using hm, hmine.2⟩)
        have hclosed := SeqRec.closed_reclaims p x (p.seq x)
        rw [← recloseMoved_moved f hmine.1 hmine.2 hm] at hclosed
        exact ⟨hclosed.not_lockout, by simp [Part.recloseFired, hclosed.atRest.2]⟩
      · have hrec : (recloseMoved f p).seq x = p.seq x := by
          refine recloseMoved_other f ?_
          by_cases hop : f.op.poles.has x = true
          · exact .inr (.inl fun k => hmine ⟨hop, k⟩)
          · exact .inl (by simpa using hop)
        rw [hrec]
        refine ⟨hs, ?_⟩
        rw [Part.recloseFired, hrec]
        by_cases hwait : (p.seq x).state = .CLOSE_WAIT
        · have hentry : (p.dc.seq.get x).isSome = true := (hw hwait).resolve_left fun hop => hmine ⟨hop, hwait⟩
          have hnot : (p.dc.seq.get x).isNone = false := by simpa using hentry
          simp [recloseMoved, hnot]
        · simp [hwait]
    obtain ⟨hopened, htripped⟩ := lockWithGang_gang (p := recloseMoved f p) hf hrun hget hmoved.1 hmoved.2
    rw [recloseLocked, hsome]
    exact ⟨hopened, fun hopen => .inr (htripped hopen)⟩

theorem recloseLocked_departure (hf : p.dc.flight = none) : KeepsDeparture p (recloseLocked f p) := by
  refine KeepsDeparture.trans (fun y => ?_) (lockWithGang_departure (p := recloseMoved f p) hf _ _)
  rw [recloseMoved, seq_mapSeq]
  split
  · rw [SeqRec.closed]
    split <;> rfl
  · rfl

@[simp] theorem recloseLocked_pu (p : Part) : (recloseLocked f p).pu = p.pu := by simp [recloseLocked, recloseMoved]

end

/-! ### The end of a close by a link (R61, R62) -/

/-- The records of the moved poles of a manual close, set. -/
def manualMoved (f : Flight) (p : Part) : Part :=
  mapSeq (f.op.poles.inter f.moved) (fun x r =>
    { r with shot := p.profile.opsToLockout - 1, lockout := none }.closed (p.pickedUp x) (reclaimStart p.sqOk p.profile)) p

/-- A manual close's end before its test for cold load. -/
def manualLocked (f : Flight) (p : Part) : Part := enterLockout (.of (f.op.poles.diff f.moved) .MECH_FAIL) (manualMoved f p)

section
variable (f : Flight) {p : Part} {x : Pole}

theorem sqManualEnd_eq (result : OpResult) (p : Part) : sqManualEnd f result p =
    if result = .COMPLETE then coldLoadTest f.op.poles (manualLocked f p) else manualLocked f p := rfl

theorem manualMoved_other (h : f.op.poles.has x = false ∨ f.moved.has x = false) : (manualMoved f p).seq x = p.seq x := by
  rw [manualMoved, seq_mapSeq, if_neg ?_]
  simpa using fun hx => by simpa [hx] using h

theorem manualLocked_moved (hx : f.op.poles.has x = true) (hm : f.moved.has x = true) :
    Reclaims p x ((manualLocked f p).seq x) ∧ ((manualLocked f p).seq x).shot = p.profile.opsToLockout - 1 ∧
      ((manualLocked f p).seq x).lockout = none := by
  have hget : (LockSet.of (f.op.poles.diff f.moved) .MECH_FAIL).get x = none := by
    rw [LockSet.get_of, if_neg (by simp [hm])]
  rw [manualLocked, enterLockout_other _ hget, manualMoved, seq_mapSeq, if_pos (by simp [hx, hm])]
  refine ⟨SeqRec.closed_reclaims _ _ _, ?_, ?_⟩ <;> rw [SeqRec.closed] <;> split <;> rfl

theorem manualLocked_failed (hx : f.op.poles.has x = true) (hm : f.moved.has x = false) :
    ((manualLocked f p).seq x).state = .LOCKOUT ∧ ((manualLocked f p).seq x).lockout =
      if (p.seq x).state = .LOCKOUT then (p.seq x).lockout else some .MECH_FAIL := by
  have hget : (LockSet.of (f.op.poles.diff f.moved) .MECH_FAIL).get x = some .MECH_FAIL := by
    rw [LockSet.get_of, if_pos (by simp [hx, hm])]
  rw [manualLocked, enterLockout_record _ hget, manualMoved_other f (.inr hm)]
  by_cases hl : (p.seq x).state = .LOCKOUT
  · simp [hl]
  · simp [hl, SeqRec.locked]

theorem manualLocked_other (hx : f.op.poles.has x = false) : (manualLocked f p).seq x = p.seq x := by
  have hget : (LockSet.of (f.op.poles.diff f.moved) .MECH_FAIL).get x = none := by
    rw [LockSet.get_of, if_neg (by simp [hx])]
  rw [manualLocked, enterLockout_other _ hget, manualMoved_other f (.inl hx)]

theorem manualLocked_departure (p : Part) : KeepsDeparture p (manualLocked f p) := by
  refine KeepsDeparture.trans (fun y => ?_) (enterLockout_departure _ _)
  rw [manualMoved, seq_mapSeq]
  split
  · rw [SeqRec.closed]
    split <;> rfl
  · rfl

@[simp] theorem manualLocked_pu (p : Part) : (manualLocked f p).pu = p.pu := by simp [manualLocked, manualMoved]

@[simp] theorem manualLocked_trip (p : Part) : (manualLocked f p).dc.trip = p.dc.trip := by simp [manualLocked, manualMoved]

end

/-! ### The end of a close, whichever asked for it -/

/-- A close's end before its test for cold load. -/
def closeLocked (f : Flight) (p : Part) : Part := if f.op.cause = .RECLOSE then recloseLocked f p else manualLocked f p

section
variable {f : Flight} (hk : f.op.kind = .CLOSE) (result : OpResult) (p : Part)
include hk

theorem sqOperationEnd_close : sqOperationEnd f result p =
    if result = .COMPLETE then coldLoadTest f.op.poles (closeLocked f p) else closeLocked f p := by
  have hend : sqOperationEnd f result p = if f.op.cause = .RECLOSE then sqRecloseEnd f result p else sqManualEnd f result p := by
    simp only [sqOperationEnd, hk]
    cases f.op.cause <;> rfl
  rw [hend, closeLocked]
  split <;> rfl

theorem sqOperationEnd_close_dc : (sqOperationEnd f result p).dc = (closeLocked f p).dc := by
  rw [sqOperationEnd_close hk]
  split
  · simp
  · rfl

/-- The test for cold load changes no more of a record than whether a new value waits. -/
theorem sqOperationEnd_close_seq (x : Pole) :
    ∃ b, (sqOperationEnd f result p).seq x = { (closeLocked f p).seq x with newValue := b } := by
  rw [sqOperationEnd_close hk]
  split
  · exact coldLoadTest_seq _ _ x
  · exact ⟨_, rfl⟩

/-- A close that ended COMPLETE pushes the COLD_LOAD frame exactly where a pole was open for long. -/
theorem sqOperationEnd_close_pu (hf : p.dc.flight = none) :
    ((result = .COMPLETE ∧ p.longOpen f.op.poles) →
        (sqOperationEnd f result p).pu = { p.pu with coldLoad := some (p.pu.selectedGroup.coldS * 1000) }) ∧
      (¬ (result = .COMPLETE ∧ p.longOpen f.op.poles) → (sqOperationEnd f result p).pu = p.pu) := by
  have hpu : (closeLocked f p).pu = p.pu := by
    rw [closeLocked]
    split <;> simp
  have hdeparture : KeepsDeparture p (closeLocked f p) := by
    rw [closeLocked]
    split
    · exact recloseLocked_departure f hf
    · exact manualLocked_departure f p
  have hlong : (closeLocked f p).longOpen f.op.poles ↔ p.longOpen f.op.poles := by
    simp only [Part.longOpen, hpu, hdeparture _]
  obtain ⟨hpush, hkeep⟩ := coldLoadTest_pu f.op.poles (closeLocked f p)
  rw [hlong, hpu] at hpush hkeep
  rw [sqOperationEnd_close hk]
  by_cases hr : result = .COMPLETE
  · simp only [hr, true_and, if_pos]
    exact ⟨hpush, hkeep⟩
  · simp [hr, hpu]

end

end Sys2Proof.Machine
end

section
/-! PROOFS. How a fired operation ends (R9 to R12, R14, R20, R22; O29). -/

namespace Sys2Proof.Machine

/-! ### The drive at an end (R14) -/

theorem sqOperationEnd_body {p : Part} (h : p.dc.flight = none) (f : Flight) (r : OpResult) :
    (sqOperationEnd f r p).dc.body = p.dc.body := by
  unfold sqOperationEnd
  split
  · exact sqTripEnd_body h f
  · have hlock := lockWithGang_body (p := recloseMoved f p) h (.of (f.recloseFailed p) .MECH_FAIL) (!(f.recloseFailed p).isEmpty)
    rw [sqRecloseEnd_eq]
    split
    · rw [coldLoadTest_dc]
      exact hlock
    · exact hlock
  · have hlock := enterLockout_body (.of (f.op.poles.diff f.moved) .MECH_FAIL) (manualMoved f p)
    rw [sqManualEnd_eq]
    split
    · rw [coldLoadTest_dc]
      exact hlock
    · exact hlock

section
variable (f : Flight) (r : OpResult) (p : Part)

theorem clearHandle_poles_get (x : Pole) : (clearHandle f r p).dc.poles.get x =
    if (f.op.kind = .CLOSE ∧ (r = .COMPLETE ∨ r = .PARTIAL)) ∧ f.op.poles.has x = true ∧ p.position x = .CLOSED
    then { p.dc.poles.get x with handle := false } else p.dc.poles.get x := by
  by_cases h : f.op.kind = .CLOSE ∧ (r = .COMPLETE ∨ r = .PARTIAL)
  · simp [clearHandle, h, Part.showsClosed]
  · simp [clearHandle, h]

theorem clearHandle_bare : (clearHandle f r p).dc.bare = p.dc.bare := by
  simp only [clearHandle]
  split <;> rfl

theorem endFirst_free : (endFirst f p).dc.flight = none := Drive.flight_of_bare (endFirst_bare f p)

/-- Past its first steps an end changes the requests, the history and HANDLE. -/
theorem finish_body : (finish f r p).dc.body =
    (clearHandle f r (pushHistory f r (sqOperationEnd f r (endFirst f p)))).dc.body := by
  have hdc : (clearHandle f r (endLast f r (sqOperationEnd f r (endFirst f p)))).dc =
      (clearHandle f r (pushHistory f r (sqOperationEnd f r (endFirst f p)))).dc := by
    have hpush := endLast_dc f r (sqOperationEnd f r (endFirst f p))
    simp only [clearHandle, mapPoles]
    split
    · simp [Part.showsClosed, Part.position]
    · exact hpush
  simp only [finish, driveFreed_dc, hdc]
  rfl

theorem finish_dc_flight : (finish f r p).dc.flight = none := by
  rw [Drive.flight_of_body (finish_body f r p), Drive.flight_of_bare (clearHandle_bare f r _)]
  exact (Drive.flight_of_body (sqOperationEnd_body (endFirst_free f p) f r)).trans (endFirst_free f p)

theorem finish_dc_closePulse : (finish f r p).dc.closePulse = p.dc.closePulse := by
  have hfirst : (endFirst f p).dc.closePulse = (beginEnd p).dc.closePulse := Drive.closePulse_of_bare (endFirst_bare f p)
  rw [Drive.closePulse_of_body (finish_body f r p), Drive.closePulse_of_bare (clearHandle_bare f r _)]
  exact (Drive.closePulse_of_body (sqOperationEnd_body (endFirst_free f p) f r)).trans hfirst

/-- The operation becomes the newest entry of the history ring. -/
theorem finish_dc_history : ∃ c, (finish f r p).dc.history =
    (⟨{ f.op with state := .ENDED, result := some r }, f.start, c⟩ :: p.dc.history).take 16 := by
  have hfirst : (endFirst f p).dc.history = (beginEnd p).dc.history := Drive.history_of_bare (endFirst_bare f p)
  have hold : (sqOperationEnd f r (endFirst f p)).dc.history = p.dc.history :=
    (Drive.history_of_body (sqOperationEnd_body (endFirst_free f p) f r)).trans hfirst
  have hpush (q : Part) : ∃ c, (pushHistory f r q).dc.history =
      (⟨{ f.op with state := .ENDED, result := some r }, f.start, c⟩ :: q.dc.history).take 16 := ⟨_, rfl⟩
  obtain ⟨c, hc⟩ := hpush (sqOperationEnd f r (endFirst f p))
  refine ⟨c, ?_⟩
  rw [Drive.history_of_body (finish_body f r p), Drive.history_of_bare (clearHandle_bare f r _), hc, hold]

/-- A pole record at the end of an operation. -/
theorem finish_poles_get (x : Pole) : (finish f r p).dc.poles.get x =
    if (f.op.kind = .CLOSE ∧ (r = .COMPLETE ∨ r = .PARTIAL)) ∧ f.op.poles.has x = true ∧ p.position x = .CLOSED
    then { (endFirst f p).dc.poles.get x with handle := false } else (endFirst f p).dc.poles.get x := by
  have hpoles : (sqOperationEnd f r (endFirst f p)).dc.poles = (endFirst f p).dc.poles :=
    Drive.poles_of_body (sqOperationEnd_body (endFirst_free f p) f r)
  have hpushed : (pushHistory f r (sqOperationEnd f r (endFirst f p))).dc.poles = (endFirst f p).dc.poles := hpoles
  have hpos : (pushHistory f r (sqOperationEnd f r (endFirst f p))).position x = p.position x := by
    rw [← (endFirst_givesWay f p).position x, Part.position, Part.position, hpushed]
  rw [Drive.poles_of_body (finish_body f r p), clearHandle_poles_get, hpushed]
  exact if_congr (by rw [hpos]) rfl rfl

theorem finish_sameExcept : sameExcept (.pu :: .rs :: Block.watch) p (finish f r p) := by
  intro b hb
  cases b <;> simp [Block.watch] at hb <;> simp [Block.same]

end

/-! ### The pole records at an end (R12, R20) -/

section
variable (f : Flight) (p : Part) (x : Pole)

/-- A pole record before counts and wear. -/
theorem checkedRec_eq : (coilChecks f.fire (clearMotion f.fire (beginEnd p))).dc.poles.get x =
    let r := if f.fire.has x then { p.dc.poles.get x with motion := .NONE } else p.dc.poles.get x
    if f.fire.has x = true ∧ p.dc.coilOpen.has x = true ∧ r.mechFail = none then r.mech .COIL_OPEN else r := by
  rw [coilChecks_poles_get]
  simp only [clearMotion, poles_mapPoles]
  rfl

theorem Flight.countedRec_rest (r : PoleRec) :
    (f.countedRec x r).motion = r.motion ∧ (f.countedRec x r).mechFail = r.mechFail := by
  simp only [Flight.countedRec]
  split <;> split <;> exact ⟨rfl, rfl⟩

theorem endFirst_motion (h : f.fire.has x = true) : ((endFirst f p).dc.poles.get x).motion = .NONE := by
  rw [endFirst_poles_get, (f.countedRec_rest x _).1, checkedRec_eq]
  simp only [h, if_true]
  split <;> rfl

/-- MECH_FAIL is kept with its cause. -/
theorem endFirst_mechFail {c : MechCause} (h : (p.dc.poles.get x).mechFail = some c) :
    ((endFirst f p).dc.poles.get x).mechFail = some c := by
  rw [endFirst_poles_get, (f.countedRec_rest x _).2, checkedRec_eq]
  cases hf : f.fire.has x <;> simp [h]

theorem endFirst_counts {q : Part} (hc : (p.dc.poles.get x).count = (q.dc.poles.get x).count)
    (hw : (p.dc.poles.get x).wear = (q.dc.poles.get x).wear)
    (hl : (p.dc.poles.get x).lastCurrent = (q.dc.poles.get x).lastCurrent) :
    ((endFirst f p).dc.poles.get x).count = ((countAndWear f q).dc.poles.get x).count ∧
      ((endFirst f p).dc.poles.get x).wear = ((countAndWear f q).dc.poles.get x).wear := by
  have hchecked : ((coilChecks f.fire (clearMotion f.fire (beginEnd p))).dc.poles.get x).count = (q.dc.poles.get x).count ∧
      ((coilChecks f.fire (clearMotion f.fire (beginEnd p))).dc.poles.get x).wear = (q.dc.poles.get x).wear ∧
      ((coilChecks f.fire (clearMotion f.fire (beginEnd p))).dc.poles.get x).lastCurrent =
        (q.dc.poles.get x).lastCurrent := by
    rw [checkedRec_eq]
    dsimp only
    split <;> split <;> exact ⟨hc, hw, hl⟩
  obtain ⟨kc, kw, kl⟩ := hchecked
  rw [endFirst_poles_get, countAndWear_poles_get]
  simp only [Flight.countedRec_count, Flight.countedRec_wear, kc, kw, kl, and_self]

end

/-! ### What an end shows of the operation -/

/-- The drive after an operation ended, beside the part that the ending event found. -/
structure Ends (f : Flight) (r : OpResult) (p q : Part) : Prop where
  free : q.dc.flight = none
  history : ∃ h, q.dc.history = (h :: p.dc.history).take 16 ∧
    h.op = { f.op with state := .ENDED, result := some r } ∧ h.start = f.start
  motion : ∀ x, f.fire.has x = true → (q.dc.poles.get x).motion = .NONE
  mech : ∀ x, f.fire.has x = true → f.moved.has x = false →
    (q.dc.poles.get x).mechFail = some (((p.dc.poles.get x).mechFail).getD .NO_MOTION)
  worn : ∀ x, (q.dc.poles.get x).count = ((countAndWear f p).dc.poles.get x).count ∧
    (q.dc.poles.get x).wear = ((countAndWear f p).dc.poles.get x).wear
  handle : ∀ x, f.op.kind = .CLOSE → r ≠ .FAILED → f.op.poles.has x = true → q.position x = .CLOSED →
    (q.dc.poles.get x).handle = false

section
variable {f : Flight} {r : OpResult} {p q : Part}

theorem Ends.of_drive {t : Part} (h : Ends f r p q) (hf : t.dc.flight = q.dc.flight) (hh : t.dc.history = q.dc.history)
    (hp : t.dc.poles = q.dc.poles) : Ends f r p t where
  free := hf.trans h.free
  history := by rw [hh]; exact h.history
  motion := by rw [hp]; exact h.motion
  mech := by rw [hp]; exact h.mech
  worn := by rw [hp]; exact h.worn
  handle := by simp only [Part.position, hp]; exact h.handle

/-- An end of an operation beside an earlier part that shows the same but for MECH_FAIL, which an unmoved pole must show. -/
theorem finish_ends (hr : r = .COMPLETE ∨ r = .PARTIAL ∨ r = .FAILED) (hh : p.dc.history = q.dc.history)
    (hc : ∀ x, (p.dc.poles.get x).count = (q.dc.poles.get x).count ∧ (p.dc.poles.get x).wear = (q.dc.poles.get x).wear ∧
      (p.dc.poles.get x).lastCurrent = (q.dc.poles.get x).lastCurrent)
    (hm : ∀ x, f.fire.has x = true → f.moved.has x = false →
      (p.dc.poles.get x).mechFail = some (((q.dc.poles.get x).mechFail).getD .NO_MOTION)) : Ends f r q (finish f r p) where
  free := finish_dc_flight f r p
  history := by
    obtain ⟨c, hc⟩ := finish_dc_history f r p
    exact ⟨_, hc.trans (by rw [hh]), rfl, rfl⟩
  motion x hx := by
    rw [finish_poles_get]
    split <;> exact endFirst_motion f p x hx
  mech x hx hx' := by
    rw [finish_poles_get]
    split <;> exact endFirst_mechFail f p x (hm x hx hx')
  worn x := by
    obtain ⟨hcount, hwear, hlast⟩ := hc x
    rw [finish_poles_get]
    split <;> exact endFirst_counts f p x hcount hwear hlast
  handle x hk hn hx hpos := by
    have hposition : p.position x = .CLOSED := by rw [← hpos, (finish_givesWay f r p).position]
    have hmoved : r = .COMPLETE ∨ r = .PARTIAL := by tauto
    rw [finish_poles_get, if_pos ⟨⟨hk, hmoved⟩, hx, hposition⟩]

/-- The result of a window that ran out (R11, R14). -/
def Flight.outcome (f : Flight) : OpResult := if (f.fire.inter f.moved).isEmpty then .FAILED else .PARTIAL

theorem finishUnmoved_ends (f : Flight) (p : Part) : Ends f f.outcome p (finishUnmoved f p) := by
  have hpoles (x : Pole) : (applyAll (setMech .NO_MOTION) (f.fire.diff f.moved).members p).dc.poles.get x =
      if (f.fire.diff f.moved).has x then (p.dc.poles.get x).mech .NO_MOTION else p.dc.poles.get x :=
    applyAll_poles_get (setMech_poles_get .NO_MOTION) _ x p
  have hhistory : (applyAll (setMech .NO_MOTION) (f.fire.diff f.moved).members p).dc.history = p.dc.history :=
    Drive.history_of_bare (applyAll_keeps (f := setMech .NO_MOTION) (·.dc.bare) (setMech_bare .NO_MOTION) _ p)
  refine finish_ends (r := f.outcome) ?_ hhistory (fun x => ?_) fun x hx hm => ?_
  · rw [Flight.outcome]
    split <;> simp
  · rw [hpoles]
    split <;> exact ⟨rfl, rfl, rfl⟩
  · rw [hpoles, if_pos (by simp [hx, hm])]
    rfl

theorem finishUnmoved_sameExcept (f : Flight) (p : Part) : sameExcept (.pu :: .rs :: Block.watch) p (finishUnmoved f p) := by
  intro b hb
  cases b <;> simp [Block.watch] at hb <;> simp [Block.same]

theorem retryWindowExpiry_eq (h : p.dc.flight = some f) (hp : f.phase = .RETRY_WINDOW) :
    retryWindowExpiry p = finishUnmoved f p := by simp [retryWindowExpiry, h, hp]

theorem closeWindowExpiry_eq (h : p.dc.flight = some f) (hp : f.phase = .CLOSE_WINDOW) :
    closeWindowExpiry p = finishUnmoved f p := by simp [closeWindowExpiry, h, hp]

/-! ### The last pole moves (R9, R11) -/

/-- A pole seen to move is marked moved. -/
theorem Flight.sees_moves {x : Pole} {new : Position} (h : (f.op.kind = .CLOSE ∧ new = .CLOSED) ∨
    (f.op.kind = .TRIP ∧ new = .OPEN ∧ (f.mustLeave.has x = false ∨ f.hasLeft.has x = true))) :
    f.sees x new = { f with moved := f.moved.union (.single x) } := by
  rcases h with ⟨hk, hn⟩ | ⟨hk, hn, hleft⟩
  · simp [Flight.sees, hk, hn]
  · have hcond : (f.mustLeave.has x && !f.hasLeft.has x) = false := by
      rcases hleft with hleft | hleft <;> simp [hleft]
    simp [Flight.sees, hk, hn, hcond]

theorem flightContact_last {g : Flight} {x : Pole} {new : Position} (h : p.dc.flight = some f) (hg : f.sees x new = g)
    (hp : f.phase ≠ .RETRY_GAP) (hm : f.fire.subset g.moved = true) : flightContact x new p = finish g .COMPLETE p := by
  simp [flightContact, h, hg, hm, hp]

theorem blindCheck_body (h : p.dc.flight = none) : (blindCheck p).dc.body = p.dc.body := by
  simp only [blindCheck]
  split
  · exact noteAndTrip_body h _ _ _
  · rfl

/-- The last pole of an operation moves. -/
theorem contactChange_ends {g : Flight} {x : Pole} {a b : Bool} (coil : Bool) (h : p.dc.flight = some f)
    (hg : f.sees x (positionOf a b) = g) (hfire : g.fire = f.fire) (hmotion : (p.dc.poles.get x).motion ≠ .NONE)
    (hnew : positionOf a b ≠ p.position x) (hp : f.phase ≠ .RETRY_GAP) (hm : f.fire.subset g.moved = true) :
    Ends g .COMPLETE p (contactChange x a b coil p) := by
  have hfinish : Ends g .COMPLETE p (finish g .COMPLETE (movedPart x a b coil p)) := by
    refine finish_ends (.inl rfl) rfl (fun y => ?_) fun y hy hy' => ?_
    · have hpole : (movedPart x a b coil p).dc.poles.get y =
          if y = x then (p.dc.poles.get x).contacts a b else p.dc.poles.get y := by
        simp [movedPart, setInputs]
      rw [hpole]
      split
      · subst_vars
        exact ⟨rfl, rfl, rfl⟩
      · exact ⟨rfl, rfl, rfl⟩
    · have hmoved := (PoleSet.subset_iff _ _).1 hm y (hfire ▸ hy)
      simp [hmoved] at hy'
  have hbody : (contactChange x a b coil p).dc.body = (finish g .COMPLETE (movedPart x a b coil p)).dc.body := by
    rw [contactChange_changed x a b coil p (Ne.symm hnew), if_neg hmotion,
      flightContact_last (p := movedPart x a b coil p) h hg hp hm]
    dsimp only
    split
    · rfl
    · exact blindCheck_body (finish_dc_flight _ _ _)
  exact hfinish.of_drive (Drive.flight_of_body hbody) (Drive.history_of_body hbody) (Drive.poles_of_body hbody)

/-- The end of an event leaves what an end shows. -/
theorem Ends.endEvent {b : Part} (h : Ends f r p q) : Ends f r p (endEvent b q) :=
  h.of_drive (by simp) (by simp) (by simp)

end

end Sys2Proof.Machine
end

section
/-! PROOFS. The Sequencer's records at the end of a close (R55, R56, R59, R61, R62; O29). -/

namespace Sys2Proof.Machine

/-- The state, the shot and the timers of a record are those of another. -/
def SameRecord (r s : SeqRec) : Prop :=
  s.state = r.state ∧ s.shot = r.shot ∧ s.deadTimer = r.deadTimer ∧ s.reclaim = r.reclaim

section
variable {f : Flight} {p : Part} {x : Pole} (hk : f.op.kind = .CLOSE) (r : OpResult)

/-- A change of `newValue` shows in none of these. -/
theorem Reclaims.newValue {s : SeqRec} (h : Reclaims p x s) (b : Bool) : Reclaims p x { s with newValue := b } := h.congr rfl rfl

theorem closeLocked_reclose (hc : f.op.cause = .RECLOSE) (p : Part) : closeLocked f p = recloseLocked f p := if_pos hc

theorem closeLocked_manual (hc : f.op.cause ≠ .RECLOSE) (p : Part) : closeLocked f p = manualLocked f p := if_neg hc

include hk

theorem recloseEnd_moved (hc : f.op.cause = .RECLOSE) (hx : f.op.poles.has x = true) (hs : (p.seq x).state = .CLOSE_WAIT)
    (hm : f.moved.has x = true) (hlock : (∀ y, (f.recloseFailed p).has y = false) ∨ p.position x ≠ .OPEN) :
    Reclaims p x ((sqOperationEnd f r p).seq x) ∧ ((sqOperationEnd f r p).seq x).shot = (p.seq x).shot := by
  obtain ⟨b, hb⟩ := sqOperationEnd_close_seq hk r p x
  obtain ⟨hreclaims, hshot⟩ := recloseLocked_moved f hx hs hm hlock
  rw [hb, closeLocked_reclose hc]
  exact ⟨hreclaims.newValue b, hshot⟩

theorem recloseEnd_failed (hc : f.op.cause = .RECLOSE) (hx : f.op.poles.has x = true) (hs : (p.seq x).state = .CLOSE_WAIT)
    (hm : f.moved.has x = false) :
    ((sqOperationEnd f r p).seq x).state = .LOCKOUT ∧ ((sqOperationEnd f r p).seq x).lockout = some .MECH_FAIL := by
  obtain ⟨b, hb⟩ := sqOperationEnd_close_seq hk r p x
  rw [hb, closeLocked_reclose hc]
  exact recloseLocked_failed f hx hs hm

theorem recloseEnd_other (hc : f.op.cause = .RECLOSE) (hx : f.op.poles.has x = false ∨ (p.seq x).state ≠ .CLOSE_WAIT)
    (h : ∀ y, (f.recloseFailed p).has y = false) : SameRecord (p.seq x) ((sqOperationEnd f r p).seq x) := by
  obtain ⟨b, hb⟩ := sqOperationEnd_close_seq hk r p x
  rw [hb, closeLocked_reclose hc, recloseLocked_complete f h, recloseMoved_other f (hx.imp_right .inl)]
  exact ⟨rfl, rfl, rfl, rfl⟩

theorem recloseEnd_gang (hc : f.op.cause = .RECLOSE) (hf : p.dc.flight = none) (hrun : p.bc.partState = .RUN) {y : Pole}
    (hy : (f.recloseFailed p).has y = true) (hs : (p.seq x).state ≠ .LOCKOUT)
    (hw : (p.seq x).state = .CLOSE_WAIT → f.op.poles.has x = true ∨ (p.dc.seq.get x).isSome = true) :
    (p.position x = .OPEN → ((sqOperationEnd f r p).seq x).state = .LOCKOUT) ∧
      (p.position x ≠ .OPEN → ((sqOperationEnd f r p).seq x).state = .LOCKOUT ∨
        (sqOperationEnd f r p).dc.pendingPoles.has x = true) := by
  obtain ⟨b, hb⟩ := sqOperationEnd_close_seq hk r p x
  rw [hb, sqOperationEnd_close_dc hk, closeLocked_reclose hc]
  exact recloseLocked_gang f hf hrun hy hs hw

theorem manualEnd_moved (hc : f.op.cause ≠ .RECLOSE) (hx : f.op.poles.has x = true) (hm : f.moved.has x = true) :
    Reclaims p x ((sqOperationEnd f r p).seq x) ∧ ((sqOperationEnd f r p).seq x).shot = p.profile.opsToLockout - 1 ∧
      ((sqOperationEnd f r p).seq x).lockout = none := by
  obtain ⟨b, hb⟩ := sqOperationEnd_close_seq hk r p x
  obtain ⟨hreclaims, hshot, hlock⟩ := manualLocked_moved f (p := p) hx hm
  rw [hb, closeLocked_manual hc]
  exact ⟨hreclaims.newValue b, hshot, hlock⟩

theorem manualEnd_failed (hc : f.op.cause ≠ .RECLOSE) (hx : f.op.poles.has x = true) (hm : f.moved.has x = false) :
    ((sqOperationEnd f r p).seq x).state = .LOCKOUT ∧ ((sqOperationEnd f r p).seq x).lockout =
      if (p.seq x).state = .LOCKOUT then (p.seq x).lockout else some .MECH_FAIL := by
  obtain ⟨b, hb⟩ := sqOperationEnd_close_seq hk r p x
  rw [hb, closeLocked_manual hc]
  exact manualLocked_failed f hx hm

theorem manualEnd_other (hc : f.op.cause ≠ .RECLOSE) (hx : f.op.poles.has x = false) :
    SameRecord (p.seq x) ((sqOperationEnd f r p).seq x) := by
  obtain ⟨b, hb⟩ := sqOperationEnd_close_seq hk r p x
  rw [hb, closeLocked_manual hc, manualLocked_other f hx]
  exact ⟨rfl, rfl, rfl, rfl⟩

theorem manualEnd_trip (hc : f.op.cause ≠ .RECLOSE) : (sqOperationEnd f r p).dc.trip = p.dc.trip := by
  rw [sqOperationEnd_close_dc hk, closeLocked_manual hc, manualLocked_trip]

end

end Sys2Proof.Machine
end

section
namespace Sys2Proof.Machine

/-- Settles O29: the operation of the two timers and of the last contact ends through `finish`; its Sequencer is judged at the
close that ended. -/
theorem windowsEndOperations : Obligations.WindowsEndOperations := by
  constructor
  · intro s f hon hf result ends
    have hends (g : Flight) (r : OpResult) (q : Part) (h : Ends g r s.found q)
        (hframe : sameExcept (.pu :: .rs :: Block.watch) s.found q) :
        ends g r { s with part := endEvent s.found q } := by
      have hevent : sameExcept (.pu :: .rs :: Block.watch) s.found (endEvent s.found q) :=
        hframe.trans (sameExcept_of (by decide) (by simp) (by simp) (by simp) (by simp) (by simp) (.inl (by decide))
          (.inl (by decide)))
      have h := h.endEvent (b := s.found)
      exact ⟨h.free, h.history, h.motion, h.mech, h.worn, h.handle, hevent, hevent .eu (by decide)⟩
    refine ⟨fun hp => ?_, fun hp => ?_, ?_⟩
    · refine ⟨_, event_on hon, ?_⟩
      have hq := retryWindowExpiry_eq hf hp
      refine hends f result _ ?_ ?_ <;> rw [hq]
      · exact finishUnmoved_ends f s.found
      · exact finishUnmoved_sameExcept f s.found
    · refine ⟨_, event_on hon, ?_⟩
      have hq := closeWindowExpiry_eq hf hp
      refine hends f result _ ?_ ?_ <;> rw [hq]
      · exact finishUnmoved_ends f s.found
      · exact finishUnmoved_sameExcept f s.found
    · intro x a b coil g hmotion hnew hp hm hmoves
      refine ⟨_, event_on hon, ?_, hends g .COMPLETE _ ?_ ?_⟩
      · have hinputs := contactChange_inputs x a b coil s.found
        simp only [PoleRec.inputs, Prod.mk.injEq] at hinputs
        rw [Part.position, endEvent_dc_poles, PoleRec.position, hinputs.1, hinputs.2.1]
        rfl
      · exact contactChange_ends coil hf (Flight.sees_moves hmoves) rfl hmotion hnew hp hm
      · intro c hc
        refine contactChange_sameExcept x s.found a b coil c fun h => hc ?_
        simp only [List.mem_cons] at h ⊢
        tauto
  · intro f r p hf hrun hk q picked reclaims failed
    have hfailed : ¬ failed → ∀ y, (f.recloseFailed p).has y = false := fun h y =>
      Bool.eq_false_iff.2 fun hy => h ⟨y, f.recloseFailed_iff.1 hy⟩
    obtain ⟨hpush, hkeep⟩ := sqOperationEnd_close_pu hk r p hf
    refine ⟨fun hc => ⟨fun x hx hs => ⟨fun hm hlock => ?_, fun hm => recloseEnd_failed hk r hc hx hs hm⟩, fun x hx hn => ?_,
      fun ⟨y, hy⟩ x hs hw => ?_⟩, fun hc => ⟨fun x hx => ⟨fun hm => manualEnd_moved hk r hc hx hm,
      fun hm => manualEnd_failed hk r hc hx hm⟩, fun x hx => manualEnd_other hk r hc hx, manualEnd_trip hk r hc⟩, hpush, hkeep⟩
    · exact recloseEnd_moved hk r hc hx hs hm (hlock.imp_left hfailed)
    · exact recloseEnd_other hk r hc hx (hfailed hn)
    · exact recloseEnd_gang hk r hc hf hrun (f.recloseFailed_iff.2 hy) hs hw

end Sys2Proof.Machine
end

section
/-! PROOFS. The start of a close by the radio entry (R7, R8; O31): what it leaves of the crew entry. -/

namespace Sys2Proof.Machine

/-! ### A radio entry that is a CLOSE

`Obligations.CrewCloseStarts` names `Part.driveSane` in its text, for that an entry is a CLOSE, but claims of every radio entry
that its start leaves the crew entry. For a CLOSE this holds; a TRIP that stands as the radio entry may end in a sequence lockout,
whose gang trip ends the crew entry. -/

/-- A close that has moved every pole locks nobody out. -/
theorem closeLocked_crew {f : Flight} (hm : ∀ x, f.op.poles.has x = true → f.moved.has x = true) (p : Part) :
    (closeLocked f p).dc.crew = p.dc.crew := by
  have hfailed : (f.recloseFailed p).isEmpty = true := (PoleSet.isEmpty_iff _).2 fun x => Bool.eq_false_iff.2 fun hx => by
    obtain ⟨hop, hnot, -⟩ := f.recloseFailed_iff.1 hx
    simp [hm x hop] at hnot
  rw [closeLocked]
  split
  · simp [recloseLocked, hfailed, lockWithGang, recloseMoved]
  · simp [manualLocked, manualMoved]

theorem finish_crew_of_close {f : Flight} (hk : f.op.kind = .CLOSE) (hm : ∀ x, f.op.poles.has x = true → f.moved.has x = true)
    (r : OpResult) (p : Part) : (finish f r p).dc.crew = p.dc.crew := by
  have hfirst : (endFirst f p).dc.crew = (beginEnd p).dc.crew := Drive.crew_of_bare (endFirst_bare f p)
  have hend : (sqOperationEnd f r (endFirst f p)).dc.crew = p.dc.crew := by
    rw [sqOperationEnd_close_dc hk, closeLocked_crew hm, hfirst]
    rfl
  have hlast : (endLast f r (sqOperationEnd f r (endFirst f p))).dc.crew = p.dc.crew := by
    rw [endLast_dc]
    exact hend
  exact (Drive.crew_of_bare (clearHandle_bare f r _)).trans hlast

/-- A radio entry that is a CLOSE leaves the crew entry as it starts. -/
theorem startRadio_crew {e : LinkClose} (hk : e.op.kind = .CLOSE) (p : Part) : (startRadio e p).dc.crew = p.dc.crew := by
  simp only [startRadio]
  split
  · simp
  · split
    · simp
    · simp only [fireClose]
      split
      · rename_i hmoved
        exact finish_crew_of_close hk (fun x hx => (PoleSet.subset_iff _ _).1 hmoved x hx) _ _
      · rfl

/-! ### A radio entry that is a TRIP -/

/-- The part after reset with a charged bank, a TRIP of pole A standing as the ready radio entry, pole A in TRIP_WAIT past its
last shot, and a crew close of pole B that waits out its delay. -/
def strayTrip : Part :=
  let p := State.reset.part
  { p with
    nu := { p.nu with level := some 90, fresh := true }
    sq := { p.sq with recs := p.sq.recs.set .A { p.sq.recs.get .A with state := .TRIP_WAIT, shot := 4 } }
    dc := { p.dc with
      radio := some ⟨⟨1, .TRIP, .single .A, .MANUAL_CLOSE, [], .PENDING, none⟩, none⟩
      crew := some ⟨⟨2, .CLOSE, .single .B, .MANUAL_CLOSE, [], .DELAYED, none⟩, some 10000⟩ } }

theorem strayTrip_starts : strayTrip.on = true ∧ strayTrip.closeDue = true ∧ linkReady strayTrip.dc.crew = false ∧
    strayTrip.dc.readySeq.isEmpty = true := by decide +kernel

/-- No reachable part is like it. -/
theorem strayTrip_insane : strayTrip.driveSane = false := by decide +kernel

/-- Its start locks pole A out, and the trip of the gang that follows ends the crew entry (R16, R59). -/
theorem closeStart_strayTrip : (closeStart strayTrip).dc.crew = none := by decide +kernel

end Sys2Proof.Machine
end

section
namespace Sys2Proof.Machine

/-- Refutes O31: the crew entry is claimed to outlast the start of every ready radio entry, also in a part that
`Part.driveSane` excludes; in `strayTrip` the radio entry is a TRIP, and its end at once takes the crew entry with it. -/
theorem not_crewCloseStarts : ¬ Obligations.CrewCloseStarts := by
  intro h
  obtain ⟨hon, hdue, hcrew, hseq⟩ := strayTrip_starts
  obtain ⟨-, hradio, -⟩ := h ⟨[], strayTrip⟩ hon hdue
  obtain ⟨t, ht, -, hkept, -⟩ := hradio hcrew hseq _ rfl
  have hnext := ht.symm.trans (ownStep_on (f := closeStart) (s := ⟨[], strayTrip⟩) hon)
  have hpart := congrArg State.part (Host.Outcome.next.inj hnext)
  rw [hpart, endEvent_dc_crew, closeStart_strayTrip] at hkept
  exact absurd hkept (by decide +kernel)

end Sys2Proof.Machine
end

section
/-! PROOFS. The READ items on a free link: what each shows, and when its number is out of range (R89, R189, R209; O16). -/

namespace Sys2Proof.Machine

/-! ### What a READ item shows (R189) -/

/-- The claim is all that a loaded claim timer changes of the part (R89). -/
theorem loadClaimTimer_eq (l : Link) (p : Part) :
    loadClaimTimer l p = { p with pu := { p.pu with claim := (loadClaimTimer l p).pu.claim } } := by
  simp only [loadClaimTimer]
  repeat' split
  all_goals rfl

/-- No item shows the link records, nor the claim. -/
theorem readContent_withClaim (item n : Nat) (p : Part) (i : LinkInterface) (c : Option Claim) :
    readContent item n { p with li := i, pu := { p.pu with claim := c } } = readContent item n p := rfl

theorem readContent_passedPart (item n : Nat) (l : Link) (w : WaitReq) (p : Part) :
    readContent item n (passedPart l w p) = readContent item n p := by
  rw [passedPart_eq, loadClaimTimer_eq]
  exact readContent_withClaim item n p _ _

/-! ### A READ as its link brings it (R184, R185) -/

theorem passRefusal_read (l : Link) (i n : Byte) (p : Part) : passRefusal l (.read i n) p = none := by
  have hd : inDormant (.read i n) = true := rfl
  have hc : underLocalControl (.read i n) = true := rfl
  simp [passRefusal, hd, hc]

/-- The state that a READ leaves: the answer is in the outbound list, and the claim timer of the link has been loaded. -/
def readEnds (l : Link) (tag : Byte) (s : State) (code : AnswerCode) (content : List Byte) : Answer :=
  .next { s with part := send l (.answer 0xC5 tag code content) (loadClaimTimer l s.found) }

section
variable {l : Link} {tag i n : Byte} {s : State}

theorem request_readItem (hon : s.part.on = true) (hf : s.found.free l) {code : AnswerCode} {content : List Byte}
    (ho : (readRequest i n (passedPart l ⟨tag, .read i n⟩ s.found)).2 = some (code, content)) :
    request l tag (.read i n) s = readEnds l tag s code content :=
  request_read hon rfl rfl hf (passRefusal_read l i n _) rfl ho

/-- An item with its owner's records. -/
theorem read_done (hon : s.part.on = true) (hf : s.found.free l) {c : List Byte}
    (h : readContent i.toNat n.toNat s.found = some c) :
    request l tag (.read i n) s = readEnds l tag s .DONE (i :: n :: c) :=
  request_readItem hon hf (by simp [readRequest, readContent_passedPart, h])

/-- An item whose number is out of range. -/
theorem read_range (hon : s.part.on = true) (hf : s.found.free l) (h : readContent i.toNat n.toNat s.found = none) :
    request l tag (.read i n) s = readEnds l tag s .RANGE [i, n] :=
  request_readItem hon hf (by simp [readRequest, readContent_passedPart, h])

end

/-! ### The numbers out of range (R73, R93, R115, R172) -/

section
variable {n : Nat} (p : Part)

theorem readSequenceContent_range (h : 1 < n) : readSequenceContent n p = none := by
  unfold readSequenceContent
  split
  · omega
  · omega
  · rfl

theorem readTagsContent_range (h : 7 < n) : readTagsContent n p = none := if_pos h

theorem readRosterContent_range (h : 15 < n) : readRosterContent n p = none := if_pos h

theorem readQueueContent_range (h : 31 < n) : readQueueContent n p = none := if_pos h

theorem readGroupContent_stored (h : 1 ≤ n) (h' : n ≤ 4) :
    readGroupContent n p = some (groupBytes (p.pu.groups.get n)) := by
  simp [readGroupContent, within, h, h']

theorem readGroupContent_range (h : n = 0 ∨ 4 < n) : readGroupContent n p = none := by
  have : ¬ (1 ≤ n ∧ n ≤ 4) := by omega
  simpa [readGroupContent, within] using this

end

/-- Settles O16: every item reads its owner's records, and the claim timer alone is loaded. -/
theorem readsAnswer : Obligations.ReadsAnswer := by
  intro l tag n s hon hf ends
  have done {i m : Byte} {c : List Byte} (h : readContent i.toNat m.toNat s.found = some c) :
      request l tag (.read i m) s = ends .DONE (i :: m :: c) := read_done hon hf h
  have range {i m : Byte} (h : readContent i.toNat m.toNat s.found = none) :
      request l tag (.read i m) s = ends .RANGE [i, m] := read_range hon hf h
  exact ⟨done rfl, done rfl, done rfl, done rfl, done rfl, done rfl, done rfl,
    fun _ h => done h, fun h => range (readSequenceContent_range _ h),
    fun _ h => done h, fun h => range (readTagsContent_range _ h),
    fun _ h => done h, fun h => range (readRosterContent_range _ h),
    fun h h' => done (readGroupContent_stored _ h h'), fun h => range (readGroupContent_range _ h),
    fun _ h => done h, fun h => range (readQueueContent_range _ h)⟩

end Sys2Proof.Machine
end

section
/-! PROOFS. An element at a message: its state, its accumulator, its operate time, its arming and its curve (R32 to R37; O35, O37). -/

namespace Sys2Proof.Machine

/-! ### The state (R32) -/

theorem compareElement_pickedUp (s : ElemState) (i pickup : Nat) : compareElement s i pickup = .PICKED_UP ↔ pickup ≤ i := by
  unfold compareElement
  split <;> [skip; split] <;> simp_all

theorem compareElement_held (s : ElemState) (i pickup : Nat) :
    compareElement s i pickup = .HELD ↔ i < pickup ∧ 95 * pickup ≤ 100 * i ∧ s ≠ .IDLE := by
  unfold compareElement
  split
  · simp; omega
  · split <;> simp_all

/-! ### The operate time (R34) -/

/-- The multiples of a curve rise along the whole of it (R74, R77). -/
theorem ascending_pairwise {c : List Point} (h : ascending c = true) :
    c.Pairwise fun a b => a.multiple < b.multiple := by
  induction c with
  | nil => exact .nil
  | cons a rest ih =>
    cases rest with
    | nil => simp
    | cons b rest =>
      obtain ⟨hab, hrest⟩ : a.multiple < b.multiple ∧ ascending (b :: rest) = true := by simpa [ascending] using h
      obtain ⟨hb, hp⟩ := List.pairwise_cons.1 (ih hrest)
      refine List.pairwise_cons.2 ⟨fun o ho => ?_, ih hrest⟩
      rcases List.mem_cons.1 ho with rfl | ho
      · exact hab
      · exact hab.trans (hb o ho)

theorem operateTime_below {q : Point} {rest : List Point} {m : Nat} (h : ascending (q :: rest) = true) (hm : m < q.multiple) :
    operateTime (q :: rest) m = q.time := by
  cases rest with
  | nil => rfl
  | cons r rest =>
    have hr := (List.pairwise_cons.1 (ascending_pairwise h)).1 r (by simp)
    exact if_neg (by omega)

theorem operateTime_largest {c : List Point} {q : Point} {m : Nat} (h : ascending c = true) (hq : q ∈ c) (hm : q.multiple ≤ m)
    (hl : ∀ o ∈ c, o.multiple ≤ m → o.multiple ≤ q.multiple) : operateTime c m = q.time := by
  induction c with
  | nil => simp at hq
  | cons a rest ih =>
    cases rest with
    | nil => simp_all [operateTime]
    | cons b rest =>
      obtain ⟨ha, -⟩ := List.pairwise_cons.1 (ascending_pairwise h)
      have hrest : ascending (b :: rest) = true := by simp [ascending] at h; exact h.2
      by_cases hb : b.multiple ≤ m
      · have hne : q ≠ a := fun e => by
          have := hl b (by simp) hb
          have := ha b (by simp)
          rw [e] at *
          omega
        rw [operateTime, if_pos hb]
        exact ih hrest ((List.mem_cons.1 hq).resolve_left hne) fun o ho => hl o (List.mem_cons_of_mem _ ho)
      · rw [operateTime, if_neg hb]
        rcases List.mem_cons.1 hq with rfl | hq
        · rfl
        · have := (List.pairwise_cons.1 (ascending_pairwise hrest)).1
          rcases List.mem_cons.1 hq with rfl | hq
          · exact absurd hm hb
          · have := this q hq
            omega

/-! ### The accumulator of an armed element that is PICKED_UP (R34) -/

/-- The curve of a group that an element is on (R35). -/
def Group.curve (g : Group) : Curve → List Point
  | .FAST => g.fast
  | .DELAYED => g.delayed

section
variable {g : Group} {c : Curve} {acc i pickup interval : Nat}

/-- The accumulator reaches its limit at the high-set multiple or at an operate time of 0, and rises by its share otherwise. -/
theorem advance_eq (g : Group) (c : Curve) (acc i pickup interval : Nat) : advance g c acc i pickup interval =
    if (∃ h, g.highSet = some h ∧ h ≤ 10 * i / pickup) ∨ operateTime (g.curve c) (10 * i / pickup) = 0 then 10000
    else min 10000 (acc + (10000 * interval + operateTime (g.curve c) (10 * i / pickup) - 1) /
      operateTime (g.curve c) (10 * i / pickup)) := by
  cases c <;> cases hh : g.highSet <;> simp [advance, Group.curve, Config.accLimit, hh]

theorem advance_le (g : Group) (c : Curve) (acc i pickup interval : Nat) : advance g c acc i pickup interval ≤ 10000 := by
  rw [advance_eq]
  split
  · exact le_rfl
  · exact Nat.min_le_left _ _

theorem le_advance (g : Group) (c : Curve) (i pickup interval : Nat) (h : acc ≤ 10000) :
    acc ≤ advance g c acc i pickup interval := by
  rw [advance_eq]
  split
  · exact h
  · exact le_min h (Nat.le_add_right _ _)

theorem advance_highSet {h : Nat} (hs : g.highSet = some h) (hm : h ≤ 10 * i / pickup) :
    advance g c acc i pickup interval = 10000 := by
  rw [advance_eq, if_pos (.inl ⟨h, hs, hm⟩)]

theorem advance_time {time : Nat} (hs : ∀ h, g.highSet = some h → 10 * i / pickup < h)
    (ht : operateTime (g.curve c) (10 * i / pickup) = time) : advance g c acc i pickup interval =
      if time = 0 then 10000 else min 10000 (acc + (10000 * interval + time - 1) / time) := by
  have hlow : ¬ ∃ h, g.highSet = some h ∧ h ≤ 10 * i / pickup := fun ⟨h, he, hm⟩ => by have := hs h he; omega
  simp only [advance_eq, ht, hlow, false_or]

end

/-! ### The element (R32, R34, R37) -/

section
variable (e : Element) (g : Group) (armed : Bool) (c : Curve) (i pickup interval : Nat)

theorem Element.step_state : (e.step g armed c i pickup interval).state = compareElement e.state i pickup := rfl

theorem Element.step_acc_of_rest (h : compareElement e.state i pickup = .IDLE ∨ armed = false) :
    (e.step g armed c i pickup interval).acc = 0 := by
  rcases h with h | h <;> simp [step, h]

theorem Element.step_acc_of_held (h : compareElement e.state i pickup = .HELD) :
    (e.step g true c i pickup interval).acc = e.acc := by simp [step, h]

theorem Element.step_acc_of_pickedUp (h : compareElement e.state i pickup = .PICKED_UP) :
    (e.step g true c i pickup interval).acc = advance g c e.acc i pickup interval := by simp [step, h]

theorem Element.step_acc_le (h : e.acc ≤ 10000) : (e.step g armed c i pickup interval).acc ≤ 10000 := by
  cases armed with
  | false => simp [step_acc_of_rest]
  | true =>
    cases hs : compareElement e.state i pickup with
    | IDLE => simp [step_acc_of_rest, hs]
    | HELD => rw [step_acc_of_held _ _ _ _ _ _ hs]; exact h
    | PICKED_UP => rw [step_acc_of_pickedUp _ _ _ _ _ _ hs]; exact advance_le _ _ _ _ _ _

end

/-! ### Arming and curves (R35, R37) -/

section
variable (p : Part) (g : Group) (v : Values)

theorem Part.armed_iff (x : Pole) : p.armed x = true ↔ p.position x ≠ .OPEN ∧ p.dc.pendingPoles.has x = false ∧
    p.dc.tripping.has x = false ∧ (p.seq x).state ≠ .TRIP_WAIT := by
  simp [Part.armed, Part.showsOpen, and_assoc]

theorem Part.armed_isEmpty_iff : (PoleSet.ofFun p.armed).isEmpty = true ↔ ∀ x, p.armed x = false := by
  simp [PoleSet.isEmpty_iff]

theorem Part.groundStep_curve : (p.groundStep g v).curve = p.groundCurve g := by
  simp only [Part.groundStep]
  split <;> rfl

theorem Part.groundCurve_of_none (h : ∀ x, p.armed x = false) : p.groundCurve g = p.eu.ground.curve := by
  simp [Part.groundCurve, p.armed_isEmpty_iff.2 h]

theorem Part.groundCurve_of_armed (h : ∃ x, p.armed x = true) : p.groundCurve g =
    if (PoleSet.ofFun p.armed).any fun x => p.nextCurve g x == .FAST then .FAST else .DELAYED := by
  have hne : (PoleSet.ofFun p.armed).isEmpty ≠ true := by simpa [p.armed_isEmpty_iff] using h
  simp [Part.groundCurve, hne]

theorem Part.groundCurve_fast (h : ∃ x, p.armed x = true ∧ p.nextCurve g x = .FAST) : p.groundCurve g = .FAST := by
  obtain ⟨x, hx, hc⟩ := h
  rw [p.groundCurve_of_armed g ⟨x, hx⟩, if_pos ((PoleSet.any_iff _ _).2 ⟨x, by simpa using hx, by simpa using hc⟩)]

theorem Part.groundCurve_delayed (h : ∃ x, p.armed x = true) (hc : ∀ x, p.armed x = true → p.nextCurve g x = .DELAYED) :
    p.groundCurve g = .DELAYED := by
  rw [p.groundCurve_of_armed g h, if_neg]
  rintro hany
  obtain ⟨x, hx, hf⟩ := (PoleSet.any_iff _ _).1 hany
  simp [hc x (by simpa using hx)] at hf

theorem Part.phaseSteps_get (x : Pole) : (p.phaseSteps g v).get x =
    (p.eu.phase.get x).step g (p.armed x) (p.nextCurve g x) (v.phase.get x) g.phasePickup v.interval :=
  PerPole.get_ofFun _ _

theorem Part.groundStep_disabled (h : g.groundEnabled = false) :
    p.groundStep g v = ⟨.IDLE, 0, p.groundCurve g, !(PoleSet.ofFun p.armed).isEmpty⟩ := by simp [Part.groundStep, h]

theorem Part.groundStep_enabled (h : g.groundEnabled = true) : p.groundStep g v =
    p.eu.ground.step g (!(PoleSet.ofFun p.armed).isEmpty) (p.groundCurve g) v.ground g.groundPickup v.interval := by
  simp [Part.groundStep, h]

end

/-- Settles O35: disabled, element G is IDLE at 0; enabled, it is compared from IDLE. -/
theorem disabledGroundStaysIdle : Obligations.DisabledGroundStaysIdle := by
  intro p g v
  refine ⟨fun h => ?_, fun h hidle => ?_⟩
  · simp [p.groundStep_disabled g v h, ElementUnit.covered, ElementUnit.groundReached, Element.up, ElementUnit.phasesUp,
      Config.accLimit]
  · simp [p.groundStep_enabled g v h, Element.step_state, compareElement, hidle]

/-- Settles O37: the cases of the state, and the curve's point at the measured multiple. -/
theorem elementAccumulates : Obligations.ElementAccumulates := by
  refine ⟨fun e g armed c i pickup interval hacc => ?_, fun p g v => ⟨fun x => ⟨p.phaseSteps_get g v x, p.armed_iff x⟩, ?_, ?_, ?_⟩⟩
  · intro r curve m
    have hstate : r.state = compareElement e.state i pickup := rfl
    have hcurve : curve = g.curve c := by cases c <;> rfl
    have hup {h : r.state = .PICKED_UP} (ha : armed = true) : r.acc = advance g c e.acc i pickup interval := by
      subst ha
      exact e.step_acc_of_pickedUp g c i pickup interval h
    refine ⟨e.step_acc_le g armed c i pickup interval hacc, rfl, rfl, e.step_acc_of_rest g armed c i pickup interval,
      fun h ha => ?_, fun h ha => ?_, fun h ha k hk hm => ?_, (compareElement_pickedUp _ _ _).symm, compareElement_held _ _ _,
      fun h ha hs hasc q hq hp => ?_⟩
    · subst ha
      exact e.step_acc_of_held g c i pickup interval h
    · rw [hup (h := h) ha]
      exact le_advance _ _ _ _ _ hacc
    · rw [hup (h := h) ha]
      exact advance_highSet hk hm
    · rw [hup (h := h) ha]
      refine advance_time hs ?_
      rw [← hcurve]
      rcases hp with ⟨hm, hl⟩ | ⟨hhead, hm⟩
      · exact operateTime_largest hasc hq hm hl
      · obtain ⟨rest, hrest⟩ := List.head?_eq_some_iff.1 hhead
        rw [hrest] at hasc ⊢
        exact operateTime_below hasc hm
  · exact fun h => (p.groundStep_curve g v).trans (p.groundCurve_fast g h)
  · exact fun h hc => (p.groundStep_curve g v).trans (p.groundCurve_delayed g h hc)
  · exact fun h => (p.groundStep_curve g v).trans (p.groundCurve_of_none g h)

end Sys2Proof.Machine
end

section
/-! PROOFS. The pole set of an ask, and what the Sequencer makes of a multi-phase one (R13, R39 to R41, R48; O36). -/

namespace Sys2Proof.Machine

/-! ### The pole with the highest current (R41) -/

/-- The pole that stays the highest of two: the first where they tie (R41). -/
def higher (c : PerPole Nat) (m y : Pole) : Pole := if c.get m < c.get y then y else m

section
variable {c : PerPole Nat} {xs : List Pole} {m : Pole}

theorem foldl_higher_keeps (h : ∀ y ∈ xs, c.get y ≤ c.get m) : xs.foldl (higher c) m = m := by
  induction xs with
  | nil => rfl
  | cons y ys ih =>
    have hy : higher c m y = m := if_neg (by have := h y (by simp); omega)
    rw [List.foldl_cons, hy]
    exact ih fun z hz => h z (List.mem_cons_of_mem _ hz)

theorem foldl_higher_lt {n : Nat} (h : ∀ y ∈ xs, c.get y < n) (hm : c.get m < n) : c.get (xs.foldl (higher c) m) < n := by
  induction xs generalizing m with
  | nil => exact hm
  | cons y ys ih =>
    refine ih (fun z hz => h z (List.mem_cons_of_mem _ hz)) ?_
    unfold higher
    split
    · exact h y (by simp)
    · exact hm

/-- The first pole of the highest current is the one that is left. -/
theorem foldl_higher_first {l r : List Pole} {x : Pole} (hl : ∀ y ∈ l, c.get y < c.get x) (hr : ∀ y ∈ r, c.get y ≤ c.get x)
    (hm : c.get m < c.get x) : (l ++ x :: r).foldl (higher c) m = x := by
  have hx : higher c (l.foldl (higher c) m) x = x := if_pos (foldl_higher_lt hl hm)
  rw [List.foldl_append, List.foldl_cons, hx]
  exact foldl_higher_keeps hr

end

/-- The poles of a set stand in the order A, B, C. -/
theorem PoleSet.members_pairwise (s : PoleSet) : s.members.Pairwise fun x y => Pole.all.idxOf x < Pole.all.idxOf y :=
  .filter _ (by decide)

theorem highestCurrent_of_members {s : PoleSet} {x : Pole} {xs : List Pole} (h : s.members = x :: xs) (c : PerPole Nat) :
    highestCurrent s c = .single (xs.foldl (higher c) x) := by
  unfold highestCurrent
  rw [h]
  rfl

theorem highestCurrent_eq {s : PoleSet} {c : PerPole Nat} {x : Pole} (hx : s.has x = true)
    (hmax : ∀ y, s.has y = true → c.get y ≤ c.get x)
    (hfirst : ∀ y, s.has y = true → c.get y = c.get x → Pole.all.idxOf x ≤ Pole.all.idxOf y) :
    highestCurrent s c = .single x := by
  obtain ⟨l, r, hsplit⟩ := List.append_of_mem ((PoleSet.mem_members s x).2 hx)
  have hin (y : Pole) (hy : y ∈ l ++ x :: r) : s.has y = true := (PoleSet.mem_members s y).1 (hsplit ▸ hy)
  have hl (y : Pole) (hy : y ∈ l) : c.get y < c.get x := by
    have hs := hin y (by simp [hy])
    have hlt := (List.pairwise_append.1 (hsplit ▸ PoleSet.members_pairwise s)).2.2 y hy x (by simp)
    have hne : c.get y ≠ c.get x := fun e => by have := hfirst y hs e; omega
    have := hmax y hs
    omega
  have hr (y : Pole) (hy : y ∈ r) : c.get y ≤ c.get x := hmax y (hin y (by simp [hy]))
  cases l with
  | nil =>
    have hkeep : r.foldl (higher c) x = x := foldl_higher_keeps hr
    rw [highestCurrent_of_members hsplit, hkeep]
  | cons m l =>
    have hfold : (l ++ x :: r).foldl (higher c) m = x :=
      foldl_higher_first (fun y hy => hl y (List.mem_cons_of_mem _ hy)) hr (hl m (by simp))
    rw [highestCurrent_of_members (xs := l ++ x :: r) hsplit, hfold]

theorem highestCurrent_empty {s : PoleSet} (h : s.isEmpty = true) (c : PerPole Nat) : highestCurrent s c = .empty := by
  have hmem : s.members = [] := List.eq_nil_iff_forall_not_mem.2 fun x hx => by
    simp [(PoleSet.isEmpty_iff s).1 h x] at hx
  simp [highestCurrent, hmem]

/-! ### The pole set of an ask (R40, R41) -/

section
variable {u : ElementUnit} {v : Values}

theorem armedPoles_has (u : ElementUnit) (x : Pole) : u.armedPoles.has x = (u.phase.get x).armed := PoleSet.has_ofFun _ _

theorem askOf_multi (h : 2 ≤ u.phasesUp.count) : askOf .SINGLE u v = (u.armedPoles, true) := if_pos h

theorem askOf_one (h : u.phasesUp.count < 2) (hr : u.reached.isEmpty = false) : askOf .SINGLE u v = (u.reached, false) := by
  simp [askOf, Nat.not_le.2 h, hr]

theorem askOf_ground (h : u.phasesUp.count < 2) (hr : u.reached.isEmpty = true) :
    askOf .SINGLE u v = (highestCurrent u.armedPoles v.phase, false) := by
  simp [askOf, Nat.not_le.2 h, hr]

theorem tripDecision_asks {p : Part} (h : p.eu.reached.isEmpty = false ∨ p.eu.groundReached = true) (v : Values) :
    tripDecision v p =
      protectiveAsk (askOf p.sq.mode p.eu v).1 (askOf p.sq.mode p.eu v).2 { p with eu := p.eu.cleared } := by
  rcases h with h | h <;> simp [tripDecision, h]

end

/-! ### A record at rest through the merge of a trip (R13, R50, R55) -/

/-- A record at rest changes in its superseded mark alone. -/
def Marks (x : Pole) (p q : Part) : Prop := (p.seq x).atRest → ∃ b, q.seq x = { p.seq x with superseded := b }

section
variable {x : Pole} {p q r : Part}

theorem Marks.of_seq (h : q.seq x = p.seq x) : Marks x p q := fun _ => ⟨_, h⟩

theorem Marks.trans (h : Marks x p q) (k : Marks x q r) : Marks x p r := fun hp => by
  obtain ⟨b, hb⟩ := h hp
  obtain ⟨d, hd⟩ := k (by rw [hb]; exact hp)
  exact ⟨d, by rw [hd, hb]⟩

theorem endFirst_marks (f : Flight) (p : Part) : Marks x p (endFirst f p) := fun hp => by
  have hmech (xs : List Pole) (q : Part) : (applyAll (setMech .COIL_OPEN) xs q).seq x = q.seq x :=
    applyAll_keeps (f := setMech .COIL_OPEN) (·.seq x) (fun y q => by simp [Part.seq]) xs q
  have hwait : p.waitingPoles.has x = false := hp.not_wait
  have hbegun : ((clearMotion f.fire (beginEnd p)).seq x) = p.seq x := rfl
  have hcheck : (coilChecks f.fire (clearMotion f.fire (beginEnd p))).seq x = p.seq x := by
    rw [coilChecks, enterLockout_other, hmech, hbegun]
    rw [LockSet.get_of, if_neg]
    have hrest : ((applyAll (setMech .COIL_OPEN) ((f.fire.inter (clearMotion f.fire (beginEnd p)).dc.coilOpen).inter
        (clearMotion f.fire (beginEnd p)).sound).members (clearMotion f.fire (beginEnd p))).seq x).atRest := by
      rw [hmech, hbegun]
      exact hp
    simp [hrest.not_wait]
  exact ⟨(p.seq x).superseded, by simpa [endFirst, Part.seq] using hcheck⟩

theorem markSuperseded_marks (op : OpRec) (p : Part) : Marks x p (markSuperseded op p) := fun _ => by
  simp only [markSuperseded]
  split
  · rw [seq_mapSeq]
    split
    · simp only [SeqRec.markSuperseded]
      split <;> exact ⟨_, rfl⟩
    · exact ⟨_, rfl⟩
  · exact ⟨_, rfl⟩

theorem endSuperseded_marks (f : Flight) (p : Part) : Marks x p (endSuperseded f p) := by
  have hlast (q : Part) : Marks x q (driveFreed (endLast f .SUPERSEDED q)) :=
    .of_seq (by simp only [driveFreed, judgeQuiescence_seq]; simp [endLast, pushHistory, Part.seq])
  exact ((endFirst_marks f p).trans (markSuperseded_marks f.op _)).trans (hlast _)

theorem mergeTrip_marks (s : PoleSet) (e : ReqEntry) (p : Part) : Marks x p (mergeTrip s e p).1 := by
  have hsupersede (q : Part) : Marks x q (supersede q) := by
    unfold supersede
    split
    · split
      · exact Marks.trans (.of_seq (by simp [Part.seq])) (endSuperseded_marks _ _)
      · exact .of_seq rfl
    · exact .of_seq rfl
  simp only [mergeTrip]
  split
  · exact Marks.trans (.of_seq (by simp [Part.seq])) (hsupersede _)
  · split
    · split <;> exact .of_seq rfl
    · exact .of_seq rfl

end

/-! ### The Sequencer's ask (R48) -/

/-- The Sequencer's own protective request brings no further report and restarts no dead timer (R48, R49). -/
theorem seqTrip_protective {s : PoleSet} {p : Part} (hrun : p.bc.partState = .RUN) (hs : s.isEmpty = false) :
    seqTrip s .PROTECTIVE p =
      judgeQuiescence (mergeTrip s ⟨.SEQUENCER, .PROTECTIVE, s, none⟩ (clearEntries s p)).1 := by
  have hreport : reportedTrip s .PROTECTIVE .SEQUENCER p = (clearEntries s p, .empty) := rfl
  have hempty : PoleSet.empty.isEmpty = true := rfl
  rw [seqTrip, takeTrip_of_run hrun hs, mergedTrip, hreport]
  simp [addTrip, hempty]

/-- A pole of a multi-phase set that is closed or reclaims comes to await the trip's end with the gang (R40, R48). -/
theorem sqProtect_multi {s : PoleSet} {b : Bool} {p : Part} {x : Pole} (hx : s.has x = true)
    (h : (p.seq x).state = .CLOSED_IDLE ∨ (p.seq x).state = .TIMING ∨ (p.seq x).state = .RECLAIM) :
    (((sqProtect s true b p).1).seq x).state = .TRIP_WAIT ∧ (((sqProtect s true b p).1).seq x).ganged = true ∧
      (sqProtect s true b p).2.has x = true := by
  have hbring : (bringIn s b p).seq x = p.seq x := bringIn_seq (.inl (by rcases h with h | h | h <;> simp [h]))
  have hgang (fired open' : Bool) : (((p.seq x).protect fired open').joinGang true open').ganged = true := by
    rcases h with h | h | h <;> simp [SeqRec.protect, h, SeqRec.joinGang]
  refine ⟨(sqProtect_seq_closed hx h).1, ?_, by simp [sqProtect, hx]⟩
  simpa [sqProtect, hx, hbring] using hgang _ _

theorem protectiveAsk_of_run {s : PoleSet} {m : Bool} {p : Part} (hrun : p.bc.partState = .RUN) (hs : s.isEmpty = false) :
    protectiveAsk s m p = seqTrip (sqProtect s m false p).2 .PROTECTIVE (sqProtect s m false p).1 := by
  simp [protectiveAsk, hs, Part.isRun, hrun]

theorem PoleSet.isEmpty_of_has {s : PoleSet} {x : Pole} (h : s.has x = true) : s.isEmpty = false :=
  Bool.eq_false_iff.2 fun he => by simp [(PoleSet.isEmpty_iff s).1 he x] at h

theorem protectiveAsk_multi {s : PoleSet} {p : Part} {x : Pole} (hrun : p.bc.partState = .RUN) (hx : s.has x = true)
    (h : (p.seq x).state = .CLOSED_IDLE ∨ (p.seq x).state = .TIMING ∨ (p.seq x).state = .RECLAIM) :
    ((protectiveAsk s true p).seq x).state = .TRIP_WAIT ∧ ((protectiveAsk s true p).seq x).ganged = true := by
  obtain ⟨hstate, hgang, hwide⟩ := sqProtect_multi (b := false) hx h
  rw [protectiveAsk_of_run hrun (PoleSet.isEmpty_of_has hx),
    seqTrip_protective (by simpa using hrun) (PoleSet.isEmpty_of_has hwide), judgeQuiescence_seq]
  have hclear : (clearEntries (sqProtect s true false p).2 (sqProtect s true false p).1).seq x =
      (sqProtect s true false p).1.seq x := clearEntries_seq (by simp [hstate])
  obtain ⟨b, hb⟩ := mergeTrip_marks (sqProtect s true false p).2 ⟨.SEQUENCER, .PROTECTIVE, (sqProtect s true false p).2, none⟩ _
    (show ((clearEntries (sqProtect s true false p).2 (sqProtect s true false p).1).seq x).atRest by
      simp [hclear, SeqRec.atRest, hstate])
  rw [hb, hclear]
  exact ⟨hstate, hgang⟩

/-- Settles O36: the sets of the ask by the mode and the elements, and the multi-phase ask by the merge of its trip. -/
theorem askPoleSet : Obligations.AskPoleSet := by
  intro u v
  refine ⟨armedPoles_has u, rfl, fun h => ?_, fun h => ⟨?_, fun x hx => ?_, fun hr => ⟨fun hn => ?_, fun x hx hmax hfirst => ?_⟩⟩,
    fun p multi => rfl, fun p s x => protectiveAsk_multi, fun p h => tripDecision_asks h v⟩
  · rw [askOf_multi h]
    exact ⟨armedPoles_has u, rfl⟩
  · cases hr : u.reached.isEmpty with
    | true => rw [askOf_ground h hr]
    | false => rw [askOf_one h hr]
  · rw [askOf_one h (by rw [hx]; exact PoleSet.isEmpty_of_has (x := x) (by simp)), hx]
  · rw [askOf_ground h hr, highestCurrent_empty ((PoleSet.isEmpty_iff _).2 fun x => (armedPoles_has u x).trans (hn x))]
  · rw [askOf_ground h hr]
    exact highestCurrent_eq ((armedPoles_has u x).trans hx) (fun y hy => hmax y ((armedPoles_has u y).symm.trans hy))
      fun y hy => hfirst y ((armedPoles_has u y).symm.trans hy)

end Sys2Proof.Machine
end

section
/-! PROOFS. What the Sequencer was last told of measurement and what the Energy Unit holds of the bank level, through lockouts, trip
requests and reports (R28, R117). -/

namespace Sys2Proof.Machine

/-- The measurement state the Sequencer was last told, and the bank level with its freshness (R44, R116). -/
def Part.heard (p : Part) : MeasState × Option Nat × Bool := (p.sq.meas, p.nu.level, p.nu.fresh)

section
variable {p q : Part}

theorem Part.heard_congr (hs : q.sq.meas = p.sq.meas) (hn : q.nu = p.nu) : q.heard = p.heard := by
  simp [Part.heard, hs, hn]

theorem Part.meas_of_heard (h : q.heard = p.heard) : q.sq.meas = p.sq.meas := (Prod.ext_iff.1 h).1

theorem Part.level_of_heard (h : q.heard = p.heard) : q.nu.level = p.nu.level := (Prod.ext_iff.1 (Prod.ext_iff.1 h).2).1

theorem Part.fresh_of_heard (h : q.heard = p.heard) : q.nu.fresh = p.nu.fresh := (Prod.ext_iff.1 (Prod.ext_iff.1 h).2).2

end

@[simp] theorem applyAll_heard {α : Type} {f : α → Part → Part} (h : ∀ a p, (f a p).heard = p.heard) (as : List α) (p : Part) :
    (applyAll f as p).heard = p.heard := applyAll_keeps Part.heard h as p

/-! ### Reports, records and quiescence -/

@[simp] theorem send_heard (l : Link) (m : Message) (p : Part) : (send l m p).heard = p.heard :=
  Part.heard_congr (by simp) (by simp)

@[simp] theorem enterReport_heard (k : ReportKind) (s : Option PoleSet) (b : List Byte) (p : Part) :
    (enterReport k s b p).heard = p.heard := Part.heard_congr (by simp) (by simp)

@[simp] theorem tellLockouts_heard (b p : Part) : (tellLockouts b p).heard = p.heard := Part.heard_congr (by simp) (by simp)

@[simp] theorem judgeQuiescence_heard (p : Part) : (judgeQuiescence p).heard = p.heard :=
  Part.heard_congr (by simp) (by simp)

@[simp] theorem mapSeq_heard (s : PoleSet) (f : Pole → SeqRec → SeqRec) (p : Part) : (mapSeq s f p).heard = p.heard := rfl

@[simp] theorem notePoles_heard (s : PoleSet) (n : EndNote) (p : Part) : (notePoles s n p).heard = p.heard := rfl

@[simp] theorem startDead_heard (x : Pole) (p : Part) : (startDead x p).heard = p.heard := rfl

@[simp] theorem sqPickups_heard (s : PoleSet) (p : Part) : (sqPickups s p).heard = p.heard := judgeQuiescence_heard _

@[simp] theorem sqDropouts_heard (s : PoleSet) (p : Part) : (sqDropouts s p).heard = p.heard := judgeQuiescence_heard _

theorem endEvent_heard (b p : Part) : (endEvent b p).heard = p.heard := by simp [Part.heard]

/-! ### Entries that leave (R16, R46, R65) -/

@[simp] theorem releaseEntry_heard (e : EntryName) (p : Part) : (releaseEntry e p).heard = p.heard := rfl

@[simp] theorem dropSeq_heard (x : Pole) (p : Part) : (dropSeq x p).heard = p.heard := rfl

@[simp] theorem enterLockout_heard (c : LockSet) (p : Part) : (enterLockout c p).heard = p.heard :=
  (judgeQuiescence_heard _).trans (applyAll_heard dropSeq_heard _ p)

@[simp] theorem sendEnds_heard (op : OpRec) (r : OpResult) (p : Part) : (sendEnds op r p).heard = p.heard :=
  Part.heard_congr (by simp) (by simp)

@[simp] theorem endCrewEntry_heard (r : OpResult) (p : Part) : (endCrewEntry r p).heard = p.heard := by
  unfold endCrewEntry
  split
  · exact (sendEnds_heard _ _ _).trans rfl
  · rfl

@[simp] theorem endRadioEntry_heard (r : OpResult) (p : Part) : (endRadioEntry r p).heard = p.heard := by
  unfold endRadioEntry
  split
  · exact (sendEnds_heard _ _ _).trans rfl
  · rfl

@[simp] theorem endLinkEntries_heard (s : PoleSet) (r : OpResult) (p : Part) : (endLinkEntries s r p).heard = p.heard := by
  simp only [endLinkEntries]
  split <;> split <;> simp

@[simp] theorem cancelSeq_heard (x : Pole) (p : Part) : (cancelSeq x p).heard = p.heard := by
  simp only [cancelSeq]
  split <;> rfl

@[simp] theorem clearEntries_heard (s : PoleSet) (p : Part) : (clearEntries s p).heard = p.heard := by
  simp [clearEntries, cancelEntries]

/-! ### A close superseded by a trip (R13, R14) -/

@[simp] theorem setMech_heard (c : MechCause) (x : Pole) (p : Part) : (setMech c x p).heard = p.heard :=
  Part.heard_congr (by simp) (by simp)

@[simp] theorem endFirst_heard (f : Flight) (p : Part) : (endFirst f p).heard = p.heard := by
  have hcount (q : Part) : (countAndWear f q).heard = q.heard := Part.heard_congr (by simp) (by simp)
  simp only [endFirst, hcount, coilChecks, enterLockout_heard]
  exact applyAll_heard (setMech_heard _) _ _

@[simp] theorem releaseFlight_heard (op : OpRec) (p : Part) : (releaseFlight op p).heard = p.heard := by
  unfold releaseFlight
  split
  · rfl
  · exact applyAll_heard (fun x => releaseEntry_heard (.SEQ x)) _ p
  · exact applyAll_heard (fun e => releaseEntry_heard _) _ p

@[simp] theorem endSuperseded_heard (f : Flight) (p : Part) : (endSuperseded f p).heard = p.heard := by
  have hfreed (q : Part) : (driveFreed q).heard = q.heard := judgeQuiescence_heard _
  have hhistory (q : Part) : (pushHistory f .SUPERSEDED q).heard = q.heard := rfl
  have hmark (q : Part) : (markSuperseded f.op q).heard = q.heard := by
    simp only [markSuperseded]
    split <;> rfl
  simp [endSuperseded, hfreed, endLast, hhistory, doneReport, hmark]

/-! ### Trip requests (R4, R48, R49, R60) -/

@[simp] theorem mergeTrip_heard (s : PoleSet) (e : ReqEntry) (p : Part) : (mergeTrip s e p).1.heard = p.heard := by
  have htake (t : PoleSet) (q : Part) : (takeClosing t q).heard = q.heard := Part.heard_congr (by simp) (by simp)
  have hsupersede (q : Part) : (supersede q).heard = q.heard := by
    unfold supersede
    split
    · split
      · rw [endSuperseded_heard, htake]
      · rfl
    · rfl
  simp only [mergeTrip]
  split
  · exact (hsupersede _).trans (Part.heard_congr (by simp) (by simp))
  · split
    · split <;> rfl
    · rfl

@[simp] theorem bringIn_heard (s : PoleSet) (b : Bool) (p : Part) : (bringIn s b p).heard = p.heard :=
  applyAll_heard dropSeq_heard _ p

@[simp] theorem sqProtect_heard (s : PoleSet) (m b : Bool) (p : Part) : (sqProtect s m b p).1.heard = p.heard := by
  simp only [sqProtect, mapSeq_heard]
  split <;> simp

@[simp] theorem sqTripReport_heard (s : PoleSet) (c : OpCause) (w : Requester) (p : Part) :
    (sqTripReport s c w p).1.heard = p.heard := by
  unfold sqTripReport
  split
  · simp [sqCommandReport]
  · split <;> simp

@[simp] theorem addTrip_heard (s : PoleSet) (p : Part) : (addTrip s p).heard = p.heard := by
  unfold addTrip
  split <;> simp

@[simp] theorem restartDead_heard (s : PoleSet) (p : Part) : (restartDead s p).heard = p.heard := by
  have hstart (q : Part) : (startGang q).heard = q.heard := by
    unfold startGang
    repeat' split
    all_goals rfl
  have hjoin (q : Part) : (joinGangTimer q).heard = q.heard := by
    unfold joinGangTimer
    split
    · split <;> rfl
    · exact hstart q
  simp only [restartDead, hjoin]
  exact applyAll_heard startDead_heard _ p

@[simp] theorem takeTrip_heard (s : PoleSet) (c : OpCause) (w : Requester) (t : Option Byte) (p : Part) :
    (takeTrip s c w t p).1.heard = p.heard := by
  unfold takeTrip
  split
  · rfl
  · simp only [judgeQuiescence_heard]
    split <;> simp

@[simp] theorem noteAndTrip_heard (s : PoleSet) (n : EndNote) (c : OpCause) (p : Part) :
    (noteAndTrip s n c p).heard = p.heard := by
  unfold noteAndTrip
  split <;> simp [seqTrip]

@[simp] theorem blindCheck_heard (p : Part) : (blindCheck p).heard = p.heard := by
  unfold blindCheck
  split <;> simp

@[simp] theorem protectiveAsk_heard (s : PoleSet) (m : Bool) (p : Part) : (protectiveAsk s m p).heard = p.heard := by
  unfold protectiveAsk
  split <;> simp [seqTrip]

end Sys2Proof.Machine
end

section
/-! PROOFS. The loss of measurement (R28, R29, R67, R69; O34). -/

namespace Sys2Proof.Machine

/-! ### The frame of a change at the Element Unit -/

/-- What a change that the Element Unit makes leaves alone: the profiles, the tags, the time base and the power. -/
def Part.aside (p : Part) : Bool × ProfileUnit × TagUnit × Stamp × Option Link := (p.on, p.pu, p.tu, p.tb, p.restart)

theorem sameExcept_of_aside {p q : Part} (h : q.aside = p.aside) : sameExcept (.eu :: .rs :: Block.watch) p q := by
  simp only [Part.aside, Prod.mk.injEq] at h
  obtain ⟨hon, hpu, htu, htb, hrestart⟩ := h
  intro b hb
  cases b <;> simp [Block.watch] at hb
  · exact hon
  · exact hpu
  · exact htu
  · exact htb
  · exact hrestart

theorem endEvent_aside (b p : Part) : (endEvent b p).aside = p.aside := by simp [Part.aside]

/-! ### Measurement becomes LOST (R28) -/

theorem LinkClose.overlaps_full {e : Option LinkClose} (h : (LinkClose.poles e).isEmpty = false) :
    (LinkClose.poles e).overlaps .full = true := by
  have hinter : (LinkClose.poles e).inter .full = LinkClose.poles e := PoleSet.ext_has fun x => by simp
  simp [PoleSet.overlaps, hinter, h]

section
variable (p : Part)

theorem lossAtSequencer_eu : (lossAtSequencer p).eu = p.eu := by simp [lossAtSequencer]

theorem lossAtSequencer_aside : (lossAtSequencer p).aside = p.aside := by simp [Part.aside, lossAtSequencer]

/-- The Sequencer hears of the loss; the bank level is as it was. -/
theorem lossAtSequencer_heard : (lossAtSequencer p).heard = (.LOST, p.nu.level, p.nu.fresh) := by
  have hmap (q : Part) : (mapReclaim Reclaim.hold q).heard = q.heard := rfl
  have hends := endLinkEntries_heard .full .BLIND p
  rw [lossAtSequencer, blindCheck_heard, hmap, enterLockout_heard]
  simp only [Part.heard, Prod.mk.injEq] at hends ⊢
  exact ⟨trivial, hends.2⟩

/-- The entries of the links end before the Sequencer trips anything of its own (R16). -/
theorem lossAtSequencer_givesWay : GivesWay (endLinkEntries .full .BLIND p) (lossAtSequencer p) := by
  have hmap (q : Part) : GivesWay q (mapReclaim Reclaim.hold q) := mapSeq_givesWay _ _ q
  have htold (q : Part) : GivesWay q { q with sq := { q.sq with meas := .LOST } } := .of_same rfl rfl
  unfold lossAtSequencer
  exact (((htold _).trans (enterLockout_givesWay _ _)).trans (hmap _)).trans (blindCheck_givesWay _)

theorem lossAtSequencer_crew (h : (LinkClose.poles p.dc.crew).isEmpty = false) : (lossAtSequencer p).dc.crew = none :=
  (lossAtSequencer_givesWay p).crew_none (by rw [endLinkEntries_dc_crew, if_pos (LinkClose.overlaps_full h)])

theorem lossAtSequencer_radio (h : (LinkClose.poles p.dc.radio).isEmpty = false) : (lossAtSequencer p).dc.radio = none :=
  (lossAtSequencer_givesWay p).radio_none (by rw [endLinkEntries_dc_radio, if_pos (LinkClose.overlaps_full h)])

end

/-- The part as the loss finds the Sequencer: LOST at the Element Unit, the level stale, the charger's runs cleared (R28, R117). -/
def lostPart (p : Part) : Part :=
  batteryMeas false (markStale { p with eu := { p.eu with state := .LOST, lossTimer := none, run := 0 } })

theorem lose_eq (p : Part) : ∃ arrival,
    lose p = enterReport .MEAS_LOST none arrival (tellLockouts p (lossAtSequencer (lostPart p))) := by
  unfold lose lostPart
  exact ⟨_, rfl⟩

section
variable (p : Part)

theorem lose_eu : (lose p).eu = { p.eu with state := .LOST, lossTimer := none, run := 0 } := by
  obtain ⟨a, h⟩ := lose_eq p
  rw [h, enterReport_eu, tellLockouts_eu, lossAtSequencer_eu]
  rfl

theorem lose_aside : (lose p).aside = p.aside := by
  obtain ⟨a, h⟩ := lose_eq p
  have hreport : (lose p).aside = (lossAtSequencer (lostPart p)).aside := by simp [h, Part.aside]
  exact hreport.trans (lossAtSequencer_aside _)

theorem lose_heard : (lose p).heard = (.LOST, p.nu.level, false) := by
  obtain ⟨a, h⟩ := lose_eq p
  rw [h, enterReport_heard, tellLockouts_heard, lossAtSequencer_heard]
  rfl

theorem lose_meas : (lose p).sq.meas = .LOST := congrArg (·.1) (lose_heard p)

theorem lose_fresh : (lose p).nu.fresh = false := congrArg (·.2.2) (lose_heard p)

theorem lose_dc : (lose p).dc = (lossAtSequencer (lostPart p)).dc := by
  obtain ⟨a, h⟩ := lose_eq p
  simp [h]

end

theorem lossTimerExpiry_ok {p : Part} (ht : p.eu.lossTimer.isSome = true) (h : p.eu.state = .OK) : lossTimerExpiry p = lose p := by
  obtain ⟨n, hn⟩ := Option.isSome_iff_exists.1 ht
  simp [lossTimerExpiry, hn, Part.measOk, h]

theorem lossTimerExpiry_other {p : Part} (ht : p.eu.lossTimer.isSome = true) (h : p.eu.state ≠ .OK) :
    lossTimerExpiry p = { p with eu := { p.eu with lossTimer := none, run := 0 } } := by
  obtain ⟨n, hn⟩ := Option.isSome_iff_exists.1 ht
  simp [lossTimerExpiry, hn, Part.measOk, h]

theorem lossTimerExpiry_aside (p : Part) : (lossTimerExpiry p).aside = p.aside := by
  unfold lossTimerExpiry
  split
  · split
    · exact lose_aside p
    · rfl
  · rfl

/-- Settles O34: from OK by what the loss makes of each block, and otherwise by the run that is broken. -/
theorem lossMakesMeasurementLost : Obligations.LossMakesMeasurementLost := by
  intro s hon ht
  have haside := (endEvent_aside s.found (lossTimerExpiry s.found)).trans (lossTimerExpiry_aside s.found)
  refine ⟨_, event_on hon, sameExcept_of_aside haside, ?_⟩
  by_cases h : s.found.eu.state = .OK
  · rw [lossTimerExpiry_ok ht h]
    refine ⟨by simp [lose_eu], by simp [lose_eu], by simp [lose_eu], by simp [lose_eu],
      fun _ => ⟨by simp [lose_eu], by simp [lose_meas], by simp [lose_fresh], fun hc => ?_, fun hr => ?_⟩, fun hn => absurd h hn⟩
    · rw [endEvent_dc_crew, lose_dc]
      exact lossAtSequencer_crew _ hc
    · rw [endEvent_dc_radio, lose_dc]
      exact lossAtSequencer_radio _ hr
  · rw [lossTimerExpiry_other ht h]
    exact ⟨by simp, by simp, by simp, by simp, fun hok => absurd hok h, fun _ => ⟨by simp, by simp⟩⟩

end Sys2Proof.Machine
end

section
/-! PROOFS. The Battery Controller at a message: the charge count, the energy level, the heater and the charger (R136, R139, R140, R143 to
R145, R152). -/

namespace Sys2Proof.Machine

/-! ### What a step at the charger leaves (R142 to R149) -/

/-- A battery without its charger, its test and its timers: the charge, the energy level, the heater and what they are judged by. -/
def Battery.stock (b : Battery) : Battery :=
  { b with
    mode := .OFF, wait := none, vals := none, absorbTaper := none, absorbTime := none, floatLow := none, taperRun := none
    socTimer := 0, test := newTest .PERIODIC none, hours := 0, intervalMs := 0, posted := false, load := false
    procPower := false }

section
variable {b c : Battery} (h : b.stock = c.stock)
include h

theorem Battery.soc_of_stock : b.soc = c.soc := congrArg (·.soc) h
theorem Battery.rem_of_stock : b.rem = c.rem := congrArg (·.rem) h
theorem Battery.capacity_of_stock : b.capacity = c.capacity := congrArg (·.capacity) h
theorem Battery.health_of_stock : b.health = c.health := congrArg (·.health) h
theorem Battery.supply_of_stock : b.supply = c.supply := congrArg (·.supply) h
theorem Battery.partState_of_stock : b.partState = c.partState := congrArg (·.partState) h
theorem Battery.level_of_stock : b.level = c.level := congrArg (·.level) h
theorem Battery.heater_of_stock : b.heater = c.heater := congrArg (·.heater) h
theorem Battery.okTemp_of_stock : b.okTemp = c.okTemp := congrArg (·.okTemp) h

end

/-- A step that leaves the elements, the charge, the energy level and the heater, what the Sequencer heard of measurement, the bank
level, and the blocks that a message does not touch. -/
structure Steady (p q : Part) : Prop where
  eu : q.eu = p.eu
  aside : q.aside = p.aside
  heard : q.heard = p.heard
  stock : q.bc.stock = p.bc.stock

section
variable {p q r : Part}

theorem Steady.refl (p : Part) : Steady p p := ⟨rfl, rfl, rfl, rfl⟩

theorem Steady.trans (h : Steady p q) (k : Steady q r) : Steady p r :=
  ⟨k.eu.trans h.eu, k.aside.trans h.aside, k.heard.trans h.heard, k.stock.trans h.stock⟩

/-- A steady step after another: the last first, as the operations are written. -/
theorem Steady.after (k : Steady q r) (h : Steady p q) : Steady p r := h.trans k

theorem Steady.of_bc {b : Battery} (h : b.stock = p.bc.stock) : Steady p { p with bc := b } := ⟨rfl, rfl, rfl, h⟩

theorem Steady.ite {c : Prop} [Decidable c] (h : c → Steady p q) (k : ¬ c → Steady p r) : Steady p (if c then q else r) := by
  split
  · exact h ‹_›
  · exact k ‹_›

end

theorem send_steady (l : Link) (m : Message) (p : Part) : Steady p (send l m p) :=
  ⟨by simp, by simp [Part.aside], by simp, by simp⟩

theorem enterReport_steady (k : ReportKind) (s : Option PoleSet) (b : List Byte) (p : Part) : Steady p (enterReport k s b p) :=
  ⟨by simp, by simp [Part.aside], by simp, by simp⟩

theorem reportLevel_steady (l : EnergyLevel) (p : Part) : Steady p (reportLevel l p) :=
  ⟨by simp, by simp [Part.aside], Part.heard_congr (by simp) (by simp), by simp⟩

theorem retain_steady (i : Item) (p : Part) : Steady p (retain i p) := ⟨rfl, rfl, rfl, rfl⟩

theorem judgeLine_steady (p : Part) : Steady p (judgeLine p) := ⟨rfl, rfl, rfl, rfl⟩

theorem reportMode_steady (old new : ChargerMode) (p : Part) : Steady p (reportMode old new p) := enterReport_steady _ _ _ _

theorem moveMode_steady (m : ChargerMode) (p : Part) : Steady p (moveMode m p) := by
  simp only [moveMode]
  refine .ite (fun _ => .refl p) fun _ => .ite (fun _ => .of_bc rfl) fun _ => ?_
  exact (reportMode_steady _ _ _).after (.of_bc rfl)

theorem abandonTest_steady (m : ChargerMode) (b : Bool) (p : Part) : Steady p (abandonTest m b p) := by
  have hend (t : TestRec) (q : Part) : Steady q (testEnd t .ABANDONED q) := by
    unfold testEnd
    split
    · exact send_steady _ _ _
    · exact .refl q
  simp only [abandonTest]
  refine .ite (fun _ => (hend _ _).after ?_) fun _ => .refl p
  split
  · exact (enterReport_steady _ _ _ _).after (.of_bc rfl)
  · exact .of_bc rfl

theorem takeTrip_steady (s : PoleSet) (c : OpCause) (w : Requester) (t : Option Byte) (p : Part) :
    Steady p (takeTrip s c w t p).1 := ⟨by simp, by simp [Part.aside], by simp, by simp⟩

theorem judgeExhaustion_steady (p : Part) : Steady p (judgeExhaustion p) := by
  have htell (b q : Part) : Steady q (tellLockouts b q) := ⟨by simp, by simp [Part.aside], by simp, by simp⟩
  have htrip (q : Part) : Steady q (exhaustionTrip q).1 := by
    unfold exhaustionTrip
    split
    · exact (takeTrip_steady _ _ _ _ q).trans (htell _ _)
    · exact .refl q
  simp only [judgeExhaustion]
  exact .ite (fun _ => .after (.of_bc rfl) ((enterReport_steady _ _ _ _).after (htrip p))) fun _ => .refl p

theorem levelWait_steady (p : Part) : Steady p (levelWait p) :=
  .ite (fun _ => judgeExhaustion_steady p) fun _ => .of_bc rfl

theorem inhibitCharger_steady (m : ChargerMode) (p : Part) : Steady p (inhibitCharger m p) := by
  simp only [inhibitCharger]
  refine .ite (fun _ => ?_) fun _ => (moveMode_steady m p).trans (abandonTest_steady _ _ _)
  exact (reportMode_steady _ _ _).after ((abandonTest_steady _ _ _).after (.of_bc rfl))

theorem chargerMessage_steady (v : BatValues) (p : Part) : Steady p (chargerMessage v p) := by
  have hruns (q : Part) : Steady q (chargerRuns v q) := .of_bc rfl
  have hinhibit (q : Part) : Steady q (leaveInhibit v.temp q) := .ite (fun _ => moveMode_steady _ _) fun _ => .refl q
  have hbulk (q : Part) : Steady q (leaveBulk v.voltage q) := .ite (fun _ => moveMode_steady _ _) fun _ => .refl q
  simp only [chargerMessage]
  refine .ite (fun _ => hruns p) fun _ => ?_
  split
  · exact .ite (fun _ => .refl p) fun _ => inhibitCharger_steady _ _
  · exact ((hinhibit p).trans (hbulk _)).trans (hruns _)

/-! ### The heater (R145) -/

/-- The heater that a judgement makes of one that was on or off. -/
def Part.heaterFrom (p : Part) (on : Bool) : Bool :=
  heaterAfter on p.measOk p.isRun p.bc.supply (p.bc.level == .NORMAL) p.bc.okTemp

theorem judgeHeater_heater (p : Part) : (judgeHeater p).bc.heater = p.heaterFrom p.bc.heater := rfl

/-- A second judgement of the same records changes nothing. -/
theorem Part.heaterFrom_idem (p : Part) (on : Bool) : p.heaterFrom (p.heaterFrom on) = p.heaterFrom on := by
  unfold Part.heaterFrom heaterAfter
  cases p.bc.okTemp with
  | none => rfl
  | some t => cases on <;> grind

theorem Part.heaterFrom_iff {p : Part} {t : Int} (hok : p.eu.state = .OK) (hrun : p.bc.partState = .RUN)
    (ht : p.bc.okTemp = some t) (on : Bool) : p.heaterFrom on = true ↔
      (p.bc.supply = true ∨ p.bc.level = .NORMAL) ∧ if on then t < -5 else t < -10 := by
  cases on with
  | false => simp [Part.heaterFrom, heaterAfter, Part.measOk, Part.isRun, hok, hrun, ht, and_comm]
  | true => simp [Part.heaterFrom, heaterAfter, Part.measOk, Part.isRun, hok, hrun, ht, or_iff_not_imp_left]

theorem Steady.heaterFrom {p q : Part} (h : Steady p q) (on : Bool) : q.heaterFrom on = p.heaterFrom on := by
  simp [Part.heaterFrom, Part.measOk, Part.isRun, h.eu, Battery.partState_of_stock h.stock, Battery.supply_of_stock h.stock,
    Battery.level_of_stock h.stock, Battery.okTemp_of_stock h.stock]

/-! ### The energy level (R139, R140) -/

theorem levelFromSoc_cases (u : UnitRec) (permille : Nat) : levelFromSoc u permille =
    if u.conserve ≤ permille then .NORMAL else if u.reserve ≤ permille then .CONSERVE
    else if u.cutoff ≤ permille then .RESERVE else .EXHAUSTED := rfl

/-- A weak battery is never at NORMAL, and a failed one neither at NORMAL nor at CONSERVE (R139). -/
theorem energyLevelOf_eq (u : UnitRec) (permille : Nat) (h : Health) : energyLevelOf u permille h =
    match h with
    | .WEAK => if levelFromSoc u permille = .NORMAL then .CONSERVE else levelFromSoc u permille
    | .FAILED => if levelFromSoc u permille = .EXHAUSTED then .EXHAUSTED else .RESERVE
    | _ => levelFromSoc u permille := by
  cases h <;> simp only [energyLevelOf] <;> cases levelFromSoc u permille <;> rfl

/-- A step at which the energy level becomes another, and the heater is judged under it; otherwise as in `Steady`. -/
structure Levels (new : EnergyLevel) (p q : Part) : Prop where
  eu : q.eu = p.eu
  aside : q.aside = p.aside
  heard : q.heard = p.heard
  stock : q.bc.stock = { p.bc with level := new, heater := q.bc.heater }.stock
  heater : q.bc.heater = q.heaterFrom p.bc.heater

theorem Levels.of_steady {new : EnergyLevel} {p q r : Part} (h : Steady { p with bc := { p.bc with level := new } } q)
    (k : Steady (judgeHeater q) r) : Levels new p r := by
  have hheater : r.bc.heater = q.heaterFrom q.bc.heater := Battery.heater_of_stock k.stock
  have hon : q.bc.heater = p.bc.heater := (Battery.heater_of_stock h.stock).trans rfl
  refine ⟨k.eu.trans h.eu, k.aside.trans h.aside, k.heard.trans h.heard, ?_, ?_⟩
  · rw [k.stock, hheater]
    exact congrArg (fun b : Battery => { b with heater := q.heaterFrom q.bc.heater }) h.stock
  · rw [hheater, hon]
    exact (k.heaterFrom p.bc.heater).symm

/-- The part as a change of the energy level finds the heater: the level is set, reported, and handed on (R140). -/
def levelTold (new : EnergyLevel) (p : Part) : Part :=
  let body := [byte p.bc.level.code, byte new.code] ++ two p.bc.permille ++ [byte p.bc.health.code]
  retain .SOC (reportLevel new (judgeLine (enterReport .LEVEL_CHANGE none body { p with bc := { p.bc with level := new } })))

theorem levelChanged_eq (new : EnergyLevel) (p : Part) : levelChanged new p = levelWait
    (if new = .NORMAL then judgeHeater (levelTold new p) else abandonRestoring (judgeHeater (levelTold new p))) := rfl

theorem levelChanged_levels (new : EnergyLevel) (p : Part) : Levels new p (levelChanged new p) := by
  have htold : Steady { p with bc := { p.bc with level := new } } (levelTold new p) :=
    (retain_steady _ _).after ((reportLevel_steady _ _).after ((judgeLine_steady _).after (enterReport_steady _ _ _ _)))
  refine .of_steady htold ?_
  rw [levelChanged_eq]
  exact (levelWait_steady _).after (.ite (fun _ => .refl _) fun _ => abandonTest_steady _ _ _)

/-! ### The charge of a message (R136, R139) -/

theorem Battery.permille_of_stock {b c : Battery} (h : b.stock = c.stock) : b.permille = c.permille := by
  simp [Battery.permille, Battery.soc_of_stock h, Battery.capacity_of_stock h]

/-- What a new charge leaves of a part: the counts as given, the energy level judged where the per-mille SoC has changed, and the
heater as it was or judged under the level. -/
structure Counted (soc rem : Nat) (p q : Part) : Prop where
  eu : q.eu = p.eu
  aside : q.aside = p.aside
  heard : q.heard = p.heard
  stock : q.bc.stock = { p.bc with soc := soc, rem := rem, level := q.bc.level, heater := q.bc.heater }.stock
  same : q.bc.permille = p.bc.permille → q.bc.level = p.bc.level
  judged : q.bc.permille ≠ p.bc.permille → q.bc.level = energyLevelOf p.pu.unit q.bc.permille p.bc.health
  heater : q.bc.heater = p.bc.heater ∨ q.bc.heater = q.heaterFrom p.bc.heater

/-- The part with a new charge, before the energy level is judged. -/
def chargedPart (soc rem : Nat) (p : Part) : Part := { p with bc := { p.bc with soc := soc, rem := rem } }

theorem setSoc_counted (soc rem : Nat) (p : Part) : Counted soc rem p (setSoc soc rem p) := by
  have hcharged : setSoc soc rem p = if (chargedPart soc rem p).bc.permille = p.bc.permille then chargedPart soc rem p
      else judgeLevel (chargedPart soc rem p) := rfl
  rw [hcharged]
  by_cases hm : (chargedPart soc rem p).bc.permille = p.bc.permille
  · rw [if_pos hm]
    exact ⟨rfl, rfl, rfl, rfl, fun _ => rfl, fun hn => absurd hm hn, .inl rfl⟩
  · rw [if_neg hm]
    let new := energyLevelOf p.pu.unit (chargedPart soc rem p).bc.permille p.bc.health
    have hjudge : judgeLevel (chargedPart soc rem p) =
        if new = p.bc.level then chargedPart soc rem p else levelChanged new (chargedPart soc rem p) := rfl
    rw [hjudge]
    by_cases hl : new = p.bc.level
    · rw [if_pos hl]
      exact ⟨rfl, rfl, rfl, rfl, fun _ => rfl, fun _ => hl.symm, .inl rfl⟩
    · rw [if_neg hl]
      have h := levelChanged_levels new (chargedPart soc rem p)
      have hlevel : (levelChanged new (chargedPart soc rem p)).bc.level = new := (Battery.level_of_stock h.stock).trans rfl
      have hpermille : (levelChanged new (chargedPart soc rem p)).bc.permille = (chargedPart soc rem p).bc.permille :=
        (Battery.permille_of_stock h.stock).trans rfl
      refine ⟨h.eu, h.aside, h.heard, ?_, fun hs => absurd (hpermille.symm.trans hs) hm, fun _ => ?_, .inr h.heater⟩
      · rw [h.stock, hlevel]
        rfl
      · rw [hlevel, hpermille]

end Sys2Proof.Machine
end

section
/-! PROOFS. A measurement message (R24 to R29, R42, R117, R136, R139, R145; O33). -/

namespace Sys2Proof.Machine

/-! ### The Battery Controller at a message -/

/-- The count of R136 over the whole charge, in mA·ms. -/
theorem countCharge_below {soc rem capacity : Nat} {charge : Int} (h : ((soc : Int) * 3600000 + rem + charge) / 3600000 < 0) :
    countCharge soc rem capacity charge = (0, 0) := if_pos h

theorem countCharge_above {soc rem capacity : Nat} {charge : Int}
    (h : (capacity : Int) < ((soc : Int) * 3600000 + rem + charge) / 3600000) :
    countCharge soc rem capacity charge = (capacity, 0) :=
  (if_neg (by simp only [Config.perMah] at *; omega)).trans (if_pos h)

theorem countCharge_within {soc rem capacity : Nat} {charge : Int} (h : 0 ≤ ((soc : Int) * 3600000 + rem + charge) / 3600000)
    (h' : ((soc : Int) * 3600000 + rem + charge) / 3600000 ≤ capacity) : countCharge soc rem capacity charge =
      ((((soc : Int) * 3600000 + rem + charge) / 3600000).toNat, (((soc : Int) * 3600000 + rem + charge) % 3600000).toNat) :=
  (if_neg (Int.not_lt.2 h)).trans (if_neg (Int.not_lt.2 h'))

/-- What a good message makes of the Battery Controller, `ok` where measurement is OK. -/
structure TakesCharge (v : BatValues) (ok : Bool) (p q : Part) : Prop where
  eu : q.eu = p.eu
  aside : q.aside = p.aside
  heard : q.heard = p.heard
  charge : (q.bc.soc, q.bc.rem) = countCharge p.bc.soc p.bc.rem p.bc.capacity (v.current * v.interval)
  same : q.bc.permille = p.bc.permille → q.bc.level = p.bc.level
  judged : q.bc.permille ≠ p.bc.permille → q.bc.level = energyLevelOf p.pu.unit q.bc.permille p.bc.health
  supply : q.bc.supply = p.bc.supply
  partState : q.bc.partState = p.bc.partState
  okTemp : ok = true → q.bc.okTemp = some v.temp
  heater : ok = true → q.bc.heater = q.heaterFrom p.bc.heater

theorem takeBattery_charge (v : BatValues) (ok : Bool) (p : Part) : TakesCharge v ok p (takeBattery v ok p) := by
  let set : Part := { p with bc := { p.bc with vals := some v, okTemp := if ok then some v.temp else p.bc.okTemp } }
  have h : Counted _ _ set (chargeCount v set) := setSoc_counted _ _ set
  have hsoc : (chargeCount v set).bc.soc = _ := (Battery.soc_of_stock h.stock).trans rfl
  have hrem : (chargeCount v set).bc.rem = _ := (Battery.rem_of_stock h.stock).trans rfl
  have hsupply : (chargeCount v set).bc.supply = p.bc.supply := (Battery.supply_of_stock h.stock).trans rfl
  have hstate : (chargeCount v set).bc.partState = p.bc.partState := (Battery.partState_of_stock h.stock).trans rfl
  cases ok with
  | false =>
    exact ⟨h.eu, h.aside, h.heard, Prod.ext hsoc hrem, h.same, h.judged, hsupply, hstate, fun e => absurd e (by decide),
      fun e => absurd e (by decide)⟩
  | true =>
    have htemp : (chargeCount v set).bc.okTemp = some v.temp := (Battery.okTemp_of_stock h.stock).trans rfl
    have k := chargerMessage_steady v (chargeCount v set)
    have htaken : takeBattery v true p = judgeHeater (chargerMessage v (chargeCount v set)) := rfl
    have hpermille : (takeBattery v true p).bc.permille = (chargeCount v set).bc.permille :=
      show (chargerMessage v (chargeCount v set)).bc.permille = _ from Battery.permille_of_stock k.stock
    have hlevel : (takeBattery v true p).bc.level = (chargeCount v set).bc.level :=
      show (chargerMessage v (chargeCount v set)).bc.level = _ from Battery.level_of_stock k.stock
    refine ⟨k.eu.trans h.eu, k.aside.trans h.aside, k.heard.trans h.heard,
      Prod.ext ((Battery.soc_of_stock k.stock).trans hsoc) ((Battery.rem_of_stock k.stock).trans hrem), fun hs => ?_, fun hn => ?_,
      (Battery.supply_of_stock k.stock).trans hsupply, (Battery.partState_of_stock k.stock).trans hstate,
      fun _ => (Battery.okTemp_of_stock k.stock).trans htemp, fun _ => ?_⟩
    · rw [hpermille] at hs
      exact hlevel.trans (h.same hs)
    · rw [hpermille] at hn ⊢
      exact hlevel.trans (h.judged hn)
    · have hfrom (on : Bool) : (takeBattery v true p).heaterFrom on = (chargeCount v set).heaterFrom on := k.heaterFrom on
      have hheater : (takeBattery v true p).bc.heater = (chargeCount v set).heaterFrom (chargeCount v set).bc.heater := by
        rw [htaken, judgeHeater_heater, Battery.heater_of_stock k.stock]
        exact k.heaterFrom _
      rw [hheater, hfrom]
      rcases h.heater with hh | hh
      · rw [hh]
      · rw [hh, Part.heaterFrom_idem]

/-! ### The recovery run (R27, R29) -/

section
variable {p : Part}

theorem recover_eu (p : Part) : (recover p).eu =
    { p.eu with
      state := .OK, run := 0, phase := .ofFun fun x => (p.eu.phase.get x).reset, ground := p.eu.ground.reset
      pickup := .empty } := by
  simp [recover, batteryMeas, judgeHeater]

theorem recover_aside (p : Part) : (recover p).aside = p.aside := by
  simp [Part.aside, recover, batteryMeas, judgeHeater]

theorem recover_heard (p : Part) : (recover p).heard = (.OK, p.nu.level, p.nu.fresh) := by
  have hmeas (q : Part) : (batteryMeas true q).heard = q.heard := rfl
  have hmap (q : Part) : (mapReclaim Reclaim.resume q).heard = q.heard := rfl
  simp only [recover, enterReport_heard, hmeas, sqDropouts_heard, hmap]
  rfl

/-- The return to OK touches the Battery Controller in its heater alone. -/
theorem recover_bc (p : Part) : (recover p).bc = { p.bc with heater := (recover p).bc.heater } := by
  simp [recover, batteryMeas, judgeHeater]

theorem countRun_ok (h : p.eu.state = .OK) : countRun p = { p with eu := { p.eu with lossTimer := some 60 } } := by
  simp [countRun, Part.measOk, h, Config.lossTime]

theorem countRun_builds (h : p.eu.state ≠ .OK) (hr : p.eu.run < 2) :
    countRun p = { p with eu := { p.eu with lossTimer := some 60, run := p.eu.run + 1 } } := by
  have hthree : p.eu.run + 1 < 3 := by omega
  simp [countRun, Part.measOk, h, hthree, Config.lossTime]

theorem countRun_recovers (h : p.eu.state ≠ .OK) (hr : 2 ≤ p.eu.run) :
    countRun p = recover { p with eu := { p.eu with lossTimer := some 60 } } := by
  have hthree : ¬ p.eu.run + 1 < 3 := by omega
  simp [countRun, Part.measOk, h, hthree, Config.lossTime]

/-- What step 3 of R42 leaves as it was, and the loss timer it starts. -/
structure CountsRun (p q : Part) : Prop where
  aside : q.aside = p.aside
  latest : q.eu.latest = p.eu.latest
  lossTimer : q.eu.lossTimer = some 60
  bc : q.bc = { p.bc with heater := q.bc.heater }

theorem countRun_counts (p : Part) : CountsRun p (countRun p) := by
  by_cases h : p.eu.state = .OK
  · rw [countRun_ok h]
    exact ⟨rfl, rfl, rfl, rfl⟩
  · by_cases hr : p.eu.run < 2
    · rw [countRun_builds h hr]
      exact ⟨rfl, rfl, rfl, rfl⟩
    · rw [countRun_recovers h (Nat.not_lt.1 hr)]
      exact ⟨recover_aside _, by rw [recover_eu], by rw [recover_eu], recover_bc _⟩

end

/-! ### The elements (R38, R39) -/

/-- What the evaluation of the elements leaves as it was. -/
structure Evaluates (p q : Part) : Prop where
  aside : q.aside = p.aside
  heard : q.heard = p.heard
  bc : q.bc = p.bc
  eu : ∃ phase ground pickup, q.eu = { p.eu with phase := phase, ground := ground, pickup := pickup }

theorem tripDecision_evaluates (v : Values) (p : Part) : Evaluates p (tripDecision v p) := by
  unfold tripDecision
  split
  · exact ⟨rfl, rfl, rfl, _, _, _, rfl⟩
  · exact ⟨by simp [Part.aside], protectiveAsk_heard _ _ _, by simp, p.eu.cleared.phase, p.eu.cleared.ground,
      p.eu.cleared.pickup, protectiveAsk_eu _ _ _⟩

theorem evaluate_evaluates (v : Values) (p : Part) : Evaluates p (evaluate v p) := by
  let formed := formPickups { p with eu := { p.eu with phase := p.phaseSteps p.profile v, ground := p.groundStep p.profile v } }
  have haside : formed.aside = p.aside := by simp [formed, formPickups, Part.aside]
  have heard : formed.heard = p.heard := by simp only [formed, formPickups, sqDropouts_heard, sqPickups_heard]; rfl
  have hbc : formed.bc = p.bc := by simp [formed, formPickups]
  have heu : formed.eu = { p.eu with phase := formed.eu.phase, ground := formed.eu.ground, pickup := formed.eu.pickup } := by
    simp [formed, formPickups]
  have h : Evaluates formed (evaluate v p) := tripDecision_evaluates v formed
  obtain ⟨phase, ground, pickup, hq⟩ := h.eu
  refine ⟨h.aside.trans haside, h.heard.trans heard, h.bc.trans hbc, phase, ground, pickup, ?_⟩
  rw [hq, heu]

/-! ### A good message (R42) -/

/-- The part after step 3 of R42. -/
def countedPart (v : Values) (p : Part) : Part := countRun { p with eu := { p.eu with latest := some ⟨v, p.tb⟩ } }

/-- The part once the message has reached the Energy Unit and the Battery Controller. -/
def takenPart (v : Values) (p : Part) : Part :=
  let c := countedPart v p
  takeBattery ⟨v.voltage, v.current, v.temp, v.interval⟩ c.measOk (takeBankLevel v.bank c.measOk c)

section
variable (v : Values) (p : Part)

theorem countedPart_counts : CountsRun { p with eu := { p.eu with latest := some ⟨v, p.tb⟩ } } (countedPart v p) :=
  countRun_counts _

theorem takenPart_charge : TakesCharge ⟨v.voltage, v.current, v.temp, v.interval⟩ (countedPart v p).measOk
    (takeBankLevel v.bank (countedPart v p).measOk (countedPart v p)) (takenPart v p) := takeBattery_charge _ _ _

theorem takenPart_eu : (takenPart v p).eu = (countedPart v p).eu := (takenPart_charge v p).eu

theorem takenPart_aside : (takenPart v p).aside = p.aside :=
  ((takenPart_charge v p).aside.trans rfl).trans (countedPart_counts v p).aside

theorem takenPart_heard : (takenPart v p).heard = ((countedPart v p).sq.meas, some v.bank, (countedPart v p).measOk) :=
  (takenPart_charge v p).heard

theorem goodMessage_eq : goodMessage v p =
    if (countedPart v p).measOk then evaluate v (takenPart v p) else takenPart v p := by
  have hok : (takenPart v p).measOk = (countedPart v p).measOk := by simp [Part.measOk, takenPart_eu]
  rw [← hok]
  rfl

theorem goodMessage_evaluates : Evaluates (takenPart v p) (goodMessage v p) := by
  rw [goodMessage_eq]
  split
  · exact evaluate_evaluates _ _
  · exact ⟨rfl, rfl, rfl, _, _, _, rfl⟩

end

/-! ### What a good message leaves (R25, R27, R29, R117) -/

section
variable (v : Values) (p : Part)

theorem goodMessage_aside : (goodMessage v p).aside = p.aside :=
  (goodMessage_evaluates v p).aside.trans (takenPart_aside v p)

theorem goodMessage_heard : (goodMessage v p).heard = ((countedPart v p).sq.meas, some v.bank, (countedPart v p).measOk) :=
  (goodMessage_evaluates v p).heard.trans (takenPart_heard v p)

/-- At the Element Unit the evaluation changes the elements and the pickup set alone. -/
theorem goodMessage_eu : ∃ phase ground pickup, (goodMessage v p).eu =
    { (countedPart v p).eu with phase := phase, ground := ground, pickup := pickup } := by
  rw [← takenPart_eu]
  exact (goodMessage_evaluates v p).eu

theorem goodMessage_latest : (goodMessage v p).eu.latest = some ⟨v, p.tb⟩ := by
  obtain ⟨_, _, _, h⟩ := goodMessage_eu v p
  rw [h]
  exact (countedPart_counts v p).latest

theorem goodMessage_lossTimer : (goodMessage v p).eu.lossTimer = some 60 := by
  obtain ⟨_, _, _, h⟩ := goodMessage_eu v p
  rw [h]
  exact (countedPart_counts v p).lossTimer

theorem goodMessage_state : (goodMessage v p).eu.state = (countedPart v p).eu.state := by
  obtain ⟨_, _, _, h⟩ := goodMessage_eu v p
  rw [h]

theorem goodMessage_run : (goodMessage v p).eu.run = (countedPart v p).eu.run := by
  obtain ⟨_, _, _, h⟩ := goodMessage_eu v p
  rw [h]

theorem goodMessage_level : (goodMessage v p).nu.level = some v.bank := congrArg (·.2.1) (goodMessage_heard v p)

theorem goodMessage_fresh : (goodMessage v p).nu.fresh = true ↔ (goodMessage v p).eu.state = .OK := by
  have hfresh : (goodMessage v p).nu.fresh = (countedPart v p).measOk := congrArg (·.2.2) (goodMessage_heard v p)
  simp [hfresh, goodMessage_state, Part.measOk]

end

section
variable {v : Values} {p : Part}

theorem goodMessage_ok (h : p.eu.state = .OK) : (goodMessage v p).eu.state = .OK ∧ (goodMessage v p).eu.run = p.eu.run := by
  have hcount := countRun_ok (p := { p with eu := { p.eu with latest := some ⟨v, p.tb⟩ } }) h
  rw [goodMessage_state, goodMessage_run, countedPart, hcount]
  exact ⟨h, rfl⟩

theorem goodMessage_builds (h : p.eu.state ≠ .OK) (hr : p.eu.run < 2) :
    (goodMessage v p).eu.state = p.eu.state ∧ (goodMessage v p).eu.run = p.eu.run + 1 ∧
      (goodMessage v p).eu.phase = p.eu.phase ∧ (goodMessage v p).eu.ground = p.eu.ground := by
  have hcount := countRun_builds (p := { p with eu := { p.eu with latest := some ⟨v, p.tb⟩ } }) h hr
  have hnot : (countedPart v p).measOk = false := by simp [countedPart, hcount, Part.measOk, h]
  rw [goodMessage_eq, if_neg (by simp [hnot]), takenPart_eu, countedPart, hcount]
  exact ⟨rfl, rfl, rfl, rfl⟩

theorem goodMessage_recovers (h : p.eu.state ≠ .OK) (hr : 2 ≤ p.eu.run) :
    (goodMessage v p).eu.state = .OK ∧ (goodMessage v p).eu.run = 0 ∧ (goodMessage v p).sq.meas = .OK := by
  have hcount := countRun_recovers (p := { p with eu := { p.eu with latest := some ⟨v, p.tb⟩ } }) h hr
  have hmeas : (goodMessage v p).sq.meas = (countedPart v p).sq.meas := congrArg (·.1) (goodMessage_heard v p)
  rw [goodMessage_state, goodMessage_run, hmeas, countedPart, hcount, recover_eu]
  exact ⟨rfl, rfl, congrArg (·.1) (recover_heard _)⟩

/-! ### The charge, the energy level and the heater (R136, R139, R145) -/

/-- The Battery Controller that the message finds: measurement may have judged its heater (R29). -/
theorem countedPart_bc (v : Values) (p : Part) : (countedPart v p).bc = { p.bc with heater := (countedPart v p).bc.heater } :=
  (countedPart_counts v p).bc

theorem goodMessage_bc (v : Values) (p : Part) : (goodMessage v p).bc = (takenPart v p).bc := (goodMessage_evaluates v p).bc

theorem goodMessage_charge (v : Values) (p : Part) : ((goodMessage v p).bc.soc, (goodMessage v p).bc.rem) =
    countCharge p.bc.soc p.bc.rem p.bc.capacity (v.current * v.interval) := by
  have h := (takenPart_charge v p).charge
  have hbc : (takeBankLevel v.bank (countedPart v p).measOk (countedPart v p)).bc = (countedPart v p).bc := rfl
  rw [hbc, countedPart_bc] at h
  rw [goodMessage_bc]
  exact h

theorem goodMessage_same (h : (goodMessage v p).bc.permille = p.bc.permille) : (goodMessage v p).bc.level = p.bc.level := by
  have hp : (countedPart v p).bc.permille = p.bc.permille := by rw [countedPart_bc]; rfl
  have hl : (countedPart v p).bc.level = p.bc.level := by rw [countedPart_bc]
  rw [goodMessage_bc] at h ⊢
  exact ((takenPart_charge v p).same (h.trans hp.symm)).trans hl

theorem goodMessage_judged (h : (goodMessage v p).bc.permille ≠ p.bc.permille) :
    (goodMessage v p).bc.level = energyLevelOf p.pu.unit (goodMessage v p).bc.permille p.bc.health := by
  have hp : (countedPart v p).bc.permille = p.bc.permille := by rw [countedPart_bc]; rfl
  have hh : (countedPart v p).bc.health = p.bc.health := by rw [countedPart_bc]
  have hu : (countedPart v p).pu = p.pu := congrArg (·.2.1) (countedPart_counts v p).aside
  rw [goodMessage_bc] at h ⊢
  rw [← hh, ← hu]
  exact (takenPart_charge v p).judged fun e => h (e.trans hp)

theorem goodMessage_heater (hok : p.eu.state = .OK) (hrun : p.bc.partState = .RUN) : (goodMessage v p).bc.heater = true ↔
    (p.bc.supply = true ∨ (goodMessage v p).bc.level = .NORMAL) ∧ if p.bc.heater then v.temp < -5 else v.temp < -10 := by
  have hc : countedPart v p = { p with eu := { p.eu with latest := some ⟨v, p.tb⟩, lossTimer := some 60 } } := countRun_ok hok
  have hmeas : (countedPart v p).measOk = true := by simp [hc, Part.measOk, hok]
  have h := takenPart_charge v p
  have hstate : (takenPart v p).eu.state = .OK := by rw [takenPart_eu, hc]; exact hok
  have hrun' : (takenPart v p).bc.partState = .RUN := by rw [h.partState, ← hrun, hc]; rfl
  have hsupply : (takenPart v p).bc.supply = p.bc.supply := by rw [h.supply, hc]; rfl
  have hheater : (takenPart v p).bc.heater = (takenPart v p).heaterFrom p.bc.heater := by rw [h.heater hmeas, hc]; rfl
  rw [goodMessage_bc, hheater, Part.heaterFrom_iff hstate hrun' (h.okTemp hmeas), hsupply]

end

/-! ### The message as the protection link brings it (R24, R42) -/

section
variable {body : List Byte} {p : Part}

theorem takeMeasurement_good {v : Values} (h : readMeasurement body = some v) (hr : p.bc.partState = .RUN) :
    takeMeasurement body p = goodMessage v p := by simp [takeMeasurement, h, Part.isRun, hr]

/-- A message that is discarded breaks a recovery run, and changes nothing else. -/
theorem takeMeasurement_discarded (h : readMeasurement body = none ∨ p.bc.partState = .DORMANT) :
    takeMeasurement body p = if p.measOk then p else { p with eu := { p.eu with run := 0 } } := by
  rcases h with h | h
  · simp [takeMeasurement, h, takeMeasurement.breakRun]
  · cases hb : readMeasurement body <;> simp [takeMeasurement, hb, Part.isRun, h, takeMeasurement.breakRun]

theorem takeMeasurement_aside (body : List Byte) (p : Part) : (takeMeasurement body p).aside = p.aside := by
  by_cases h : readMeasurement body = none ∨ p.bc.partState = .DORMANT
  · rw [takeMeasurement_discarded h]
    split <;> rfl
  · cases hb : readMeasurement body with
    | none => exact absurd (.inl hb) h
    | some v =>
      have hr : p.bc.partState = .RUN := by
        cases hs : p.bc.partState with
        | RUN => rfl
        | DORMANT => exact absurd (.inr hs) h
      rw [takeMeasurement_good hb hr]
      exact goodMessage_aside v p

end

theorem endEvent_permille (b a : Part) : (endEvent b a).bc.permille = a.bc.permille := by simp [Battery.permille]

/-- Settles O33: a good message by its steps in the order of R42, and a discarded one by the run it breaks. -/
theorem measurementIsTaken : Obligations.MeasurementIsTaken := by
  intro body s hon
  have haside := (endEvent_aside s.found (takeMeasurement body s.found)).trans (takeMeasurement_aside body s.found)
  refine ⟨_, event_on hon, sameExcept_of_aside haside, fun v hv hrun => ?_, fun hd => ?_⟩
  · intro b total whole u bySoc
    have hcharge := goodMessage_charge v s.found
    simp only [takeMeasurement_good hv hrun, endEvent_eu, endEvent_nu_level, endEvent_nu_fresh, endEvent_sq_meas, endEvent_bc_soc,
      endEvent_bc_rem, endEvent_permille, endEvent_bc_level, endEvent_bc_heater, bySoc]
    refine ⟨goodMessage_latest v _, goodMessage_lossTimer v _, goodMessage_level v _, goodMessage_fresh v _, goodMessage_ok,
      goodMessage_builds, goodMessage_recovers, fun h => ?_, fun h => ?_, fun h h' => ?_, goodMessage_same, fun h => ?_,
      fun h => goodMessage_heater h hrun⟩
    · rw [countCharge_below h] at hcharge
      exact Prod.ext_iff.1 hcharge
    · rw [countCharge_above h] at hcharge
      exact Prod.ext_iff.1 hcharge
    · rw [countCharge_within h h'] at hcharge
      simp only [Prod.mk.injEq] at hcharge
      obtain ⟨hsoc, hrem⟩ := hcharge
      rw [hsoc, hrem]
      exact ⟨Int.toNat_of_nonneg h, Int.toNat_of_nonneg (Int.emod_nonneg _ (by decide))⟩
    · rw [goodMessage_judged h, energyLevelOf_eq]
      rfl
  · simp only [takeMeasurement_discarded hd]
    split
    · rename_i hok
      simp [show s.found.eu.state = .OK by simpa [Part.measOk] using hok]
    · simp

end Sys2Proof.Machine
end

section
/-! PROOFS. What a report of another kind leaves of the PROFILE_CHANGE records, and where quiescence is judged (R71, R72, R160 to R163;
O46). -/

namespace Sys2Proof.Machine

/-! ### The queue (R160 to R163) -/

theorem mem_of_mem_dropFirst {f : Report → Bool} {r : Report} {q : List Report} (h : r ∈ dropFirst f q) : r ∈ q := by
  induction q with
  | nil => exact h
  | cons a q ih =>
    unfold dropFirst at h
    split at h
    · exact List.mem_cons_of_mem _ h
    · rcases List.mem_cons.1 h with rfl | h
      · exact List.mem_cons_self
      · exact List.mem_cons_of_mem _ (ih h)

theorem mem_of_mem_makeRoom {k : ReportKind} {r : Report} {q room : List Report} (hm : makeRoom q k = some room) (h : r ∈ room) :
    r ∈ q := by
  simp only [makeRoom] at hm
  split at hm
  · cases hm
    exact mem_of_mem_dropFirst h
  · split at hm
    · cases hm
      exact mem_of_mem_dropFirst h
    · cases hm

section
variable {k : ReportKind} {s : Option PoleSet} {t : Stamp} {b : List Byte} {r : Report}

/-- A merge leaves the records of the other kinds as they were. -/
theorem mem_mergeInto_of_other (h : r.kind ≠ k) (q : List Report) : r ∈ mergeInto k s t b q ↔ r ∈ q := by
  induction q with
  | nil => rfl
  | cons a q ih =>
    unfold mergeInto
    split
    · next ha =>
      have hk : a.kind = k := by
        simp only [mergesInto, Bool.and_eq_true, beq_iff_eq] at ha
        exact ha.1.2
      have hne : r ≠ a.merge t b := fun e => h (by rw [e]; exact hk)
      have hne' : r ≠ a := fun e => h (by rw [e]; exact hk)
      simp [hne, hne']
    · simp [ih]

/-- A merge finds its record, which then has the new body. -/
theorem mergeInto_tells {q : List Report} (h : q.any (mergesInto k s) = true) :
    ∃ r ∈ mergeInto k s t b q, mergesInto k s r = true ∧ r.kind = k ∧ r.last = t ∧ r.body = b := by
  induction q with
  | nil => simp at h
  | cons a q ih =>
    unfold mergeInto
    split
    · next ha =>
      refine ⟨a.merge t b, List.mem_cons_self, ha, ?_, rfl, rfl⟩
      simp only [mergesInto, Bool.and_eq_true, beq_iff_eq] at ha
      exact ha.1.2
    · next ha =>
      obtain ⟨r, hr, h⟩ := ih (by simpa [ha] using h)
      exact ⟨r, List.mem_cons_of_mem _ hr, h⟩

theorem ReportUnit.mem_join (u : ReportUnit) (q : List Report) :
    r ∈ (u.join q k s t b).queue ↔ r ∈ q ∨ r = ⟨u.nextNumber, k, s, t, t, 1, false, b⟩ := by
  simp [ReportUnit.join]

@[simp] theorem judgeSending_queue (p : Part) : (judgeSending p).ru.queue = p.ru.queue := by
  simp only [judgeSending, judgeCall]
  repeat' split
  all_goals simp

/-- A report brings no record of another kind. -/
theorem mem_of_mem_enterReport {p : Part} (hk : r.kind ≠ k) (h : r ∈ (enterReport k s b p).ru.queue) : r ∈ p.ru.queue := by
  have joined {u : ReportUnit} {q : List Report} (h : r ∈ (u.join q k s p.tb b).queue) : r ∈ q :=
    ((u.mem_join q).1 h).resolve_right fun e => hk (by rw [e])
  simp only [enterReport] at h
  split at h
  · exact (mem_mergeInto_of_other hk _).1 h
  · split at h
    · rw [judgeSending_queue] at h
      exact joined h
    · split at h
      · next hroom =>
        rw [judgeSending_queue] at h
        exact mem_of_mem_makeRoom hroom (joined h)
      · exact h

/-- In a queue with room a report discards no record of another kind. -/
theorem mem_enterReport_of_mem {p : Part} (hroom : p.ru.queue.length < 32) (hk : r.kind ≠ k) (h : r ∈ p.ru.queue) :
    r ∈ (enterReport k s b p).ru.queue := by
  simp only [enterReport]
  split
  · exact (mem_mergeInto_of_other hk _).2 h
  · rw [if_pos (show _ < Config.queueMax from hroom), judgeSending_queue]
    exact (ReportUnit.mem_join _ _).2 (.inl h)

end

/-! ### The judgements at the end of an event -/

/-- The deficit flag is judged with one report at most, an alarm. -/
theorem judgeDeficit_reports (p : Part) :
    (judgeDeficit p).ru = p.ru ∨ ∃ b q, q.ru = p.ru ∧ judgeDeficit p = enterReport .ENERGY_DEFICIT none b q := by
  unfold judgeDeficit
  split
  · exact .inl rfl
  · split
    · exact .inl rfl
    · split
      · split <;> exact .inl rfl
      · split
        · exact .inr ⟨_, { p with nu := { p.nu with deficit := true } }, rfl, rfl⟩
        · exact .inl rfl

theorem refresh_reports (p : Part) :
    (refresh p).ru = p.ru ∨ ∃ b q, q.ru = p.ru ∧ (refresh p).ru = (enterReport .ENERGY_DEFICIT none b q).ru := by
  have hrefresh : (refresh p).ru = (judgeDeficit (grantUnits p.nu.waiting (recountReserve p))).ru := by
    simp [refresh, energyJudge]
  have hgrant : (grantUnits p.nu.waiting (recountReserve p)).ru = p.ru := by simp
  rw [hrefresh]
  rcases judgeDeficit_reports (grantUnits p.nu.waiting (recountReserve p)) with h | ⟨b, q, hq, h⟩
  · exact .inl (h.trans hgrant)
  · exact .inr ⟨b, q, hq.trans hgrant, by rw [h]⟩

section
variable {p : Part} {r : Report}

/-- The judgements bring no record but an ENERGY_DEFICIT report. -/
theorem mem_of_mem_refresh (hk : r.kind ≠ .ENERGY_DEFICIT) (h : r ∈ (refresh p).ru.queue) : r ∈ p.ru.queue := by
  rcases refresh_reports p with hr | ⟨_, q, hq, hr⟩
  · exact hr ▸ h
  · rw [hr] at h
    exact hq ▸ mem_of_mem_enterReport hk h

theorem mem_refresh_of_mem (hroom : p.ru.queue.length < 32) (hk : r.kind ≠ .ENERGY_DEFICIT) (h : r ∈ p.ru.queue) :
    r ∈ (refresh p).ru.queue := by
  rcases refresh_reports p with hr | ⟨_, q, hq, hr⟩
  · exact hr.symm ▸ h
  · rw [hr]
    rw [← hq] at h hroom
    exact mem_enterReport_of_mem hroom hk h

end

/-! ### Quiescence (R71, R72) -/

section
variable {p : Part}

/-- Quiescence is a matter of the poles' sequence states and the drive. -/
theorem Part.isQuiescent_congr {q : Part} (hs : ∀ x, (q.seq x).state = (p.seq x).state) (hd : q.dc = p.dc) :
    q.isQuiescent = p.isQuiescent := by simp [Part.isQuiescent, hs, hd]

theorem pendingEntry_isQuiescent (x : Pole) (p : Part) : (pendingEntry x p).isQuiescent = false := by
  have hwork : (pendingEntry x p).dc.holdsWork = true := by
    have hx : (pendingEntry x p).dc.seqPoles.has x = true := by simp [pendingEntry, reserve, setEntry, Drive.seqPoles]
    have hne : (pendingEntry x p).dc.seqPoles.isEmpty = false := (PoleSet.isEmpty_false_iff _).2 ⟨x, hx⟩
    simp [Drive.holdsWork, hne]
  simp [Part.isQuiescent, hwork]

/-- A grant makes an entry ready: it does not bring the Sequencer to rest. -/
theorem grantUnits_isQuiescent (us : List PoleSet) (h : p.isQuiescent = false) : (grantUnits us p).isQuiescent = false := by
  induction us generalizing p with
  | nil => exact h
  | cons u us ih =>
    unfold grantUnits
    split
    · exact ih (applyAll_induction (P := fun q => q.isQuiescent = false) (fun x q _ => pendingEntry_isQuiescent x q) _ h)
    · exact h

theorem energyJudge_isQuiescent (h : p.isQuiescent = false) : (energyJudge p).isQuiescent = false := by
  have hjudge (q : Part) : (judgeDeficit q).isQuiescent = q.isQuiescent :=
    Part.isQuiescent_congr (fun x => by simp [Part.seq]) (by simp)
  rw [energyJudge, hjudge]
  exact grantUnits_isQuiescent _ h

theorem refresh_sq (p : Part) : (refresh p).sq = (judgeQuiescence (energyJudge p)).sq := by simp [refresh]

/-- The judgements change no pole mode where none is pending. -/
theorem refresh_mode_of_none (h : p.sq.pendingMode = none) :
    (refresh p).sq.mode = p.sq.mode ∧ (refresh p).sq.pendingMode = none := by
  rw [refresh_sq]
  simp [judgeQuiescence, takeMode, h]

theorem refresh_mode_of_busy (h : p.isQuiescent = false) :
    (refresh p).sq.mode = p.sq.mode ∧ (refresh p).sq.pendingMode = p.sq.pendingMode := by
  obtain ⟨hm, hp⟩ := judgeQuiescence_keeps_mode _ (energyJudge_isQuiescent h)
  rw [refresh_sq, hm, hp, energyJudge_sq]
  exact ⟨rfl, rfl⟩

end

/-! ### A pending mode in the middle of a message (R38, R47, R71, R72) -/

/-- A pending pole mode of `p` is in force in `q` where the Sequencer then is quiescent, and is pending still otherwise. -/
def TakesMode (p q : Part) : Prop :=
  (q.isQuiescent = true → q.sq.mode = p.sq.pendingMode.getD p.sq.mode ∧ q.sq.pendingMode = none) ∧
    (q.isQuiescent = false → q.sq.mode = p.sq.mode ∧ q.sq.pendingMode = p.sq.pendingMode)

theorem judgeQuiescence_takesMode {p q : Part} (hm : q.sq.mode = p.sq.mode) (hp : q.sq.pendingMode = p.sq.pendingMode) :
    TakesMode p (judgeQuiescence q) := by
  rw [TakesMode, judgeQuiescence_isQuiescent, ← hm, ← hp]
  exact ⟨judgeQuiescence_takes_mode q, judgeQuiescence_keeps_mode q⟩

/-- The mode is judged twice, where the second judgement finds the Sequencer quiescent if the first did. -/
theorem TakesMode.trans {p q r : Part} (h : TakesMode p q) (k : TakesMode q r) (hq : q.isQuiescent = true → r.isQuiescent = true) :
    TakesMode p r := by
  refine ⟨fun hr => ?_, fun hr => ?_⟩
  · obtain ⟨hmode, hpending⟩ := k.1 hr
    cases hb : q.isQuiescent with
    | true =>
      obtain ⟨hm, hp⟩ := h.1 hb
      exact ⟨by rw [hmode, hp, hm]; rfl, hpending⟩
    | false =>
      obtain ⟨hm, hp⟩ := h.2 hb
      exact ⟨by rw [hmode, hp, hm], hpending⟩
  · obtain ⟨hmode, hpending⟩ := k.2 hr
    obtain ⟨hm, hp⟩ := h.2 (by simpa [hr] using mt hq)
    exact ⟨hmode.trans hm, hpending.trans hp⟩

theorem sqPickups_takesMode (s : PoleSet) (p : Part) : TakesMode p (sqPickups s p) := judgeQuiescence_takesMode rfl rfl

theorem sqDropouts_takesMode (s : PoleSet) (p : Part) : TakesMode p (sqDropouts s p) := judgeQuiescence_takesMode rfl rfl

theorem formPickups_takesMode (p : Part) : TakesMode p (formPickups p) :=
  (sqPickups_takesMode (p.eu.covered.diff p.eu.pickup) { p with eu := { p.eu with pickup := p.eu.covered } }).trans
    (sqDropouts_takesMode _ _) (sqDropouts_keeps_quiescence _ _)

theorem TakesMode.of_same {p q r : Part} (h : TakesMode p q) (hs : r.sq = q.sq) (hd : r.dc = q.dc) : TakesMode p r := by
  have hq : r.isQuiescent = q.isQuiescent := Part.isQuiescent_congr (fun x => by simp [Part.seq, hs]) hd
  rw [TakesMode, hq, hs]
  exact h

theorem TakesMode.of_found {p q r : Part} (h : TakesMode q r) (hm : q.sq.mode = p.sq.mode)
    (hp : q.sq.pendingMode = p.sq.pendingMode) : TakesMode p r := by
  rw [TakesMode, ← hm, ← hp]
  exact h

/-- The reclaim timers that run on and the measurement copy, which stand before the dropouts of R29. -/
def resumed (p : Part) : Part :=
  mapReclaim Reclaim.resume
    { p with
      eu := { p.eu with
        state := .OK, run := 0, phase := .ofFun fun x => (p.eu.phase.get x).reset, ground := p.eu.ground.reset
        pickup := .empty }
      sq := { p.sq with meas := .OK } }

theorem recover_eq (p : Part) : recover p =
    enterReport .MEAS_OK none [byte p.eu.state.code] (batteryMeas true (sqDropouts p.eu.pickup (resumed p))) := rfl

theorem recover_takesMode (p : Part) : TakesMode p (recover p) := by
  have h : TakesMode p (sqDropouts p.eu.pickup (resumed p)) := (sqDropouts_takesMode p.eu.pickup (resumed p)).of_found rfl rfl
  rw [recover_eq]
  exact h.of_same (by simp [batteryMeas, judgeHeater]) (by simp [batteryMeas, judgeHeater])

end Sys2Proof.Machine
end

section
/-! PROOFS. A changed effective profile as the Sequencer and the Report Unit are told of it (R52, R71, R72, R79; O46). -/

namespace Sys2Proof.Machine

/-! ### The Sequencer at a changed profile (R52, R71) -/

section
variable {p : Part}

theorem sqProfileChanged_seq (p : Part) (x : Pole) : (sqProfileChanged p).seq x = (p.seq x).judgeNewValue p.profile := by
  have hmode (m : PoleMode) (q : Part) : ({ q with sq := judgeMode m q.sq } : Part).seq x = q.seq x := by simp [Part.seq]
  rw [sqProfileChanged, hmode, judgeQuiescence_seq, seq_mapSeq, if_pos (PoleSet.has_full x)]

theorem SeqRec.judgeNewValue_iff (r : SeqRec) (g : Group) :
    (r.judgeNewValue g).newValue = true ↔ r.deadTimer.isSome = true ∧ r.deadLength ≠ deadTimeOf g r.shot := by
  simp [SeqRec.judgeNewValue]

theorem judgeMode_rest (m : PoleMode) {q : Sequencer} (h : q.quiescent = true) :
    (judgeMode m q).mode = m ∧ (judgeMode m q).pendingMode = none := by
  rw [judgeMode, if_pos h]
  split
  · next hm => exact ⟨hm.symm, rfl⟩
  · exact ⟨rfl, rfl⟩

theorem judgeMode_busy (m : PoleMode) {q : Sequencer} (h : q.quiescent = false) :
    (judgeMode m q).mode = q.mode ∧ (judgeMode m q).pendingMode = if m = q.mode then none else some m := by
  by_cases hm : m = q.mode
  · simp [judgeMode, hm]
  · simp [judgeMode, hm, h]

/-- The part in which the Sequencer judges the pole mode of the changed profile. -/
def dueJudged (p : Part) : Part := judgeQuiescence (mapSeq .full (fun _ r => r.judgeNewValue p.profile) p)

theorem sqProfileChanged_sq (p : Part) : (sqProfileChanged p).sq = judgeMode p.profile.mode (dueJudged p).sq := rfl

theorem dueJudged_quiescent (p : Part) : (dueJudged p).sq.quiescent = p.isQuiescent := by
  rw [dueJudged, judgeQuiescence_sq_quiescent]
  exact Part.isQuiescent_congr (fun x => by rw [seq_mapSeq]; split <;> rfl) rfl

theorem sqProfileChanged_rest (h : p.isQuiescent = true) :
    (sqProfileChanged p).sq.mode = p.profile.mode ∧ (sqProfileChanged p).sq.pendingMode = none := by
  rw [sqProfileChanged_sq]
  exact judgeMode_rest _ ((dueJudged_quiescent p).trans h)

theorem sqProfileChanged_busy (h : p.isQuiescent = false) : (sqProfileChanged p).sq.mode = p.sq.mode ∧
    (sqProfileChanged p).sq.pendingMode = if p.profile.mode = p.sq.mode then none else some p.profile.mode := by
  have hq : (dueJudged p).sq.quiescent = false := (dueJudged_quiescent p).trans h
  have hmode : (dueJudged p).sq.mode = p.sq.mode :=
    (judgeQuiescence_keeps_mode _ ((judgeQuiescence_sq_quiescent _).symm.trans hq)).1
  rw [sqProfileChanged_sq, ← hmode]
  exact judgeMode_busy _ hq

end

/-! ### The PROFILE_CHANGE record (R79, R161, R210) -/

/-- The queue takes a PROFILE_CHANGE report, and has room for another record then. -/
def Part.takesChange (p : Part) : Prop :=
  p.ru.queue.length < 31 ∨ p.ru.queue.length < 32 ∧ p.ru.queue.any (mergesInto .PROFILE_CHANGE none) = true

theorem Part.takesChange.room {p : Part} (h : p.takesChange) : p.ru.queue.length < 32 := by
  rcases h with h | ⟨h, _⟩ <;> omega

/-- The record is of that moment and in the queue, and the next PROFILE_CHANGE report merges into it. -/
theorem enterReport_change {p : Part} (h : p.takesChange) (b : List Byte) :
    (enterReport .PROFILE_CHANGE none b p).takesChange ∧
      ∃ r ∈ (enterReport .PROFILE_CHANGE none b p).ru.queue, r.kind = .PROFILE_CHANGE ∧ r.last = p.tb ∧ r.body = b := by
  by_cases hany : p.ru.queue.any (mergesInto .PROFILE_CHANGE none) = true
  · have hq : (enterReport .PROFILE_CHANGE none b p).ru.queue = mergeInto .PROFILE_CHANGE none p.tb b p.ru.queue := by
      rw [enterReport, if_pos hany]
    obtain ⟨r, hr, hm, htold⟩ := mergeInto_tells (t := p.tb) (b := b) hany
    rw [Part.takesChange, hq, length_mergeInto]
    exact ⟨.inr ⟨h.room, List.any_eq_true.2 ⟨r, hr, hm⟩⟩, r, hr, htold⟩
  · have hlen : p.ru.queue.length < 31 := h.resolve_right fun k => hany k.2
    have hq : (enterReport .PROFILE_CHANGE none b p).ru.queue =
        (p.ru.join p.ru.queue .PROFILE_CHANGE none p.tb b).queue := by
      rw [enterReport, if_neg hany, if_pos (show _ < Config.queueMax from h.room), judgeSending_queue]
    have hr := (p.ru.mem_join (k := .PROFILE_CHANGE) (s := none) (t := p.tb) (b := b) p.ru.queue).2 (.inr rfl)
    rw [Part.takesChange, hq, ReportUnit.join_length]
    exact ⟨.inr ⟨by omega, List.any_eq_true.2 ⟨_, hr, rfl⟩⟩, _, hr, rfl, rfl, rfl⟩

/-- The body of the record: the source, its group and the selected group. -/
def Profile.told (e : Profile) (selected : Nat) : List Byte := [byte e.source.code, byte e.source.group, byte selected]

theorem judged_same {f : Part → Part} {p : Part} (h : (f p).pu.effective = p.pu.effective) : judged f p = f p := if_pos h

theorem judged_changed {f : Part → Part} {p : Part} (h : (f p).pu.effective ≠ p.pu.effective) : judged f p =
    enterReport .PROFILE_CHANGE none ((f p).pu.effective.told (f p).pu.selected) (sqProfileChanged (f p)) := if_neg h

@[simp] theorem judged_pu (f : Part → Part) (p : Part) : (judged f p).pu = (f p).pu := by
  by_cases h : (f p).pu.effective = p.pu.effective
  · rw [judged_same h]
  · simp [judged_changed h]

@[simp] theorem judged_rs (f : Part → Part) (p : Part) : (judged f p).rs = (f p).rs := by
  by_cases h : (f p).pu.effective = p.pu.effective
  · rw [judged_same h]
  · simp [judged_changed h]

theorem judged_grows {f : Part → Part} {p : Part} (h : Grows p (f p)) : Grows p (judged f p) := by
  by_cases he : (f p).pu.effective = p.pu.effective
  · rwa [judged_same he]
  · rw [judged_changed he]
    exact (h.trans (.of_li (sqProfileChanged_li _))).trans (enterReport_grows _ _ _ _)

/-! ### A change at the Profile Unit -/

/-- The blocks that a change at the Profile Unit and its report leave as they were. -/
def Part.beside (p : Part) : Bool × Drive × ElementUnit × TagUnit × Stamp × Option Link :=
  (p.on, p.dc, p.eu, p.tu, p.tb, p.restart)

/-- A step that leaves the Sequencer and the Report Unit as they were, and the selected group. -/
structure Sets (p q : Part) : Prop where
  beside : q.beside = p.beside
  sq : q.sq = p.sq
  ru : q.ru = p.ru
  selected : q.pu.selected = p.pu.selected

/-- The Sequencer and the Report Unit of `q` have been told of the effective profile of `q`, another than that of `p`. -/
structure Announces (p q : Part) : Prop where
  newValue (x : Pole) : (q.seq x).newValue = true ↔
    (q.seq x).deadTimer.isSome = true ∧ (q.seq x).deadLength ≠ deadTimeOf q.profile (q.seq x).shot
  rest : p.isQuiescent = true → q.sq.mode = q.profile.mode ∧ q.sq.pendingMode = none
  busy : p.isQuiescent = false → q.sq.mode = p.sq.mode ∧
    q.sq.pendingMode = if q.profile.mode = p.sq.mode then none else some q.profile.mode
  record : p.ru.queue.length < 31 → ∃ r ∈ q.ru.queue,
    r.kind = .PROFILE_CHANGE ∧ r.last = p.tb ∧ r.body = q.pu.effective.told p.pu.selected

/-- What changes of the Profile Unit make of a part: where they leave another effective profile it has been told, and otherwise
nothing has. -/
structure Told (p q : Part) : Prop where
  beside : q.beside = p.beside
  selected : q.pu.selected = p.pu.selected
  seq (x : Pole) : q.seq x = { p.seq x with newValue := (q.seq x).newValue }
  busy : p.isQuiescent = false → q.sq.mode = p.sq.mode
  room : p.ru.queue.length < 31 → q.takesChange
  same : q.pu.effective = p.pu.effective → q.sq = p.sq ∧ q.ru = p.ru
  changed : q.pu.effective ≠ p.pu.effective → Announces p q

section
variable {p q r : Part}

theorem Told.refl (p : Part) : Told p p where
  beside := rfl
  selected := rfl
  seq _ := rfl
  busy _ := rfl
  room := .inl
  same _ := ⟨rfl, rfl⟩
  changed h := absurd rfl h

theorem Told.isQuiescent (h : Told p q) : q.isQuiescent = p.isQuiescent :=
  Part.isQuiescent_congr (fun x => by rw [h.seq x]) (congrArg (·.2.1) h.beside)

theorem Told.locked (h : Told p q) : q.locked = p.locked := by
  have hstate (x : Pole) : (q.seq x).state = (p.seq x).state := by rw [h.seq x]
  simp [Part.locked, hstate]

theorem Announces.of_same (h : Announces p q) (hs : r.sq = q.sq) (hr : r.ru = q.ru) (he : r.pu.effective = q.pu.effective) :
    Announces p r := by
  have hseq (x : Pole) : r.seq x = q.seq x := by simp [Part.seq, hs]
  have hprofile : r.profile = q.profile := by simp [Part.profile, he]
  refine ⟨fun x => ?_, ?_, ?_, ?_⟩
  · rw [hseq, hprofile]
    exact h.newValue x
  · rw [hs, hprofile]
    exact h.rest
  · rw [hs, hprofile]
    exact h.busy
  · rw [hr, he]
    exact h.record

/-- A step that leaves the effective profile. -/
theorem Told.sets (h : Told p q) (hs : Sets q r) (he : r.pu.effective = q.pu.effective) : Told p r where
  beside := hs.beside.trans h.beside
  selected := hs.selected.trans h.selected
  seq x := by
    have hseq : r.seq x = q.seq x := by simp [Part.seq, hs.sq]
    rw [hseq]
    exact h.seq x
  busy hp := by rw [hs.sq, h.busy hp]
  room hp := by rw [Part.takesChange, hs.ru]; exact h.room hp
  same hr := by
    rw [hs.sq, hs.ru]
    exact h.same (he.symm.trans hr)
  changed hr := (h.changed (he ▸ hr)).of_same hs.sq hs.ru he

/-- A step that changes the effective profile, with what tells of it. -/
theorem Told.change (h : Told p q) (hs : Sets q r) (he : r.pu.effective ≠ p.pu.effective) :
    Told p (enterReport .PROFILE_CHANGE none (r.pu.effective.told r.pu.selected) (sqProfileChanged r)) := by
  have hseq (x : Pole) : (sqProfileChanged r).seq x = (q.seq x).judgeNewValue r.profile := by
    rw [sqProfileChanged_seq, Part.seq, hs.sq]
    rfl
  have hquiet : r.isQuiescent = p.isQuiescent := by
    rw [← h.isQuiescent]
    exact Part.isQuiescent_congr (fun x => by simp [Part.seq, hs.sq]) (congrArg (·.2.1) hs.beside)
  have htakes (hp : p.ru.queue.length < 31) : (sqProfileChanged r).takesChange := by
    rw [Part.takesChange, sqProfileChanged_ru, hs.ru]
    exact h.room hp
  have hselected : r.pu.selected = p.pu.selected := hs.selected.trans h.selected
  have hbeside : r.beside = p.beside := hs.beside.trans h.beside
  have htb : r.tb = p.tb := congrArg (·.2.2.2.2.1) hbeside
  have hprofile (b : List Byte) : (enterReport .PROFILE_CHANGE none b (sqProfileChanged r)).profile = r.profile := by
    simp [Part.profile]
  have hmode (hp : p.isQuiescent = false) : (sqProfileChanged r).sq.mode = p.sq.mode ∧ r.sq.mode = p.sq.mode := by
    rw [(sqProfileChanged_busy (hquiet.trans hp)).1, hs.sq, h.busy hp]
    exact ⟨rfl, rfl⟩
  refine ⟨?_, ?_, fun x => ?_, fun hp => ?_, fun hp => (enterReport_change (htakes hp) _).1, fun e => ?_, fun _ => ?_⟩
  · rw [← hbeside]
    simp [Part.beside]
  · simpa using hselected
  · rw [enterReport_seq, hseq, h.seq x]
    rfl
  · rw [enterReport_sq]
    exact (hmode hp).1
  · exact absurd (by simpa using e) he
  · refine ⟨fun x => ?_, fun hp => ?_, fun hp => ?_, fun hp => ?_⟩
    · rw [enterReport_seq, hprofile, hseq]
      exact SeqRec.judgeNewValue_iff _ _
    · rw [enterReport_sq, hprofile]
      exact sqProfileChanged_rest (hquiet.trans hp)
    · rw [enterReport_sq, hprofile, (sqProfileChanged_busy (hquiet.trans hp)).2, (hmode hp).2]
      exact ⟨(hmode hp).1, rfl⟩
    · obtain ⟨a, ha, hkind, hlast, hbody⟩ := (enterReport_change (htakes hp) (r.pu.effective.told r.pu.selected)).2
      refine ⟨a, ha, hkind, ?_, ?_⟩
      · rw [hlast, sqProfileChanged_tb, htb]
      · rw [hbody, hselected, enterReport_pu, sqProfileChanged_pu]

/-- A change at the Profile Unit after which the effective profile is judged; it does not bring back a profile that an earlier one
left. -/
theorem Told.judged {f : Part → Part} (h : Told p q) (hf : Sets q (f q))
    (he : (f q).pu.effective = p.pu.effective → q.pu.effective = p.pu.effective) : Told p (judged f q) := by
  by_cases hs : (f q).pu.effective = q.pu.effective
  · rw [judged_same hs]
    exact h.sets hf hs
  · rw [judged_changed hs]
    exact h.change hf fun e => hs (e.trans (he e).symm)

end

/-! ### The end of the event -/

/-- What a command of the Profile Unit has told of the effective profile it leaves (R52, R71, R72, R79). -/
structure Tells (p t : Part) : Prop where
  same : t.pu.effective = p.pu.effective → (∀ x, (t.seq x).newValue = (p.seq x).newValue) ∧
    ∀ r ∈ t.ru.queue, r.kind = .PROFILE_CHANGE → r ∈ p.ru.queue
  changed : t.pu.effective ≠ p.pu.effective → Announces p t

section
variable {p q : Part}

theorem Told.endEvent_eq (h : Told p q) : endEvent p q = refresh q := endEvent_of_same h.locked

theorem Told.tells (h : Told p q) : Tells p (endEvent p q) := by
  have hpu : (endEvent p q).pu = q.pu := endEvent_pu p q
  refine ⟨fun e => ?_, fun e => ?_⟩
  · obtain ⟨hsq, hru⟩ := h.same (hpu ▸ e)
    refine ⟨fun x => by rw [endEvent_seq, Part.seq, hsq]; rfl, fun r hr hk => ?_⟩
    rw [h.endEvent_eq] at hr
    exact hru ▸ mem_of_mem_refresh (by simp [hk]) hr
  · have ha := h.changed (hpu ▸ e)
    have hprofile : (refresh q).profile = q.profile := by simp [Part.profile]
    rw [h.endEvent_eq]
    refine ⟨fun x => ?_, fun hp => ?_, fun hp => ?_, fun hp => ?_⟩
    · rw [refresh_seq, hprofile]
      exact ha.newValue x
    · obtain ⟨hm, hnone⟩ := ha.rest hp
      rw [(refresh_mode_of_none hnone).1, hprofile]
      exact ⟨hm, (refresh_mode_of_none hnone).2⟩
    · obtain ⟨hm, hpending⟩ := refresh_mode_of_busy (h.isQuiescent.trans hp)
      rw [hm, hpending, hprofile]
      exact ha.busy hp
    · obtain ⟨r, hr, hkind, hlast, hbody⟩ := ha.record hp
      exact ⟨r, mem_refresh_of_mem (h.room hp).room (by simp [hkind]) hr, hkind, hlast, by rw [hbody, refresh_pu]⟩

theorem Told.endEvent_rs (h : Told p q) : (endEvent p q).rs = q.rs := by rw [h.endEvent_eq, refresh_rs]

theorem Told.sameExcept {bs : List Block} (h : Told p q) (hw : ∀ b ∈ Block.watch, b ∈ bs) (hpu : .pu ∈ bs)
    (hrs : .rs ∈ bs ∨ q.rs = p.rs) : sameExcept bs p (endEvent p q) := by
  have hb := h.beside
  simp only [Part.beside, Prod.mk.injEq] at hb
  obtain ⟨hon, _, heu, htu, htb, hrestart⟩ := hb
  exact sameExcept_of hw (by simpa using hon) (by simpa using heu) (by simpa using htu) (by simpa using htb)
    (by simpa using hrestart) (.inl hpu) (hrs.imp_right h.endEvent_rs.trans)

end

end Sys2Proof.Machine
end

section
/-! PROOFS. The override frames and the claim timer (R78, R80 to R82, R87, R89; O46). -/

namespace Sys2Proof.Machine

/-! ### The effective profile (R78, R79) -/

section
variable (u : ProfileUnit)

theorem effective_hotLine (h : u.hotLine = true) : u.effective = ⟨.HOT_LINE, hotLineSettings u.selectedGroup⟩ := if_pos h

theorem effective_temporary (h : u.hotLine = false) {f : TempFrame} (ht : u.temporary = some f) :
    u.effective = ⟨.TEMPORARY f.group, u.groups.get f.group⟩ := by simp [ProfileUnit.effective, h, ht]

theorem effective_coldLoad (h : u.hotLine = false) (ht : u.temporary = none) (hc : u.coldLoad.isSome = true) :
    u.effective = ⟨.COLD_LOAD, coldLoadSettings u.selectedGroup⟩ := by simp [ProfileUnit.effective, h, ht, hc]

theorem effective_group (h : u.hotLine = false) (ht : u.temporary = none) (hc : u.coldLoad = none) :
    u.effective = ⟨.GROUP u.selected, u.selectedGroup⟩ := by simp [ProfileUnit.effective, h, ht, hc]

/-- The frames and the selection name the source: neither the groups nor the claim do. -/
theorem effective_source_withGroups (g : Groups) (c : Option Claim) :
    ({ u with groups := g, claim := c } : ProfileUnit).effective.source = u.effective.source := by
  simp only [ProfileUnit.effective]
  split
  · rfl
  · split
    · rfl
    · split <;> rfl

theorem effective_source_of_none (h : u.hotLine = false) (ht : u.temporary = none) (n : Nat) :
    u.effective.source ≠ .TEMPORARY n := by
  cases hc : u.coldLoad with
  | none => simp [effective_group u h ht hc]
  | some c => simp [effective_coldLoad u h ht (by simp [hc])]

/-- Where another TEMPORARY frame leaves the source, it leaves the settings too. -/
theorem effective_withTemporary {t : Option TempFrame}
    (h : ({ u with temporary := t } : ProfileUnit).effective.source = u.effective.source) :
    ({ u with temporary := t } : ProfileUnit).effective = u.effective := by
  let v : ProfileUnit := { u with temporary := t }
  change v.effective.source = _ at h
  change v.effective = _
  cases hh : u.hotLine with
  | true =>
    rw [effective_hotLine u hh]
    exact effective_hotLine v hh
  | false =>
    have hv : v.hotLine = false := hh
    cases ht : t with
    | none =>
      have hnone : v.temporary = none := ht
      cases hu : u.temporary with
      | none =>
        have hsame : v = u := by
          change ({ u with temporary := t } : ProfileUnit) = u
          rw [ht, ← hu]
        rw [hsame]
      | some f =>
        rw [effective_temporary u hh hu] at h
        exact absurd h (effective_source_of_none v hv hnone _)
    | some f =>
      have hsome : v.temporary = some f := ht
      rw [effective_temporary v hv hsome] at h ⊢
      cases hu : u.temporary with
      | none => exact absurd h.symm (effective_source_of_none u hh hu _)
      | some f' =>
        rw [effective_temporary u hh hu] at h ⊢
        simp only [Source.TEMPORARY.injEq] at h
        rw [h]

end

/-! ### The TEMPORARY frame (R82, R87) -/

/-- The TEMPORARY frame set or taken away. -/
def setTemporary (t : Option TempFrame) (p : Part) : Part := { p with pu := { p.pu with temporary := t } }

/-- A changed TEMPORARY frame: the effective profile is judged, and a held commit whose group is out of use now is applied. -/
def frameChanged (t : Option TempFrame) (p : Part) : Part := applyIfUnused (judged (setTemporary t) p)

theorem temporaryLeaves_eq (p : Part) : temporaryLeaves p = frameChanged none p := rfl

section
variable (p : Part)

/-- A held commit changes the groups of the Profile Unit and releases its claim (R87). -/
theorem applyHeldCommit_pu : ∃ g c, (applyHeldCommit p).pu = { p.pu with groups := g, claim := c } := by
  unfold applyHeldCommit
  split
  · exact ⟨_, _, rfl⟩
  · exact ⟨p.pu.groups, p.pu.claim, rfl⟩

theorem applyHeldCommit_sets : Sets p (applyHeldCommit p) := by
  unfold applyHeldCommit
  split <;> exact ⟨rfl, rfl, rfl, rfl⟩

theorem applyHeldCommit_li : (applyHeldCommit p).li = p.li := by
  unfold applyHeldCommit
  split <;> rfl

theorem applyHeldCommit_source : (applyHeldCommit p).pu.effective.source = p.pu.effective.source := by
  obtain ⟨g, c, h⟩ := applyHeldCommit_pu p
  rw [h, effective_source_withGroups]

/-- A held commit is applied, or nothing is done. -/
theorem applyIfUnused_cases : applyIfUnused p = p ∨ applyIfUnused p = judged applyHeldCommit p := by
  unfold applyIfUnused
  split
  · split
    · exact .inl rfl
    · exact .inr rfl
  · exact .inl rfl

theorem frameChanged_pu (t : Option TempFrame) :
    ∃ g c, (frameChanged t p).pu = { p.pu with temporary := t, groups := g, claim := c } := by
  have hset : (judged (setTemporary t) p).pu = { p.pu with temporary := t } := judged_pu _ _
  rcases applyIfUnused_cases (judged (setTemporary t) p) with h | h
  · exact ⟨p.pu.groups, p.pu.claim, by rw [frameChanged, h, hset]⟩
  · obtain ⟨g, c, hc⟩ := applyHeldCommit_pu (judged (setTemporary t) p)
    exact ⟨g, c, by rw [frameChanged, h, judged_pu, hc, hset]⟩

theorem frameChanged_temporary (t : Option TempFrame) : (frameChanged t p).pu.temporary = t := by
  obtain ⟨_, _, h⟩ := frameChanged_pu p t
  rw [h]

theorem frameChanged_selected (t : Option TempFrame) : (frameChanged t p).pu.selected = p.pu.selected := by
  obtain ⟨_, _, h⟩ := frameChanged_pu p t
  rw [h]

theorem frameChanged_grows (t : Option TempFrame) : Grows p (frameChanged t p) := by
  have hset : Grows p (judged (setTemporary t) p) := judged_grows (.of_li rfl)
  rcases applyIfUnused_cases (judged (setTemporary t) p) with h | h
  · rw [frameChanged, h]
    exact hset
  · rw [frameChanged, h]
    exact hset.trans (judged_grows (.of_li (applyHeldCommit_li _)))

/-- A held commit leaves the source, so it does not bring back a profile that the frame took out of force. -/
theorem Told.frameChanged {p q : Part} (h : Told p q) (he : q.pu.effective = p.pu.effective) (t : Option TempFrame) :
    Told p (frameChanged t q) := by
  have hset : Told p (Machine.judged (setTemporary t) q) := h.judged ⟨rfl, rfl, rfl, rfl⟩ fun _ => he
  rcases applyIfUnused_cases (Machine.judged (setTemporary t) q) with hu | hu
  · rw [Machine.frameChanged, hu]
    exact hset
  · rw [Machine.frameChanged, hu]
    refine hset.judged (applyHeldCommit_sets _) fun e => ?_
    have hsource := applyHeldCommit_source (Machine.judged (setTemporary t) q)
    rw [e, ← he, judged_pu] at hsource
    rw [judged_pu, ← he]
    exact effective_withTemporary q.pu hsource.symm

end

/-! ### The requests (R185) -/

section
variable {l : Link} {w : WaitReq}

theorem passedPart_withClaim (l : Link) (w : WaitReq) (p : Part) :
    ∃ c, (passedPart l w p).pu = { p.pu with claim := c } := ⟨_, loadClaimTimer_pu l _⟩

theorem passedPart_effective (l : Link) (w : WaitReq) (p : Part) : (passedPart l w p).pu.effective = p.pu.effective := by
  obtain ⟨c, h⟩ := passedPart_withClaim l w p
  rw [h]
  rfl

theorem passedPart_temporary (l : Link) (w : WaitReq) (p : Part) : (passedPart l w p).pu.temporary = p.pu.temporary := by
  obtain ⟨c, h⟩ := passedPart_withClaim l w p
  rw [h]

theorem passedPart_told (l : Link) (w : WaitReq) (p : Part) : Told p (passedPart l w p) := by
  obtain ⟨c, h⟩ := passedPart_withClaim l w p
  exact (Told.refl p).sets ⟨by simp [Part.beside], by simp, by simp, by rw [h]⟩ (passedPart_effective l w p)

theorem answer_sets (w : WaitReq) (code : AnswerCode) (p : Part) : Sets p (setUnder l none (answer l w.tag w.req code [] p)) :=
  ⟨by simp [Part.beside, answer], by simp [answer], by simp [answer], by simp [answer]⟩

/-- A request that the Profile Unit answers at once with no content. -/
theorem request_told {s : State} {tag : Byte} {r : Request} (ht : s.taken l r) (hr : onlyReads r = false)
    (ha : ∀ q, afterAnswer r q = q) {q : Part} {code : AnswerCode}
    (hh : handle l tag r (passedPart l ⟨tag, r⟩ s.found) = (q, some (code, []))) (hq : Told s.found q)
    (hg : Grows (passedPart l ⟨tag, r⟩ s.found) q) :
    ∃ t, request l tag r s = .next t ∧ Tells s.found t.part ∧ sameExcept (.pu :: .rs :: Block.watch) s.found t.part ∧
      answered l r tag code [] s.found t.part ∧ t.part.pu = q.pu := by
  have hpow : (s.found.li.get l).powered = true := by
    obtain ⟨_, _, _, hfree, _⟩ := ht
    exact hfree.1
  have hend : Told s.found (setUnder l none (answer l tag r code [] q)) :=
    hq.sets (answer_sets ⟨tag, r⟩ code q) (by simp [answer])
  exact ⟨_, request_answered ht hr ha hh, hend.tells,
    hend.sameExcept (fun b hb => by simp [hb]) (by simp) (.inl (by simp)),
    answeredPart_answered ⟨tag, r⟩ code [] hpow hg, answeredPart_pu _ _ _ _ _ _⟩

end

section
variable {group : Byte} {seconds : Long} {p : Part}

theorem temporaryGroupRequest_done (h1 : 1 ≤ group.toNat) (h4 : group.toNat ≤ 4) (h60 : 60 ≤ seconds.toNat)
    (h86400 : seconds.toNat ≤ 86400) : temporaryGroupRequest group seconds p =
      (frameChanged (some ⟨group.toNat, seconds.toNat * 1000⟩) p, some (.DONE, [])) := by
  have hg : within 1 4 group.toNat = true := by simp [within, h1, h4]
  have hs : within 60 86400 seconds.toNat = true := by simp [within, h60, h86400]
  rw [temporaryGroupRequest, hg, hs]
  rfl

theorem temporaryGroupRequest_range
    (h : ¬ (1 ≤ group.toNat ∧ group.toNat ≤ 4 ∧ 60 ≤ seconds.toNat ∧ seconds.toNat ≤ 86400)) :
    temporaryGroupRequest group seconds p = (p, some (.RANGE, [])) := by
  have hn : (!within 1 4 group.toNat || !within 60 86400 seconds.toNat) = true := by
    simp only [within, Bool.or_eq_true, Bool.not_eq_true', Bool.and_eq_false_iff, decide_eq_false_iff_not]
    omega
  rw [temporaryGroupRequest, if_pos hn]
  rfl

theorem temporaryCancelRequest_done (h : p.pu.temporary.isSome = true) :
    temporaryCancelRequest p = (frameChanged none p, some (.DONE, [])) := if_pos h

theorem temporaryCancelRequest_none (h : p.pu.temporary = none) :
    temporaryCancelRequest p = (p, some (.NOT_FOUND, [])) := by
  rw [temporaryCancelRequest, if_neg (by simp [h])]
  rfl

end

/-! ### The timers (R81, R82, R89) -/

section
variable (p : Part)

theorem temporaryExpiry_told : Told p (temporaryExpiry p) := by
  unfold temporaryExpiry
  split
  · exact (Told.refl p).frameChanged rfl none
  · exact .refl p

theorem temporaryExpiry_temporary : (temporaryExpiry p).pu.temporary = none := by
  unfold temporaryExpiry
  split
  · exact frameChanged_temporary p none
  · next h => simpa using h

theorem coldLoadExpiry_told : Told p (coldLoadExpiry p) := by
  unfold coldLoadExpiry
  split
  · exact (Told.refl p).judged ⟨rfl, rfl, rfl, rfl⟩ fun _ => rfl
  · exact .refl p

theorem coldLoadExpiry_pu : (coldLoadExpiry p).pu = { p.pu with coldLoad := none } := by
  unfold coldLoadExpiry
  split
  · exact judged_pu _ p
  · next h =>
    have hnone : p.pu.coldLoad = none := by simpa using h
    rw [← hnone]

theorem coldLoadExpiry_rs : (coldLoadExpiry p).rs = p.rs := by
  unfold coldLoadExpiry
  split
  · exact judged_rs _ p
  · rfl

theorem claimTimerExpiry_eq : ∃ c, claimTimerExpiry p = { p with pu := { p.pu with claim := c } } := by
  unfold claimTimerExpiry
  split
  · split
    · exact ⟨none, rfl⟩
    · exact ⟨p.pu.claim, rfl⟩
  · exact ⟨p.pu.claim, rfl⟩

theorem claimTimerExpiry_told : Told p (claimTimerExpiry p) := by
  obtain ⟨c, h⟩ := claimTimerExpiry_eq p
  rw [h]
  exact (Told.refl p).sets ⟨rfl, rfl, rfl, rfl⟩ rfl

theorem claimTimerExpiry_rs : (claimTimerExpiry p).rs = p.rs := by
  obtain ⟨c, h⟩ := claimTimerExpiry_eq p
  rw [h]

variable {p} {c : Claim}

theorem claimTimerExpiry_editing (h : p.pu.claim = some c) {n : Nat} (hs : c.state = .EDITING n) :
    (claimTimerExpiry p).pu = { p.pu with claim := none } := by
  simp [claimTimerExpiry, h, hs, releaseClaim]

theorem claimTimerExpiry_held (h : p.pu.claim = some c) {tag : Byte} (hs : c.state = .COMMIT_WAIT tag) :
    (claimTimerExpiry p).pu = p.pu := by
  simp [claimTimerExpiry, h, hs]

end

/-- Settles O46: each command by what it tells of the effective profile it leaves. -/
theorem framesAndClaimEnd : Obligations.FramesAndClaimEnd := by
  refine ⟨fun tag group seconds s hon => ?_, fun u => ?_, fun p => ⟨fun q hq => ?_, fun v => rfl⟩⟩
  · intro tells
    have told {t : State} (h : Tells s.found t.part) : tells t := by
      refine ⟨h.same, fun e => ?_⟩
      obtain ⟨hnew, hrest, hbusy, hrecord⟩ := h.changed e
      refine ⟨hnew, hrest, hbusy, fun hroom => ?_⟩
      obtain ⟨r, hr, hkind, hlast, hbody⟩ := hrecord hroom
      refine ⟨r, hr, hkind, hlast, hbody.trans ?_⟩
      simp only [Profile.told]
      cases t.part.pu.effective.source <;> rfl
    refine ⟨fun ht => ?_, fun ht => ?_, ?_, ?_, ?_⟩
    · by_cases hrange : 1 ≤ group.toNat ∧ group.toNat ≤ 4 ∧ 60 ≤ seconds.toNat ∧ seconds.toNat ≤ 86400
      · obtain ⟨h1, h4, h60, h86400⟩ := hrange
        obtain ⟨t, he, htells, hsame, hans, hpu⟩ := request_told ht rfl (fun _ => rfl)
          (temporaryGroupRequest_done h1 h4 h60 h86400)
          ((passedPart_told _ _ _).frameChanged (passedPart_effective _ _ _) _) (frameChanged_grows _ _)
        exact ⟨t, he, told htells, hsame, fun _ _ _ _ => ⟨hans, by rw [hpu, frameChanged_temporary]⟩,
          fun h => absurd ⟨h1, h4, h60, h86400⟩ h⟩
      · obtain ⟨t, he, htells, hsame, hans, hpu⟩ := request_told ht rfl (fun _ => rfl)
          (temporaryGroupRequest_range hrange) (passedPart_told _ _ _) (.refl _)
        exact ⟨t, he, told htells, hsame, fun h1 h4 h60 h86400 => absurd ⟨h1, h4, h60, h86400⟩ hrange,
          fun _ => ⟨hans, by rw [hpu, passedPart_temporary]⟩⟩
    · cases hf : s.found.pu.temporary with
      | none =>
        obtain ⟨t, he, htells, hsame, hans, hpu⟩ := request_told ht rfl (fun _ => rfl)
          (temporaryCancelRequest_none (by rw [passedPart_temporary, hf])) (passedPart_told _ _ _) (.refl _)
        exact ⟨t, he, told htells, by rw [hpu, passedPart_temporary, hf], hsame, hans⟩
      | some f =>
        obtain ⟨t, he, htells, hsame, hans, hpu⟩ := request_told ht rfl (fun _ => rfl)
          (temporaryCancelRequest_done (by rw [passedPart_temporary, hf]; rfl))
          ((passedPart_told _ _ _).frameChanged (passedPart_effective _ _ _) _) (frameChanged_grows _ _)
        exact ⟨t, he, told htells, by rw [hpu, frameChanged_temporary], hsame, hans⟩
    · have h := temporaryExpiry_told s.found
      exact ⟨_, event_on hon, told h.tells, (congrArg (·.temporary) (endEvent_pu _ _)).trans (temporaryExpiry_temporary _),
        (congrArg (·.selected) (endEvent_pu _ _)).trans h.selected,
        h.sameExcept (fun b hb => by simp [hb]) (by simp) (.inl (by simp))⟩
    · have h := coldLoadExpiry_told s.found
      exact ⟨_, event_on hon, told h.tells, (endEvent_pu _ _).trans (coldLoadExpiry_pu _),
        h.sameExcept (fun b hb => by simp [hb]) (by simp) (.inr (coldLoadExpiry_rs _))⟩
    · have h := claimTimerExpiry_told s.found
      exact ⟨_, event_on hon, h.endEvent_rs.trans (claimTimerExpiry_rs _),
        h.sameExcept (fun b hb => by simp [hb]) (by simp) (.inr (claimTimerExpiry_rs _)),
        fun c n hc hs => (endEvent_pu _ _).trans (claimTimerExpiry_editing hc hs),
        fun c tg hc hs => (endEvent_pu _ _).trans (claimTimerExpiry_held hc hs)⟩
  · exact ⟨effective_hotLine u, fun h _ => effective_temporary u h, effective_coldLoad u, effective_group u⟩
  · rcases hq with rfl | rfl
    · exact formPickups_takesMode p
    · exact recover_takesMode p

end Sys2Proof.Machine
end

section
/-! PROOFS. What a lockout, a trip request and the end of an operation keep of every sequence record: its shot, its last trip cause
and an energy wait of 0 (R46, R50, R54, R60; O39, O40). -/

namespace Sys2Proof.Machine

/-! ### Records (R46, R48, R60) -/

/-- A record with the shot and the last trip cause of another, and with no energy wait where that has none. -/
structure SeqRec.Keeps (r s : SeqRec) : Prop where
  shot : s.shot = r.shot
  lastTrip : s.lastTrip = r.lastTrip
  energyWait : r.energyWait = 0 → s.energyWait = 0

namespace SeqRec.Keeps

theorem refl (r : SeqRec) : r.Keeps r := ⟨rfl, rfl, id⟩

theorem trans {r s t : SeqRec} (h : r.Keeps s) (k : s.Keeps t) : r.Keeps t :=
  ⟨k.shot.trans h.shot, k.lastTrip.trans h.lastTrip, fun e => k.energyWait (h.energyWait e)⟩

theorem locked (r : SeqRec) (c : LockCause) : r.Keeps (r.locked c) := ⟨rfl, rfl, fun _ => rfl⟩

theorem dead (r : SeqRec) (n : Nat) : r.Keeps (r.dead n) := ⟨rfl, rfl, fun _ => rfl⟩

theorem deadStopped (r : SeqRec) : r.Keeps r.deadStopped := ⟨rfl, rfl, id⟩

theorem note (r : SeqRec) (n : EndNote) : r.Keeps (r.note n) := by
  simp only [SeqRec.note]
  split
  · exact ⟨rfl, rfl, id⟩
  · exact refl r

theorem markSuperseded (r : SeqRec) : r.Keeps r.markSuperseded := by
  simp only [SeqRec.markSuperseded]
  split
  · exact ⟨rfl, rfl, id⟩
  · exact refl r

end SeqRec.Keeps

/-! ### Operations -/

/-- Every sequence record keeps its shot, its last trip cause and an energy wait of 0. -/
def KeepsRecords (p q : Part) : Prop := ∀ x, (p.seq x).Keeps (q.seq x)

namespace KeepsRecords
variable {p q r : Part}

theorem trans (h : KeepsRecords p q) (k : KeepsRecords q r) : KeepsRecords p r := fun x => (h x).trans (k x)

theorem of_seq (h : ∀ x, q.seq x = p.seq x) : KeepsRecords p q := fun x => by rw [h]; exact .refl _

theorem refl (p : Part) : KeepsRecords p p := .of_seq fun _ => rfl

theorem applyAll {α : Type} {f : α → Part → Part} (h : ∀ a p, KeepsRecords p (f a p)) (as : List α) (p : Part) :
    KeepsRecords p (applyAll f as p) := applyAll_induction (fun a q hq => hq.trans (h a q)) as (.refl p)

theorem mapSeq {f : Pole → SeqRec → SeqRec} (h : ∀ x, (p.seq x).Keeps (f x (p.seq x))) (s : PoleSet) :
    KeepsRecords p (mapSeq s f p) := fun x => by
  rw [seq_mapSeq]
  split
  · exact h x
  · exact .refl _

theorem setSeq {x : Pole} {r : SeqRec} (h : (p.seq x).Keeps r) : KeepsRecords p (p.setSeq x r) := fun y => by
  rw [Part.seq_setSeq]
  split
  · rename_i e
    rw [e]
    exact h
  · exact .refl _

end KeepsRecords

theorem enterLockout_keepsRecords (c : LockSet) (p : Part) : KeepsRecords p (enterLockout c p) := fun x => by
  rw [enterLockout_seq]
  split
  · exact .locked _ _
  · exact .refl _

theorem notePoles_keepsRecords (s : PoleSet) (n : EndNote) (p : Part) : KeepsRecords p (notePoles s n p) :=
  .mapSeq (fun _ => .note _ n) s

theorem cancelSeq_keepsRecords (x : Pole) (p : Part) : KeepsRecords p (cancelSeq x p) := by
  have hdrop : KeepsRecords p (dropSeq x p) := .of_seq fun _ => rfl
  simp only [cancelSeq]
  split
  · exact hdrop.trans (.setSeq (.deadStopped _))
  · exact hdrop

theorem clearEntries_keepsRecords (s : PoleSet) (p : Part) : KeepsRecords p (clearEntries s p) := by
  have hlinks : KeepsRecords p (endLinkEntries s .CANCELLED p) := .of_seq fun x => by simp [Part.seq]
  have hcancel : KeepsRecords (endLinkEntries s .CANCELLED p) (cancelEntries s p) :=
    .applyAll cancelSeq_keepsRecords _ _
  exact (hlinks.trans hcancel).trans (.of_seq fun x => judgeQuiescence_seq _ x)

theorem coilChecks_keepsRecords (s : PoleSet) (p : Part) : KeepsRecords p (coilChecks s p) := by
  have hmech (xs : List Pole) : KeepsRecords p (applyAll (setMech .COIL_OPEN) xs p) :=
    .applyAll (fun x q => .of_seq fun y => by simp [Part.seq]) xs p
  exact (hmech _).trans (enterLockout_keepsRecords _ _)

theorem endFirst_keepsRecords (f : Flight) (p : Part) : KeepsRecords p (endFirst f p) := by
  have hbefore : KeepsRecords p (clearMotion f.fire (beginEnd p)) := .of_seq fun _ => rfl
  have hcount (q : Part) : KeepsRecords q (countAndWear f q) := .of_seq fun x => by simp [Part.seq]
  exact (hbefore.trans (coilChecks_keepsRecords _ _)).trans (hcount _)

theorem endSuperseded_keepsRecords (f : Flight) (p : Part) : KeepsRecords p (endSuperseded f p) := by
  have hmark (q : Part) : KeepsRecords q (markSuperseded f.op q) := by
    simp only [markSuperseded]
    split
    · exact .mapSeq (fun _ => .markSuperseded _) _
    · exact .refl q
  have hlast (q : Part) : KeepsRecords q (driveFreed (endLast f .SUPERSEDED q)) :=
    .of_seq fun x => by simp only [driveFreed, judgeQuiescence_seq]; simp [endLast, pushHistory, Part.seq]
  exact ((endFirst_keepsRecords f p).trans (hmark _)).trans (hlast _)

theorem supersede_keepsRecords (p : Part) : KeepsRecords p (supersede p) := by
  unfold supersede
  split
  · split
    · exact KeepsRecords.trans (.of_seq fun x => by simp [Part.seq]) (endSuperseded_keepsRecords _ _)
    · exact .refl p
  · exact .refl p

theorem mergeTrip_keepsRecords (s : PoleSet) (e : ReqEntry) (p : Part) : KeepsRecords p (mergeTrip s e p).1 := by
  simp only [mergeTrip]
  split
  · exact KeepsRecords.trans (.of_seq fun x => by simp [Part.seq]) (supersede_keepsRecords _)
  · split
    · split
      · exact .refl p
      · exact .of_seq fun _ => rfl
    · exact .refl p

/-- A trip request with an end note adds no pole of the Sequencer's, and starts no dead timer (R60). -/
theorem takeTrip_keepsRecords {c : OpCause} (hc : c.note.isSome = true) (s : PoleSet) (w : Requester) (t : Option Byte)
    (p : Part) : KeepsRecords p (takeTrip s c w t p).1 := by
  obtain ⟨n, hn⟩ := Option.isSome_iff_exists.1 hc
  by_cases h : p.bc.partState = .RUN ∧ s.isEmpty = false
  · have hadded : (reportedTrip s c w p).2 = .empty := by rw [reportedTrip, sqTripReport_of_note hn]
    have hreport : KeepsRecords p (reportedTrip s c w p).1 := by
      rw [reportedTrip, sqTripReport_of_note hn]
      exact (clearEntries_keepsRecords s p).trans ((notePoles_keepsRecords _ n _).trans (enterLockout_keepsRecords _ _))
    have hmerge : KeepsRecords p (mergedTrip s c w t p).1 := hreport.trans (mergeTrip_keepsRecords _ _ _)
    have hempty : PoleSet.empty.isEmpty = true := by decide
    refine hmerge.trans (.of_seq fun x => ?_)
    rw [takeTrip_of_run h.1 h.2, hadded]
    simp [addTrip, hempty, hn]
  · rw [takeTrip_of_none h]
    exact .refl p

theorem noteAndTrip_keepsRecords (s : PoleSet) (n : EndNote) {c : OpCause} (hc : c.note.isSome = true) (p : Part) :
    KeepsRecords p (noteAndTrip s n c p) := by
  simp only [noteAndTrip, seqTrip]
  split
  · exact .refl p
  · exact (notePoles_keepsRecords s n p).trans (takeTrip_keepsRecords hc _ _ _ _)

theorem lockWithGang_keepsRecords (c : LockSet) (b : Bool) (p : Part) : KeepsRecords p (lockWithGang c b p) := by
  simp only [lockWithGang]
  split
  · exact (enterLockout_keepsRecords _ p).trans (noteAndTrip_keepsRecords _ _ rfl _)
  · exact enterLockout_keepsRecords _ p

/-! ### Who is locked out, and the entries of the poles locked out (R46, R59, R127) -/

section
variable {p : Part} {c : LockSet} {x : Pole}

/-- A pole in LOCKOUT already keeps its record (R46). -/
theorem enterLockout_locked (h : (p.seq x).state = .LOCKOUT) (c : LockSet) : (enterLockout c p).seq x = p.seq x := by
  simp [enterLockout_seq, Part.newLocks, h]

theorem lockWithGang_locked (h : (p.seq x).state = .LOCKOUT) (c : LockSet) (b : Bool) : Rests x p (lockWithGang c b p) := by
  simp only [lockWithGang]
  split
  · exact Rests.trans (.of_seq (enterLockout_locked h _)) (noteAndTrip_rests _ _ rfl _)
  · exact .of_seq (enterLockout_locked h _)

/-- At a sequence lockout a pole that shows OPEN, and whose reclose is not in flight, locks out for the gang (R59). -/
theorem lockWithGang_opened (h : c.get x = none) (hs : (p.seq x).state ≠ .LOCKOUT) (hr : p.recloseFired x = false)
    (hopen : p.position x = .OPEN) :
    ((lockWithGang c true p).seq x).state = .LOCKOUT ∧ ((lockWithGang c true p).seq x).lockout = some .GANG := by
  have hgang : (c.orElse (gangLocks c p)).get x = some .GANG := by
    simp [LockSet.orElse, h, gangLocks, LockSet.get_of, LockSet.poles, Part.showsOpen, hopen, Part.reclosing, hr]
  have hrec := enterLockout_record p hgang
  rw [if_neg hs] at hrec
  obtain ⟨hstate, -, hlock, -⟩ := noteAndTrip_rests (gangTrips c p) .GANG (c := .GANG_LOCKOUT) rfl _
    (show ((enterLockout (c.orElse (gangLocks c p)) p).seq x).atRest by rw [hrec]; exact SeqRec.locked_atRest _ _)
  rw [lockWithGang, if_pos rfl, hstate, hlock, hrec]
  exact ⟨rfl, rfl⟩

/-- A pole that is locked out has no energy wait left. -/
theorem lockWithGang_energyWait {k : LockCause} (h : c.get x = some k) (hs : (p.seq x).state ≠ .LOCKOUT) (b : Bool) :
    ((lockWithGang c b p).seq x).energyWait = 0 := by
  have hlocked {d : LockSet} (hd : d.get x = some k) : ((enterLockout d p).seq x).energyWait = 0 := by
    rw [enterLockout_record p hd, if_neg hs]
    rfl
  simp only [lockWithGang]
  split
  · exact (noteAndTrip_keepsRecords _ _ rfl _ x).energyWait (hlocked (by simp [LockSet.orElse, h]))
  · exact hlocked h

/-- The pole has no entry, and is of no unit of the waiting order. -/
def Part.Gone (p : Part) (x : Pole) : Prop := p.dc.seq.get x = none ∧ ∀ u ∈ p.nu.waiting, u.has x = false

theorem GivesWay.gone {q : Part} (h : GivesWay p q) (hp : p.Gone x) : q.Gone x := ⟨h.entry_none hp.1, h.apart hp.2⟩

theorem dropSeq_gone (x : Pole) (p : Part) : (dropSeq x p).Gone x := by
  refine ⟨by rw [dropSeq_dc_seq, if_pos rfl], fun u hu => ?_⟩
  simp only [dropSeq, dropWaiting, List.mem_filter, List.mem_map] at hu
  obtain ⟨⟨v, -, rfl⟩, -⟩ := hu
  simp

theorem applyAll_dropSeq_gone {xs : List Pole} (hx : x ∈ xs) (p : Part) : (applyAll dropSeq xs p).Gone x := by
  induction xs generalizing p with
  | nil => simp at hx
  | cons y ys ih =>
    rcases List.mem_cons.1 hx with rfl | hx
    · exact (GivesWay.applyAll dropSeq_givesWay ys _).gone (dropSeq_gone x p)
    · exact ih hx _

/-- The entry of a pole that is locked out is withdrawn (R46, R127). -/
theorem enterLockout_gone {k : LockCause} (h : c.get x = some k) (hx : p.unfired x = true) : (enterLockout c p).Gone x := by
  have hwait : (p.seq x).state = .CLOSE_WAIT := by simpa using (by simpa [Part.unfired] using hx : _ ∧ _).1
  have hmem : x ∈ (p.newLocks c).poles.members.filter p.unfired := by
    simp [LockSet.poles, Part.newLocks, hwait, h, hx]
  exact applyAll_dropSeq_gone hmem p

theorem lockWithGang_gone {k : LockCause} (h : c.get x = some k) (hx : p.unfired x = true) (b : Bool) :
    (lockWithGang c b p).Gone x := by
  simp only [lockWithGang]
  split
  · exact (noteAndTrip_givesWay _ _ _ _).gone (enterLockout_gone (k := k) (by simp [LockSet.orElse, h]) hx)
  · exact enterLockout_gone h hx

end

end Sys2Proof.Machine
end

section
/-! PROOFS. The energy wait limit and the open count (R54, R59, R62, R213; O39). -/

namespace Sys2Proof.Machine

/-! ### The locks at the energy wait limit (R54, R213) -/

/-- The poles whose entries come to the limit together: a pole's, or those of its gang that wait (R213). -/
def Part.limitUnit (p : Part) (x : Pole) : PoleSet :=
  .ofFun fun y => (p.unitOf x).has y && p.dc.seq.get y == some .WAIT_ENERGY

section
variable {p : Part} {x y : Pole}

theorem energyWaitLimit_waits (h : p.dc.seq.get x = some .WAIT_ENERGY) :
    energyWaitLimit x p = lockWithGang (limitLocks (p.limitUnit x)) true p := by
  simp [energyWaitLimit, h, Part.limitUnit]

theorem limitUnit_eq (p : Part) (x : Pole) : p.limitUnit x = .ofFun fun y =>
    (y == x || (p.seq x).ganged && (p.seq y).ganged) && p.dc.seq.get y == some .WAIT_ENERGY := by
  refine PoleSet.ext_has fun y => ?_
  cases hg : (p.seq x).ganged with
  | false => simp [Part.limitUnit, Part.unitOf, hg]
  | true =>
    by_cases hy : y = x
    · simp [Part.limitUnit, Part.unitOf, Part.gang, hg, hy]
    · simp [Part.limitUnit, Part.unitOf, Part.gang, hg, beq_eq_false_iff_ne.2 hy]

theorem limitUnit_self (h : p.dc.seq.get x = some .WAIT_ENERGY) : (p.limitUnit x).has x = true := by
  simp [limitUnit_eq, h]

theorem limitUnit_alone (h : p.dc.seq.get x = some .WAIT_ENERGY) (hg : (p.seq x).ganged = false) :
    p.limitUnit x = .single x := by
  refine PoleSet.ext_has fun y => ?_
  by_cases hy : y = x
  · simp [limitUnit_eq, hg, hy, h]
  · simp [limitUnit_eq, hg, hy]

theorem limitLocks_get_of_has {s : PoleSet} (h : s.has y = true) :
    (limitLocks s).get y = some (if s.members.head? = some y then .NO_ENERGY else .GANG) := by
  have hmem : y ∈ s.members := by simpa using h
  cases hs : s.members with
  | nil => simp [hs] at hmem
  | cons a as =>
    by_cases ha : a = y
    · simp [limitLocks, hs, LockSet.orElse, LockSet.get_of, ha]
    · simp [limitLocks, hs, LockSet.orElse, LockSet.get_of, ha, Ne.symm ha, h]

theorem limitLocks_get_of_not_has {s : PoleSet} (h : s.has y = false) : (limitLocks s).get y = none := by
  cases hs : s.members with
  | nil => simp [limitLocks, hs, LockSet.empty]
  | cons a as =>
    have ha : s.has a = true := (PoleSet.mem_members s a).1 (by simp [hs])
    have hne : y ≠ a := fun e => by simp [e, ha] at h
    simp [limitLocks, hs, LockSet.orElse, LockSet.get_of, hne, h]

/-! ### The limit -/

/-- A pole of the unit, in CLOSE_WAIT, locks out with the entry that waited. -/
theorem energyWaitLimit_locks (h : p.dc.seq.get x = some .WAIT_ENERGY) (hy : (p.limitUnit x).has y = true)
    (hs : (p.seq y).state = .CLOSE_WAIT) :
    ((energyWaitLimit x p).seq y).state = .LOCKOUT ∧ ((energyWaitLimit x p).seq y).energyWait = 0 ∧
      ((energyWaitLimit x p).seq y).lockout =
        some (if (p.limitUnit x).members.head? = some y then .NO_ENERGY else .GANG) ∧
      (energyWaitLimit x p).Gone y := by
  have hwaits : p.dc.seq.get y = some .WAIT_ENERGY := by simpa using (by simpa [Part.limitUnit] using hy : _ ∧ _).2
  have hget := limitLocks_get_of_has hy
  have hne : (p.seq y).state ≠ .LOCKOUT := by simp [hs]
  rw [energyWaitLimit_waits h]
  obtain ⟨hstate, hlock⟩ := lockWithGang_locks hget hne true
  exact ⟨hstate, lockWithGang_energyWait hget hne true, hlock,
    lockWithGang_gone hget (by simp [Part.unfired, hs, hwaits]) true⟩

/-- Every other pole that shows OPEN locks out for the gang, unless its reclose is in flight. -/
theorem energyWaitLimit_others (h : p.dc.seq.get x = some .WAIT_ENERGY) (hy : (p.limitUnit x).has y = false)
    (hopen : p.position y = .OPEN) (hs : (p.seq y).state ≠ .LOCKOUT)
    (hw : (p.seq y).state = .CLOSE_WAIT → (p.dc.seq.get y).isSome = true) :
    ((energyWaitLimit x p).seq y).state = .LOCKOUT ∧ ((energyWaitLimit x p).seq y).lockout = some .GANG := by
  have hfired : p.recloseFired y = false := by
    by_cases hwait : (p.seq y).state = .CLOSE_WAIT
    · simpa [Part.recloseFired, hwait] using hw hwait
    · simp [Part.recloseFired, hwait]
  rw [energyWaitLimit_waits h]
  exact lockWithGang_opened (limitLocks_get_of_not_has hy) hs hfired hopen

theorem energyWaitLimit_sameExcept (h : p.dc.seq.get x = some .WAIT_ENERGY) :
    sameExcept (.rs :: Block.watch) p (endEvent p (energyWaitLimit x p)) := by
  rw [energyWaitLimit_waits h]
  exact sameExcept_of (by decide) (by simp) (by simp) (by simp) (by simp) (by simp) (.inr (by simp)) (.inl (by decide))

/-! ### The open count (R62) -/

theorem openCountTick_open (h : p.position x = .OPEN) : openCountTick x p =
    p.setSeq x { p.seq x with openCount := min 65535 ((p.seq x).openCount + 1), openMs := 0 } := by
  simp [openCountTick, Part.showsOpen, h]

theorem openCountTick_not_open (h : p.position x ≠ .OPEN) : openCountTick x p = p := by
  simp [openCountTick, Part.showsOpen, h]

theorem openCountTick_other (h : y ≠ x) : (openCountTick x p).seq y = p.seq y := by
  by_cases ho : p.position x = .OPEN
  · rw [openCountTick_open ho, Part.seq_setSeq, if_neg h]
  · rw [openCountTick_not_open ho]

theorem openCountTick_ofEntries (x : Pole) (p : Part) : OfEntries p (openCountTick x p) := by
  by_cases ho : p.position x = .OPEN
  · rw [openCountTick_open ho]
    exact ⟨_, _, _, rfl⟩
  · rw [openCountTick_not_open ho]
    exact .refl p

theorem openCountTick_locked (x : Pole) (p : Part) : (openCountTick x p).locked = p.locked := by
  refine Part.locked_congr fun y => ?_
  by_cases hy : y = x
  · by_cases ho : p.position x = .OPEN
    · simp [openCountTick_open ho, hy]
    · rw [openCountTick_not_open ho]
  · rw [openCountTick_other hy]

theorem openCountTick_sameExcept (x : Pole) (p : Part) : sameExcept Block.watch p (endEvent p (openCountTick x p)) := by
  have hof := openCountTick_ofEntries x p
  intro b hb
  by_cases hrs : b = .rs
  · subst hrs
    exact hof.endEvent_rs (openCountTick_locked x p)
  · exact hof.endEvent_sameExcept b (by simp [hrs, hb])

end

end Sys2Proof.Machine
end

section
namespace Sys2Proof.Machine

/-- Settles O39: the unit whose entries wait locks out, the other poles that show OPEN with it; a count rises by itself. -/
theorem waitAndOpenCounts : Obligations.WaitAndOpenCounts := by
  intro x s hon
  refine ⟨fun hx hs => ?_, ⟨_, event_on hon, fun ho => ?_, fun ho => ?_, fun y hy => ?_,
    (openCountTick_ofEntries x s.found).endEvent_poles, openCountTick_sameExcept x s.found⟩⟩
  · obtain ⟨hstate, hwait, hlock, -⟩ := energyWaitLimit_locks hx (limitUnit_self hx) hs
    refine ⟨_, event_on hon, ?_, ?_, fun hg => ?_, energyWaitLimit_sameExcept hx, ?_⟩
    · rw [endEvent_seq, hstate]
    · rw [endEvent_seq, hwait]
    · rw [endEvent_seq, hlock, limitUnit_alone hx hg, if_pos]
      cases x <;> rfl
    · rw [← limitUnit_eq]
      refine fun hgo => ⟨fun y hy => ?_, fun y hy hopen hne hw => ?_⟩
      · obtain ⟨hstate, hwait, hlock, hnone, hapart⟩ := energyWaitLimit_locks hx hy (hgo y hy)
        rw [endEvent_seq]
        exact ⟨hstate, hwait, hlock, (endEvent_entry_of_apart _ _ hapart).trans hnone⟩
      · rw [endEvent_seq]
        exact energyWaitLimit_others hx hy hopen hne hw
  · rw [endEvent_seq, openCountTick_open ho, Part.seq_setSeq, if_pos rfl]
  · rw [endEvent_seq, openCountTick_not_open ho]
  · rw [endEvent_seq, openCountTick_other hy]

end Sys2Proof.Machine
end

section
/-! PROOFS. What entering LOCKOUT records and reports (R46; O40). -/

namespace Sys2Proof.Machine

/-! ### The LOCKOUT report (R46, R160) -/

section
variable {a b : Part}

theorem newlyLocked_eq (b a : Part) : newlyLocked b a =
    .ofFun fun x => (a.seq x).state == .LOCKOUT && (b.seq x).state != .LOCKOUT && !a.sq.told.has x :=
  PoleSet.ext_has fun x => by simp [newlyLocked, Part.locked, bne]

theorem newlyLocked_of_same (h : a.locked = b.locked) : (newlyLocked b a).isEmpty = true := by
  rw [PoleSet.isEmpty_iff]
  intro x
  simp [newlyLocked, h]

/-- A LOCKOUT report merges with no other, and stands at the end of a queue with room. -/
theorem enterReport_lockout_queue {p : Part} (hroom : p.ru.queue.length < 32) (s : Option PoleSet) (body : List Byte) :
    (enterReport .LOCKOUT s body p).ru.queue =
      p.ru.queue ++ [⟨p.ru.nextNumber, .LOCKOUT, s, p.tb, p.tb, 1, false, body⟩] := by
  have hany : p.ru.queue.any (mergesInto .LOCKOUT s) = false := by simp [mergesInto, ReportKind.cls]
  rw [enterReport, if_neg (by simp [hany]), if_pos (show _ < Config.queueMax from hroom), judgeSending_queue]
  rfl

/-- An event after which every lockout has been told of makes no report. -/
theorem reportLockouts_ru_of_told (h : (newlyLocked b a).isEmpty = true) : (reportLockouts b a).ru = a.ru := by
  have htell : tellLockouts b (retain .LOCKOUT a) = retain .LOCKOUT a := if_pos h
  rw [reportLockouts]
  split
  · rfl
  · rw [htell]
    rfl

theorem tellLockouts_queue (h : (newlyLocked b a).isEmpty = false) (hroom : a.ru.queue.length < 32) :
    (tellLockouts b a).ru.queue = a.ru.queue ++ [⟨a.ru.nextNumber, .LOCKOUT, some (newlyLocked b a), a.tb, a.tb, 1, false,
      lockoutBody (newlyLocked b a) a⟩] := by
  simp only [tellLockouts, h, Bool.false_eq_true, if_false]
  refine (enterReport_lockout_queue ?_ _ _).trans rfl
  exact hroom

/-- The report of an event names the poles that are in none yet. -/
theorem reportLockouts_queue (h : (newlyLocked b a).isEmpty = false) (hroom : a.ru.queue.length < 32) :
    (reportLockouts b a).ru.queue = a.ru.queue ++ [⟨a.ru.nextNumber, .LOCKOUT, some (newlyLocked b a), a.tb, a.tb, 1, false,
      lockoutBody (newlyLocked b a) a⟩] := by
  have hne : a.locked ≠ b.locked := fun e => by simp [newlyLocked_of_same e] at h
  rw [reportLockouts, if_neg hne]
  exact tellLockouts_queue (a := retain .LOCKOUT a) h hroom

theorem reportLockouts_rs_lockout (h : a.locked ≠ b.locked) :
    (reportLockouts b a).rs.lockout = a.rs.lockout.hand (imageOf a .LOCKOUT) := by
  rw [reportLockouts, if_neg h]
  simp only [tellLockouts_rs]
  rfl

theorem Part.locked_iff_of_eq (h : a.locked = b.locked) (x : Pole) :
    (a.seq x).state = .LOCKOUT ↔ (b.seq x).state = .LOCKOUT := by
  have hx := congrArg (PoleSet.has · x) h
  rw [← beq_iff_eq, ← beq_iff_eq (a := (b.seq x).state)]
  simpa [Part.locked] using Bool.eq_iff_iff.1 hx

end

end Sys2Proof.Machine
end

section
/-! PROOFS. The Sequencer at the end of a trip, from the count of shots to the timers (R50, R51, R52, R59, R60; O40). -/

namespace Sys2Proof.Machine

/-! ### The poles settled, the count and the decision (R50, R51) -/

/-- The end of the trip settles the pole (R50). -/
def Flight.Settles (f : Flight) (p : Part) (x : Pole) : Prop := f.op.poles.has x = true ∧
  ((p.seq x).state = .TRIP_WAIT ∨ ((p.seq x).state = .CLOSE_WAIT ∧ (p.seq x).superseded = true))

/-- The pole counts toward a shot (R50). -/
def Flight.Counts (f : Flight) (p : Part) (x : Pole) : Prop :=
  f.Settles p x ∧ (∃ e ∈ f.op.requesters, e.cause = .PROTECTIVE) ∧
    (f.closedAtFire.has x = true ∨ (p.seq x).superseded = true)

section
variable (f : Flight) (p : Part) (x : Pole)

theorem SeqRec.settles_iff (r : SeqRec) :
    r.settles = true ↔ r.state = .TRIP_WAIT ∨ (r.state = .CLOSE_WAIT ∧ r.superseded = true) := by simp [SeqRec.settles]

theorem countsShot_iff : (countsShot f p).has x = true ↔ f.Counts p x := by
  simp [countsShot, Flight.Counts, Flight.Settles, SeqRec.settles_iff, and_assoc]

/-- What the count changes of a record. -/
theorem countShots_seq : (countShots f p).seq x = { p.seq x with
    shot := shotAfter (countsShot f p) p.gang (p.highestShot p.gang) x (p.seq x)
    lastTrip := if f.moved.has x then some f.op.cause else (p.seq x).lastTrip } := by
  simp only [countShots, seq_mapSeq, PoleSet.has_full, if_true]
  split <;> rfl

theorem countShots_profile : (countShots f p).profile = p.profile := by simp [Part.profile]

theorem settledBy_iff : ((countShots f p).settledBy f).has x = true ↔ f.Settles p x := by
  simp [Part.settledBy, Flight.Settles, SeqRec.settles_iff, countShots_seq]

variable {f p x}

theorem Flight.Settles.not_lockout (h : f.Settles p x) : (p.seq x).state ≠ .LOCKOUT := by
  rcases h.2 with hs | ⟨hs, -⟩ <;> simp [hs]

theorem Flight.Settles.not_dead (h : f.Settles p x) : (p.seq x).state ≠ .DEAD := by
  rcases h.2 with hs | ⟨hs, -⟩ <;> simp [hs]

theorem settledBy_false (h : ¬ f.Settles p x) : ((countShots f p).settledBy f).has x = false := by
  rwa [Bool.eq_false_iff, ne_eq, settledBy_iff]

/-- The shot of a pole outside a gang (R50). -/
theorem countShots_shot_alone (hg : (p.seq x).ganged = false) :
    (f.Counts p x → ((countShots f p).seq x).shot = min 4 ((p.seq x).shot + 1)) ∧
      (¬ f.Counts p x → ((countShots f p).seq x).shot = (p.seq x).shot) := by
  rw [← countsShot_iff, countShots_seq]
  exact ⟨fun h => by simp [shotAfter, hg, h], fun h => by simp [shotAfter, hg, h]⟩

theorem countsShot_overlaps_iff :
    (countsShot f p).overlaps p.gang = true ↔ ∃ z, (p.seq z).ganged = true ∧ f.Counts p z := by
  rw [PoleSet.overlaps, Bool.not_eq_true', PoleSet.isEmpty_false_iff]
  simp [Part.gang, countsShot_iff, and_comm]

/-- The shot of a member of the gang (R50). -/
theorem countShots_shot_ganged (hg : (p.seq x).ganged = true) : ((countShots f p).seq x).shot =
    if (countsShot f p).overlaps p.gang then min 4 (p.highestShot p.gang + 1) else (p.seq x).shot := by
  rw [countShots_seq]
  simp [shotAfter, hg]

theorem foldl_max_eq {xs : List Pole} {g : Pole → Nat} {y : Pole} (hy : y ∈ xs) (hmax : ∀ z ∈ xs, g z ≤ g y) {m : Nat}
    (hm : m ≤ g y) : xs.foldl (fun m x => max m (g x)) m = g y := by
  have habove (zs : List Pole) (h : ∀ z ∈ zs, g z ≤ g y) : zs.foldl (fun m x => max m (g x)) (g y) = g y := by
    induction zs with
    | nil => rfl
    | cons z zs ih => rw [List.foldl_cons, Nat.max_eq_left (h z (by simp)), ih fun w hw => h w (by simp [hw])]
  induction xs generalizing m with
  | nil => simp at hy
  | cons z zs ih =>
    have hz : ∀ w ∈ zs, g w ≤ g y := fun w hw => hmax w (by simp [hw])
    rw [List.foldl_cons]
    rcases List.mem_cons.1 hy with rfl | hy
    · rw [Nat.max_eq_right hm, habove zs hz]
    · exact ih hy hz (Nat.max_le.2 ⟨hm, hmax z (by simp)⟩)

theorem Part.highestShot_eq {s : PoleSet} {y : Pole} (hy : s.has y = true)
    (hmax : ∀ z, s.has z = true → (p.seq z).shot ≤ (p.seq y).shot) : p.highestShot s = (p.seq y).shot :=
  foldl_max_eq (g := fun z => (p.seq z).shot) (by simpa using hy) (by simpa using hmax) (Nat.zero_le _)

/-- Where a member of the gang counts, the gang takes its highest shot plus one (R50). -/
theorem countShots_shot_highest (hg : (p.seq x).ganged = true) {y : Pole} (hy : (p.seq y).ganged = true)
    (hmax : ∀ z, (p.seq z).ganged = true → (p.seq z).shot ≤ (p.seq y).shot)
    (hz : ∃ z, (p.seq z).ganged = true ∧ f.Counts p z) :
    ((countShots f p).seq x).shot = min 4 ((p.seq y).shot + 1) := by
  have hhighest : p.highestShot p.gang = (p.seq y).shot :=
    Part.highestShot_eq (by simpa [Part.gang] using hy) fun z hz => hmax z (by simpa [Part.gang] using hz)
  rw [countShots_shot_ganged hg, if_pos (countsShot_overlaps_iff.2 hz), hhighest]

/-- Where no member of the gang counts, its shots stay. -/
theorem countShots_shot_uncounted (hg : (p.seq x).ganged = true) (hz : ∀ z, (p.seq z).ganged = true → ¬ f.Counts p z) :
    ((countShots f p).seq x).shot = (p.seq x).shot := by
  rw [countShots_shot_ganged hg, if_neg]
  rw [countsShot_overlaps_iff]
  exact fun ⟨z, hzg, hzc⟩ => hz z hzg hzc

/-- The conditions of R51 in their order, by the tags as they stand. -/
theorem sequenceCause_eq (f : Flight) (p : Part) (x : Pole) : sequenceCause f p x =
    if f.fire.has x = true ∧ f.moved.has x = false then some .MECH_FAIL
    else if (p.dc.poles.get x).mechFail = some .COIL_OPEN then some .MECH_FAIL
    else if ∃ g ∈ p.tu.tags, g.kind = .HOT_LINE then some .HOT_LINE
    else if ∃ g ∈ p.tu.tags, (g.kind = .RECLOSE_BLOCK ∨ g.kind = .CLEARANCE) ∧ g.poles.has x = true then some .RECLOSE_BLOCK
    else if 1000 ≤ (p.dc.poles.get x).wear then some .WEAR
    else if p.profile.opsToLockout ≤ (p.seq x).shot then some .SHOTS
    else if p.sq.meas ≠ .OK then some .BLIND
    else none := by
  have hunmoved : (f.fire.has x && !f.moved.has x) = true ↔ f.fire.has x = true ∧ f.moved.has x = false := by simp
  have hhot : p.tu.hotLine = true ↔ ∃ g ∈ p.tu.tags, g.kind = .HOT_LINE := by simp [TagUnit.hotLine, TagUnit.anyKind]
  have hblocked : p.tu.blocked x = true ↔
      ∃ g ∈ p.tu.tags, (g.kind = .RECLOSE_BLOCK ∨ g.kind = .CLEARANCE) ∧ g.poles.has x = true := by
    simp only [TagUnit.blocked, TagUnit.covers, Bool.or_eq_true, List.any_eq_true, Bool.and_eq_true, beq_iff_eq]
    rw [← exists_or]
    exact exists_congr fun g => by tauto
  have hblind : (!p.sqOk) = true ↔ p.sq.meas ≠ .OK := by simp [Part.sqOk]
  simp only [sequenceCause, tagOrWearLock, hunmoved, hhot, hblocked, hblind]
  split_ifs <;> rfl

end

/-! ### Records as the end of the trip leaves them before its lockouts (R51, R60) -/

/-- The records of the trip's poles settled, before the lockouts. -/
def tripSettled (f : Flight) (p : Part) : Part :=
  mapSeq f.op.poles (settleRec f (countShots f p)) (countShots f p)

/-- The end of a trip before the gang's timer. -/
def tripLocked (f : Flight) (p : Part) : Part :=
  lockWithGang (tripEndLocks f (countShots f p)) (tripEndIsSequence f (countShots f p)) (tripSettled f p)

theorem sqTripEnd_eq (f : Flight) (p : Part) :
    sqTripEnd f p = restartLeft f.op.poles (startGang (tripLocked f p)) := rfl

theorem SeqRec.tripOver_keeps (r : SeqRec) : r.Keeps r.tripOver := ⟨rfl, rfl, id⟩

theorem SeqRec.opened_keeps (r : SeqRec) : r.Keeps r.opened := by
  unfold SeqRec.opened
  split
  · exact ⟨rfl, rfl, id⟩
  · exact ⟨rfl, rfl, id⟩
  · exact ⟨rfl, rfl, id⟩
  · exact .refl r

theorem SeqRec.settledDead_keeps (r : SeqRec) (n : Nat) : r.Keeps (r.settledDead n) := by
  unfold SeqRec.settledDead
  split <;> exact ⟨rfl, rfl, fun _ => rfl⟩

section
variable {f : Flight} {p : Part} {x : Pole}

theorem settleRec_dead (h : (p.settledBy f).has x = true) (hc : tripEndCause f p x = none) (r : SeqRec) :
    settleRec f p x r = (r.settledDead (deadTimeOf p.profile r.shot)).tripOver := by simp [settleRec, h, hc]

theorem settleRec_other (h : (p.settledBy f).has x = false) (r : SeqRec) : settleRec f p x r =
    if f.moved.has x = true ∧ r.endNote = none then r.opened.tripOver else r.tripOver := by simp [settleRec, h]

theorem settleRec_keeps (f : Flight) (p : Part) (x : Pole) (r : SeqRec) : r.Keeps (settleRec f p x r) := by
  simp only [settleRec]
  split
  · split
    · exact (r.settledDead_keeps _).trans (SeqRec.tripOver_keeps _)
    · exact r.tripOver_keeps
  · split
    · exact r.opened_keeps.trans (SeqRec.tripOver_keeps _)
    · exact r.tripOver_keeps

theorem SeqRec.opened_state (r : SeqRec) : r.opened.state = r.state ∨ r.opened.state = .OPEN := by
  unfold SeqRec.opened
  split <;> simp

theorem SeqRec.opened_ganged {r : SeqRec} (h : r.opened.ganged = true) : r.ganged = true := by
  unfold SeqRec.opened at h
  split at h
  · cases h
  · cases h
  · cases h
  · exact h

theorem SeqRec.tripOver_ganged {r : SeqRec} (h : r.tripOver.ganged = true) : r.ganged = true := by
  simp only [SeqRec.tripOver, Bool.and_eq_true] at h
  exact h.1.1

theorem SeqRec.settledDead_state (r : SeqRec) (n : Nat) : (r.settledDead n).state = .DEAD := by
  unfold SeqRec.settledDead
  split <;> rfl

theorem SeqRec.settledDead_ganged (r : SeqRec) (n : Nat) : (r.settledDead n).ganged = r.ganged := by
  unfold SeqRec.settledDead
  split <;> rfl

/-- A trip end settles a pole into DEAD or OPEN, or leaves its state. -/
theorem settleRec_state (f : Flight) (p : Part) (x : Pole) (r : SeqRec) :
    (settleRec f p x r).state = r.state ∨ (settleRec f p x r).state = .DEAD ∨ (settleRec f p x r).state = .OPEN := by
  simp only [settleRec]
  split
  · split
    · exact .inr (.inl (r.settledDead_state _))
    · exact .inl rfl
  · split
    · exact r.opened_state.imp_right .inr
    · exact .inl rfl

theorem settleRec_ganged {r : SeqRec} (h : (settleRec f p x r).ganged = true) : r.ganged = true := by
  simp only [settleRec] at h
  split at h
  · split at h
    · exact r.settledDead_ganged _ ▸ SeqRec.tripOver_ganged h
    · exact SeqRec.tripOver_ganged h
  · split at h
    · exact SeqRec.opened_ganged (SeqRec.tripOver_ganged h)
    · exact SeqRec.tripOver_ganged h

theorem tripSettled_seq (f : Flight) (p : Part) (x : Pole) : (tripSettled f p).seq x =
    if f.op.poles.has x then settleRec f (countShots f p) x ((countShots f p).seq x) else (countShots f p).seq x :=
  seq_mapSeq _ _ _ _

@[simp] theorem tripSettled_dc (f : Flight) (p : Part) : (tripSettled f p).dc = p.dc := by simp [tripSettled]

@[simp] theorem tripSettled_pu (f : Flight) (p : Part) : (tripSettled f p).pu = p.pu := by simp [tripSettled]

@[simp] theorem tripSettled_bc (f : Flight) (p : Part) : (tripSettled f p).bc = p.bc := by simp [tripSettled]

@[simp] theorem tripSettled_position (f : Flight) (p : Part) (x : Pole) : (tripSettled f p).position x = p.position x := by
  simp [Part.position]

theorem countShots_state (f : Flight) (p : Part) (x : Pole) : ((countShots f p).seq x).state = (p.seq x).state := by
  rw [countShots_seq]

theorem countShots_endNote (f : Flight) (p : Part) (x : Pole) : ((countShots f p).seq x).endNote = (p.seq x).endNote := by
  rw [countShots_seq]

theorem countShots_ganged (f : Flight) (p : Part) (x : Pole) : ((countShots f p).seq x).ganged = (p.seq x).ganged := by
  rw [countShots_seq]

theorem tripSettled_state (f : Flight) (p : Part) (x : Pole) : ((tripSettled f p).seq x).state = (p.seq x).state ∨
    ((tripSettled f p).seq x).state = .DEAD ∨ ((tripSettled f p).seq x).state = .OPEN := by
  rw [tripSettled_seq, ← countShots_state f]
  split
  · exact settleRec_state _ _ _ _
  · exact .inl rfl

theorem tripSettled_not_lockout (h : (p.seq x).state ≠ .LOCKOUT) : ((tripSettled f p).seq x).state ≠ .LOCKOUT := by
  rcases tripSettled_state f p x with e | e | e <;> simp [e, h]

theorem tripSettled_ganged (h : ((tripSettled f p).seq x).ganged = true) : (p.seq x).ganged = true := by
  rw [← countShots_ganged f]
  rw [tripSettled_seq] at h
  split at h
  · exact settleRec_ganged h
  · exact h

/-- A pole in LOCKOUT keeps its state and its cause. -/
theorem tripSettled_lockout (h : (p.seq x).state = .LOCKOUT) : ((tripSettled f p).seq x).state = .LOCKOUT ∧
    ((tripSettled f p).seq x).lockout = (p.seq x).lockout := by
  have hsettled : ((countShots f p).settledBy f).has x = false :=
    settledBy_false fun hs => hs.not_lockout h
  have hq : ((countShots f p).seq x).state = .LOCKOUT := (countShots_state f p x).trans h
  have hopened : ((countShots f p).seq x).opened = (countShots f p).seq x := by simp [SeqRec.opened, hq]
  have hlockout : ((countShots f p).seq x).lockout = (p.seq x).lockout := by rw [countShots_seq]
  rw [tripSettled_seq]
  split
  · rw [settleRec_other hsettled, hopened, ite_self]
    exact ⟨hq, hlockout⟩
  · exact ⟨hq, hlockout⟩

/-! ### Timers at the end of a trip (R51, R52) -/

/-- A record that waits in DEAD with nothing left of its trip. -/
def SeqRec.Waits (r : SeqRec) : Prop :=
  r.state = .DEAD ∧ r.energyWait = 0 ∧ r.newValue = false ∧ r.superseded = false

theorem SeqRec.Waits.dead {r : SeqRec} (h : r.Waits) (n : Nat) : (r.dead n).Waits := ⟨rfl, rfl, rfl, h.2.2.2⟩

theorem SeqRec.settledDead_waits (r : SeqRec) (n : Nat) : (r.settledDead n).tripOver.Waits := by
  unfold SeqRec.settledDead
  split <;> exact ⟨rfl, rfl, rfl, rfl⟩

theorem startDead_keepsRecords (y : Pole) (p : Part) : KeepsRecords p (startDead y p) := .setSeq (.dead _ _)

theorem startDead_waits (y : Pole) {p : Part} (h : (p.seq x).Waits) : ((startDead y p).seq x).Waits := by
  rw [startDead, Part.seq_setSeq]
  split
  · rename_i e
    subst e
    exact h.dead _
  · exact h

theorem applyAll_startDead_seq {xs : List Pole} (hx : x ∉ xs) (p : Part) : (applyAll startDead xs p).seq x = p.seq x := by
  induction xs generalizing p with
  | nil => rfl
  | cons y ys ih =>
    obtain ⟨hy, hys⟩ : x ≠ y ∧ x ∉ ys := by simpa using hx
    rw [applyAll, ih hys, startDead, Part.seq_setSeq, if_neg hy]

/-- A pole keeps its record but where the trip left it in DEAD with its timer stopped, outside the gang. -/
theorem restartLeft_seq {s : PoleSet} (h : s.has x = false ∨ (p.seq x).state ≠ .DEAD ∨ (p.seq x).deadTimer.isSome = true) :
    (restartLeft s p).seq x = p.seq x := by
  refine applyAll_startDead_seq ?_ p
  rcases h with h | h | h
  · simp [h]
  · simp [h]
  · simp [Option.isSome_iff_ne_none.1 h]

theorem startGang_keepsRecords (p : Part) : KeepsRecords p (startGang p) := by
  simp only [startGang]
  split
  · exact .refl p
  · split
    · exact .refl p
    · exact .mapSeq (fun _ => .dead _ _) _

theorem startGang_waits (h : (p.seq x).Waits) : ((startGang p).seq x).Waits := by
  simp only [startGang]
  split
  · exact h
  · split
    · exact h
    · rw [seq_mapSeq]
      split
      · exact h.dead _
      · exact h

/-- The gang's members in DEAD start the timer of their common shot, once one of them has it stopped. -/
theorem startGang_starts (hd : p.gangDead.has x = true) (ht : (p.seq x).deadTimer = none) (ha : p.gangAwaits = false)
    (hs : ∀ y, p.gangDead.has y = true → (p.seq y).shot = (p.seq x).shot) :
    (startGang p).seq x = (p.seq x).dead (deadTimeOf p.profile (p.seq x).shot) := by
  have hstopped : p.gangStopped.isEmpty = false :=
    (PoleSet.isEmpty_false_iff _).2 ⟨x, by simp [Part.gangStopped, hd, ht]⟩
  have hx : x ∈ p.gangDead.members := by simpa using hd
  rw [startGang, if_neg (by simp [ha, hstopped])]
  cases hm : p.gangDead.members with
  | nil => simp [hm] at hx
  | cons y ys =>
    have hy : p.gangDead.has y = true := (PoleSet.mem_members _ _).1 (by simp [hm])
    simp [hd, hs y hy]

/-! ### The whole end (R50, R51, R59, R60) -/

/-- Past its lockouts a trip end changes the poles in DEAD alone. -/
theorem sqTripEnd_seq_of_not_dead (h : ((tripLocked f p).seq x).state ≠ .DEAD) :
    (sqTripEnd f p).seq x = (tripLocked f p).seq x := by
  have hgang : (startGang (tripLocked f p)).seq x = (tripLocked f p).seq x := startGang_seq (by simp [Part.gangDead, h])
  rw [sqTripEnd_eq, restartLeft_seq (.inr (.inl (by rw [hgang]; exact h))), hgang]

theorem tripLocked_keepsRecords (f : Flight) (p : Part) : KeepsRecords (countShots f p) (tripLocked f p) :=
  (KeepsRecords.mapSeq (fun y => settleRec_keeps f _ y _) f.op.poles).trans (lockWithGang_keepsRecords _ _ _)

theorem sqTripEnd_keepsRecords (f : Flight) (p : Part) : KeepsRecords (countShots f p) (sqTripEnd f p) :=
  ((tripLocked_keepsRecords f p).trans (startGang_keepsRecords _)).trans (.applyAll startDead_keepsRecords _ _)

theorem sqTripEnd_shot (f : Flight) (p : Part) (x : Pole) :
    ((sqTripEnd f p).seq x).shot = ((countShots f p).seq x).shot := (sqTripEnd_keepsRecords f p x).shot

theorem sqTripEnd_dc (f : Flight) (p : Part) : (sqTripEnd f p).dc = (tripLocked f p).dc := by
  rw [sqTripEnd_eq, restartLeft_dc, startGang_dc]

end

/-! ### Who locks out (R51, R59, R60) -/

section
variable {f : Flight} {p : Part} {x : Pole}

theorem waitingShots_get_none {s : PoleSet} {c : LockSet} (h : (p.seq x).ganged = false ∨ (p.seq x).state ≠ .DEAD) :
    (waitingShots s c p).get x = none := by
  simp only [waitingShots]
  split
  · rcases h with h | h <;> simp [LockSet.get_of, h]
  · simp [LockSet.empty]

/-- The locks of a pole that does not wait in DEAD with the gang. -/
theorem tripEndLocks_get (f : Flight) (h : (p.seq x).ganged = false ∨ (p.seq x).state ≠ .DEAD) :
    (tripEndLocks f p).get x = if (p.settledBy f).has x then tripEndCause f p x
      else if f.op.poles.has x then otherEndCause f p x else none := by
  have hwaiting (c : LockSet) : (waitingShots (p.settledBy f) c p).get x = none := waitingShots_get_none h
  simp only [tripEndLocks, LockSet.orElse, PerPole.get_ofFun, LockSet.get_on, PoleSet.has_diff, hwaiting]
  cases (p.settledBy f).has x <;> cases f.op.poles.has x <;> simp

theorem tripEndLocks_settled (h : f.Settles p x) :
    (tripEndLocks f (countShots f p)).get x = tripEndCause f (countShots f p) x := by
  have hdead : ((countShots f p).seq x).state ≠ .DEAD := by rw [countShots_state]; exact h.not_dead
  rw [tripEndLocks_get f (.inr hdead), if_pos ((settledBy_iff f p x).2 h)]

/-- A pole that the trip end names locks out for its cause. -/
theorem sqTripEnd_locks {k : LockCause} (h : (tripEndLocks f (countShots f p)).get x = some k)
    (hs : (p.seq x).state ≠ .LOCKOUT) :
    ((sqTripEnd f p).seq x).state = .LOCKOUT ∧ ((sqTripEnd f p).seq x).lockout = some k := by
  have hlocked := lockWithGang_locks (p := tripSettled f p) h (tripSettled_not_lockout hs) (tripEndIsSequence f (countShots f p))
  rw [sqTripEnd_seq_of_not_dead (by simp [tripLocked, hlocked.1])]
  exact hlocked

/-- A pole in LOCKOUT keeps its cause. -/
theorem sqTripEnd_lockout (h : (p.seq x).state = .LOCKOUT) :
    ((sqTripEnd f p).seq x).state = .LOCKOUT ∧ ((sqTripEnd f p).seq x).lockout = (p.seq x).lockout := by
  obtain ⟨hstate, hlock⟩ := tripSettled_lockout (f := f) h
  obtain ⟨ks, -, kl, -⟩ := lockWithGang_locked hstate (tripEndLocks f (countShots f p)) (tripEndIsSequence f (countShots f p))
    (by simp [SeqRec.atRest, hstate])
  rw [hstate] at ks
  rw [sqTripEnd_seq_of_not_dead (by simp [tripLocked, ks])]
  exact ⟨ks, kl.trans hlock⟩

theorem tripEndCause_note {n : EndNote} (h : (p.seq x).endNote = some n) : tripEndCause f p x = some n.cause := by
  simp [tripEndCause, h]

theorem tripEndCause_none (h : (p.seq x).endNote = none) : tripEndCause f p x = sequenceCause f p x := by
  simp [tripEndCause, h]

/-- The lockout of a settled pole that is not by a note makes it a sequence lockout (R59). -/
theorem tripEndIsSequence_iff : tripEndIsSequence f (countShots f p) = true ↔
    ∃ x, f.Settles p x ∧ (p.seq x).endNote = none ∧ sequenceCause f (countShots f p) x ≠ none := by
  rw [tripEndIsSequence, PoleSet.any_iff]
  refine exists_congr fun x => ?_
  rw [settledBy_iff, countShots_endNote]
  refine and_congr_right fun _ => ?_
  cases hn : (p.seq x).endNote with
  | none => simp [tripEndCause_none ((countShots_endNote f p x).trans hn), Option.isSome_iff_ne_none]
  | some n => simp

/-! #### A pole of the trip that is not settled (R60) -/

theorem tripEndLocks_other (hx : f.op.poles.has x = true) (h : ¬ f.Settles p x) {k : LockCause}
    (hc : otherEndCause f (countShots f p) x = some k) : (tripEndLocks f (countShots f p)).get x = some k := by
  simp [tripEndLocks, LockSet.orElse, LockSet.get_on, settledBy_false h, hx, hc]

/-- The trip end names no pole outside the trip and the gang. -/
theorem tripEndLocks_outside (hx : f.op.poles.has x = false) (hg : (p.seq x).ganged = false) :
    (tripEndLocks f (countShots f p)).get x = none := by
  have hsettled : ((countShots f p).settledBy f).has x = false := settledBy_false fun h => by simp [h.1] at hx
  rw [tripEndLocks_get f (.inl ((countShots_ganged f p x).trans hg))]
  simp [hsettled, hx]

theorem otherEndCause_note {n : EndNote} (hm : f.moved.has x = true) (hn : (p.seq x).endNote = some n) :
    otherEndCause f p x = some n.cause := by simp [otherEndCause, hm, hn]

theorem otherEndCause_unmoved (hf : f.fire.has x = true) (hm : f.moved.has x = false) :
    otherEndCause f p x = some .MECH_FAIL := by simp [otherEndCause, hf, hm]

end

/-! ### A trip end that is no sequence lockout -/

section
variable {f : Flight} {p : Part} {x : Pole} (hn : tripEndIsSequence f (countShots f p) = false)
include hn

theorem tripLocked_eq : tripLocked f p = enterLockout (tripEndLocks f (countShots f p)) (tripSettled f p) := by
  simp [tripLocked, lockWithGang, hn]

theorem tripLocked_seq_of_none (h : (tripEndLocks f (countShots f p)).get x = none) :
    (tripLocked f p).seq x = (tripSettled f p).seq x := by
  rw [tripLocked_eq hn, enterLockout_other _ h]

theorem tripLocked_trip : (tripLocked f p).dc.trip = p.dc.trip := by
  rw [tripLocked_eq hn, Drive.trip_of_unlisted (enterLockout_unlisted _ _), tripSettled_dc]

theorem tripLocked_ganged (h : ((tripLocked f p).seq x).ganged = true) : (p.seq x).ganged = true := by
  rw [tripLocked_eq hn] at h
  cases hc : (tripEndLocks f (countShots f p)).get x with
  | none =>
    rw [enterLockout_other _ hc] at h
    exact tripSettled_ganged h
  | some k =>
    rw [enterLockout_record _ hc] at h
    split at h
    · exact tripSettled_ganged h
    · simp [SeqRec.locked] at h

/-- No member of the gang awaits another trip where none is pending. -/
theorem tripLocked_not_awaits (hf : p.dc.flight = none) (ht : p.dc.trip = none) : (tripLocked f p).gangAwaits = false := by
  have htrip := (tripLocked_trip hn).trans ht
  have hflight : (tripLocked f p).dc.flight = none := by rw [tripLocked_eq hn]; simpa using hf
  rw [Part.gangAwaits, PoleSet.overlaps_false_iff]
  simp [Drive.pendingPoles, Drive.tripPoles, htrip, hflight]

/-- A settled pole that no cause locks out goes to DEAD (R51). -/
theorem tripLocked_dead (h : f.Settles p x) (hnote : (p.seq x).endNote = none)
    (hc : sequenceCause f (countShots f p) x = none) : (tripLocked f p).seq x =
      (((countShots f p).seq x).settledDead (deadTimeOf p.profile ((countShots f p).seq x).shot)).tripOver := by
  have hcause : tripEndCause f (countShots f p) x = none :=
    (tripEndCause_none ((countShots_endNote f p x).trans hnote)).trans hc
  rw [tripLocked_seq_of_none hn ((tripEndLocks_settled h).trans hcause), tripSettled_seq, if_pos h.1,
    settleRec_dead ((settledBy_iff f p x).2 h) hcause, countShots_profile]

theorem sqTripEnd_waits (h : f.Settles p x) (hnote : (p.seq x).endNote = none)
    (hc : sequenceCause f (countShots f p) x = none) : ((sqTripEnd f p).seq x).Waits := by
  have hwaits : ((tripLocked f p).seq x).Waits := by
    rw [tripLocked_dead hn h hnote hc]
    exact SeqRec.settledDead_waits _ _
  exact applyAll_induction (P := fun q => (q.seq x).Waits) (fun y _ hq => startDead_waits y hq) _ (startGang_waits hwaits)

/-- A pole that goes to DEAD outside the gang starts a timer of its own (R52). -/
theorem sqTripEnd_timer_alone (h : f.Settles p x) (hnote : (p.seq x).endNote = none)
    (hc : sequenceCause f (countShots f p) x = none) (hg : (p.seq x).ganged = false) :
    ((sqTripEnd f p).seq x).deadTimer = some (deadTimeOf p.profile ((countShots f p).seq x).shot) ∧
      ((sqTripEnd f p).seq x).deadLength = deadTimeOf p.profile ((countShots f p).seq x).shot := by
  have hlocked := tripLocked_dead hn h hnote hc
  have hq : ((countShots f p).seq x).ganged = false := (countShots_ganged f p x).trans hg
  rw [SeqRec.settledDead, hq, if_neg (by decide)] at hlocked
  have hgang : (startGang (tripLocked f p)).seq x = (tripLocked f p).seq x :=
    startGang_seq (by simp [Part.gangDead, hlocked, SeqRec.tripOver, SeqRec.dead, hq])
  rw [sqTripEnd_eq, restartLeft_seq (.inr (.inr (by rw [hgang, hlocked]; rfl))), hgang, hlocked]
  exact ⟨rfl, rfl⟩

/-- The gang's members that go to DEAD start one timer, of the shot they have in common (R52, R57). -/
theorem sqTripEnd_timer_gang (hf : p.dc.flight = none) (ht : p.dc.trip = none) (h : f.Settles p x)
    (hnote : (p.seq x).endNote = none) (hc : sequenceCause f (countShots f p) x = none) (hg : (p.seq x).ganged = true)
    (hcount : ∃ z, (p.seq z).ganged = true ∧ f.Counts p z) :
    ((sqTripEnd f p).seq x).deadTimer = some (deadTimeOf p.profile ((countShots f p).seq x).shot) ∧
      ((sqTripEnd f p).seq x).deadLength = deadTimeOf p.profile ((countShots f p).seq x).shot := by
  have hlocked := tripLocked_dead hn h hnote hc
  have hq : ((countShots f p).seq x).ganged = true := (countShots_ganged f p x).trans hg
  rw [SeqRec.settledDead, hq, if_pos rfl] at hlocked
  have hshot {y : Pole} (hy : (p.seq y).ganged = true) : ((tripLocked f p).seq y).shot = min 4 (p.highestShot p.gang + 1) := by
    rw [(tripLocked_keepsRecords f p y).shot, countShots_shot_ganged hy, if_pos (countsShot_overlaps_iff.2 hcount)]
  have hsame (y : Pole) (hy : (tripLocked f p).gangDead.has y = true) :
      ((tripLocked f p).seq y).shot = ((tripLocked f p).seq x).shot := by
    have hyg : ((tripLocked f p).seq y).ganged = true := by
      simpa using (by simpa [Part.gangDead] using hy : _ ∧ _).1
    rw [hshot (tripLocked_ganged hn hyg), hshot hg]
  have hprofile : (tripLocked f p).profile = p.profile := by simp [Part.profile, tripLocked]
  have hstart := startGang_starts (p := tripLocked f p) (x := x)
    (by simp [Part.gangDead, hlocked, SeqRec.tripOver, SeqRec.deadStopped, hq])
    (by rw [hlocked]; rfl) (tripLocked_not_awaits hn hf ht) hsame
  rw [hprofile, (tripLocked_keepsRecords f p x).shot] at hstart
  rw [sqTripEnd_eq, restartLeft_seq (.inr (.inr (by rw [hstart]; rfl))), hstart]
  exact ⟨rfl, rfl⟩

/-- A pole of the trip that moved with no note, from CLOSED_IDLE, TIMING or RECLAIM, is OPEN (R60). -/
theorem sqTripEnd_opened (hx : f.op.poles.has x = true) (hm : f.moved.has x = true) (hnote : (p.seq x).endNote = none)
    (hs : (p.seq x).state = .CLOSED_IDLE ∨ (p.seq x).state = .TIMING ∨ (p.seq x).state = .RECLAIM) :
    ((sqTripEnd f p).seq x).state = .OPEN ∧ ((sqTripEnd f p).seq x).reclaim = .stopped ∧
      ((sqTripEnd f p).seq x).ganged = false := by
  have hq := countShots_state f p x
  have hqnote := (countShots_endNote f p x).trans hnote
  have hsettled : ((countShots f p).settledBy f).has x = false :=
    settledBy_false fun ⟨_, ht⟩ => by rcases ht with ht | ⟨ht, -⟩ <;> simp [ht] at hs
  have hlock : (tripEndLocks f (countShots f p)).get x = none := by
    rw [tripEndLocks_get f (.inr (by rw [hq]; rcases hs with hs | hs | hs <;> simp [hs]))]
    simp [hsettled, hx, otherEndCause, hm, hqnote]
  have hopened : ((countShots f p).seq x).opened =
      { (countShots f p).seq x with state := .OPEN, reclaim := .stopped, ganged := false } := by
    rcases hs with hs | hs | hs <;> simp [SeqRec.opened, hq, hs]
  have hlocked : (tripLocked f p).seq x = ((countShots f p).seq x).opened.tripOver := by
    rw [tripLocked_seq_of_none hn hlock, tripSettled_seq, if_pos hx, settleRec_other hsettled, if_pos ⟨hm, hqnote⟩]
  rw [hopened] at hlocked
  rw [sqTripEnd_seq_of_not_dead (by simp [hlocked, SeqRec.tripOver]), hlocked]
  exact ⟨rfl, rfl, rfl⟩

/-- A pole outside the trip and the gang keeps its record. -/
theorem sqTripEnd_outside (hx : f.op.poles.has x = false) (hm : f.moved.has x = false) (hg : (p.seq x).ganged = false) :
    (sqTripEnd f p).seq x = p.seq x := by
  have hcounts : ¬ f.Counts p x := fun h => by simp [h.1.1] at hx
  have hq : (countShots f p).seq x = p.seq x := by
    have hshot := (countShots_shot_alone hg).2 hcounts
    rw [countShots_seq] at hshot ⊢
    simp only at hshot
    simp [hshot, hm]
  have hlocked : (tripLocked f p).seq x = p.seq x := by
    rw [tripLocked_seq_of_none hn (tripEndLocks_outside hx hg), tripSettled_seq, if_neg (by simp [hx]), hq]
  have hgang : (startGang (tripLocked f p)).seq x = p.seq x :=
    (startGang_seq (by simp [Part.gangDead, hlocked, hg])).trans hlocked
  rw [sqTripEnd_eq, restartLeft_seq (.inl hx), hgang]

end

/-! ### A trip end that is a sequence lockout (R59) -/

section
variable {f : Flight} {p : Part} {x : Pole}

/-- No pole's reclose stays in flight past its trip but one whose entry has fired outside the trip. -/
theorem tripSettled_not_fired (h : (tripEndLocks f (countShots f p)).get x = none)
    (hw : (p.seq x).state = .CLOSE_WAIT → f.Settles p x ∨ (p.dc.seq.get x).isSome = true) :
    (tripSettled f p).recloseFired x = false := by
  by_cases hwait : ((tripSettled f p).seq x).state = .CLOSE_WAIT
  · have hp : (p.seq x).state = .CLOSE_WAIT := by
      rcases tripSettled_state f p x with e | e | e <;> rw [hwait] at e
      · exact e.symm
      · cases e
      · cases e
    rcases hw hp with hs | hentry
    · have hcause := (tripEndLocks_settled hs).symm.trans h
      rw [tripSettled_seq, if_pos hs.1, settleRec_dead ((settledBy_iff f p x).2 hs) hcause] at hwait
      have hdead : (((countShots f p).seq x).settledDead
          (deadTimeOf (countShots f p).profile ((countShots f p).seq x).shot)).tripOver.state = .DEAD :=
        SeqRec.settledDead_state _ _
      rw [hdead] at hwait
      cases hwait
    · simpa [Part.recloseFired, hwait] using hentry
  · simp [Part.recloseFired, hwait]

/-- At a sequence lockout every other pole that shows OPEN locks out, and every other one is tripped. -/
theorem sqTripEnd_gang (hf : p.dc.flight = none) (hrun : p.bc.partState = .RUN)
    (hseq : tripEndIsSequence f (countShots f p) = true) (hs : (p.seq x).state ≠ .LOCKOUT)
    (hw : (p.seq x).state = .CLOSE_WAIT → f.Settles p x ∨ (p.dc.seq.get x).isSome = true) :
    (p.position x = .OPEN → ((sqTripEnd f p).seq x).state = .LOCKOUT ∧
        (f.op.poles.has x = false → (p.seq x).ganged = false → ((sqTripEnd f p).seq x).lockout = some .GANG)) ∧
      (p.position x ≠ .OPEN → ((sqTripEnd f p).seq x).state = .LOCKOUT ∨
        (sqTripEnd f p).dc.pendingPoles.has x = true) := by
  cases hc : (tripEndLocks f (countShots f p)).get x with
  | some k =>
    have hlock := (sqTripEnd_locks hc hs).1
    refine ⟨fun _ => ⟨hlock, fun hx hg => ?_⟩, fun _ => .inl hlock⟩
    simp [tripEndLocks_outside hx hg] at hc
  | none =>
    have hne := tripSettled_not_lockout (f := f) hs
    have hfired := tripSettled_not_fired hc hw
    have hlocked : tripLocked f p = lockWithGang (tripEndLocks f (countShots f p)) true (tripSettled f p) := by
      rw [tripLocked, hseq]
    refine ⟨fun hopen => ?_, fun hopen => .inr ?_⟩
    · obtain ⟨hstate, hcause⟩ := lockWithGang_opened hc hne hfired (by simpa using hopen)
      rw [← hlocked] at hstate hcause
      rw [sqTripEnd_seq_of_not_dead (by simp [hstate])]
      exact ⟨hstate, fun _ _ => hcause⟩
    · rw [sqTripEnd_dc, hlocked]
      exact (lockWithGang_gang (by simpa using hf) (by simpa using hrun) hc hne hfired).2 (by simpa using hopen)

end

end Sys2Proof.Machine
end

section
namespace Sys2Proof.Machine

/-- Settles O40: the record of a lockout, the report at the end of its event, and the end of a trip by the poles it settles. -/
theorem lockoutRecords : Obligations.LockoutRecords := by
  refine ⟨fun causes p x => ⟨fun h => enterLockout_locked h causes, fun h => enterLockout_other p h, fun c hs hc => ?_⟩,
    fun f s hon => event_on hon, fun b a => ?_, fun f p hf hrun => ?_⟩
  · rw [enterLockout_record p hc, if_neg hs]
    exact ⟨rfl, rfl, rfl, rfl, rfl, rfl, rfl, rfl, rfl⟩
  · intro q entered
    have hentered : entered = newlyLocked b a := (newlyLocked_eq b a).symm
    refine ⟨rfl, reportLockouts_sq_recs b a, fun h => reportLockouts_ru_of_told (hentered ▸ h), fun h hroom => ?_,
      fun h => congrArg (·.rs) (reportLockouts_of_same (Part.locked_congr h)), fun ⟨x, hx⟩ => ?_⟩
    · rw [hentered] at h ⊢
      exact reportLockouts_queue h hroom
    · exact reportLockouts_rs_lockout fun e => hx (Part.locked_iff_of_eq e x)
  · intro r settled counts cause sequence
    have hcause (x : Pole) : sequenceCause f (countShots f p) x = cause x := by
      have hcounted := sequenceCause_eq f (countShots f p) x
      rw [countShots_profile, ← sqTripEnd_shot, countShots_dc, countShots_tu] at hcounted
      exact hcounted
    have hsequence : tripEndIsSequence f (countShots f p) = true ↔ sequence := by
      rw [tripEndIsSequence_iff]
      exact exists_congr fun x => by rw [hcause]; rfl
    have hnot (h : ¬ sequence) : tripEndIsSequence f (countShots f p) = false := by
      rwa [Bool.eq_false_iff, ne_eq, hsequence]
    refine ⟨fun x hg => ?_, fun x hg => ⟨fun y hy hmax hz => ?_, fun hz => ?_⟩, fun x => ?_, fun x hx => ⟨fun n hnote => ?_,
      fun hnote c hc => ?_, fun hnote hc hseq => ?_⟩, fun x hx hset hs => ⟨fun n hm hnote => ?_, fun hfire hm => ?_,
      fun hm hnote hseq hstate => sqTripEnd_opened (hnot hseq) hx hm hnote hstate⟩, fun x hs => sqTripEnd_lockout hs,
      fun hseq x hs hw => sqTripEnd_gang hf hrun (hsequence.2 hseq) hs hw, fun hseq => ⟨?_, fun x hx hm hg =>
      sqTripEnd_outside (hnot hseq) hx hm hg⟩⟩
    · rw [sqTripEnd_shot]
      exact countShots_shot_alone hg
    · exact (sqTripEnd_shot f p x).trans (countShots_shot_highest hg hy hmax hz)
    · exact (sqTripEnd_shot f p x).trans (countShots_shot_uncounted hg hz)
    · rw [(sqTripEnd_keepsRecords f p x).lastTrip, countShots_seq]
    · exact sqTripEnd_locks ((tripEndLocks_settled hx).trans (tripEndCause_note ((countShots_endNote f p x).trans hnote)))
        (Flight.Settles.not_lockout hx)
    · have hdecided := tripEndCause_none (f := f) ((countShots_endNote f p x).trans hnote)
      exact sqTripEnd_locks ((tripEndLocks_settled hx).trans (hdecided.trans ((hcause x).trans hc)))
        (Flight.Settles.not_lockout hx)
    · have hnone := (hcause x).trans hc
      obtain ⟨hdead, hwait, hnew, hmark⟩ := sqTripEnd_waits (hnot hseq) hx hnote hnone
      refine ⟨hdead, hwait, hnew, hmark, fun htimer => ?_⟩
      rw [sqTripEnd_shot]
      cases hg : (p.seq x).ganged with
      | false => exact sqTripEnd_timer_alone (hnot hseq) hx hnote hnone hg
      | true =>
        obtain ⟨ht, hcount, -⟩ := htimer.resolve_left (by simp [hg])
        exact sqTripEnd_timer_gang (hnot hseq) hf ht hx hnote hnone hg hcount
    · exact sqTripEnd_locks (tripEndLocks_other hx hset (otherEndCause_note hm ((countShots_endNote f p x).trans hnote))) hs
    · exact sqTripEnd_locks (tripEndLocks_other hx hset (otherEndCause_unmoved hfire hm)) hs
    · rw [sqTripEnd_dc]
      exact tripLocked_trip (hnot hseq)

end Sys2Proof.Machine
end

section
namespace Sys2Proof.Machine

/-- What the state after reset has of its own, beside what a power-up restores (R3, R14, R25, R116, R120, R134, R168). -/
theorem reset_own :
    State.reset.part.dc.nextOp = 0 ∧ State.reset.part.dc.flight = none ∧ State.reset.part.eu.latest = none ∧
      State.reset.part.nu.level = none ∧ State.reset.part.nu.tripReserve = 24 ∧ State.reset.part.bc.level = .NORMAL ∧
      State.reset.part.ru.permits = 0 := by decide +kernel

/-- Settles O4: the reset is the power-up of a part whose images were never written, with every pole showing CLOSED. -/
theorem resetValues : Obligations.ResetValues := by
  obtain ⟨t, hexec, hon, htb, -, hhistory, -, hcrew, hpoles, hgroups, hunit, hselected, htags, hnext, hroster, hhealth, -, -,
    hsoc, heu, -⟩ := powerUpRestoresImages resetLines [] ⟨[], newPart⟩
  obtain rfl : State.reset = t := by
    have hreset : exec (.powerUp resetLines []) ⟨[], newPart⟩ = .next State.reset := rfl
    exact Host.Outcome.next.inj (hreset.symm.trans hexec)
  obtain ⟨hop, hflight, hlatest, hbank, hreserve, henergy, hpermits⟩ := reset_own
  have htu : State.reset.part.tu = ⟨[], [], 1⟩ :=
    calc State.reset.part.tu
      _ = ⟨State.reset.part.tu.roster, State.reset.part.tu.tags, State.reset.part.tu.nextTag⟩ := rfl
      _ = ⟨[], [], 1⟩ := by rw [hroster, htags, hnext]; rfl
  refine ⟨rfl, hon, htb, hop, hhistory, hflight, fun x => ?_, hgroups, hunit, hselected, htu, heu, hlatest, hbank, hreserve,
    hhealth, hsoc, henergy, hpermits, hcrew⟩
  obtain ⟨hposition, -, -, hshot, hclosed, -⟩ := hpoles x
  have hshows : State.reset.part.position x = .CLOSED := hposition.trans (by cases x <;> rfl)
  exact ⟨hshows, (hclosed hshows).1, hshot⟩

end Sys2Proof.Machine
end

section
/-! PROOFS. EDIT BEGIN and EDIT PUT: requests to the Profile Unit that touch the claim alone (R84, R85; O42, O43). -/

namespace Sys2Proof.Machine

/-! ### Requests that touch the claim alone (R84, R85) -/

/-- The part with another claim. -/
def withClaim (c : Option Claim) (p : Part) : Part := { p with pu := { p.pu with claim := c } }

theorem withClaim_self {p : Part} {c : Option Claim} (h : p.pu.claim = c) : withClaim c p = p := by
  subst h
  rfl

/-- A request that the Profile Unit answers at once, and which touches the claim alone: whatever the owner is known to answer and
to make of the claim stands in the part that the command leaves. -/
theorem request_claim_answered {s : State} {l : Link} {tag : Byte} {r : Request} (ht : s.taken l r) (hr : onlyReads r = false)
    (ha : ∀ q, afterAnswer r q = q)
    (hrep : ∃ c code content, handle l tag r (passedPart l ⟨tag, r⟩ s.found) =
      (withClaim c (passedPart l ⟨tag, r⟩ s.found), some (code, content))) :
    ∃ t, request l tag r s = .next t ∧ t.part.pu = { s.found.pu with claim := t.part.pu.claim } ∧
      sameExcept (.pu :: Block.watch) s.found t.part ∧ t.part.rs = s.found.rs ∧ t.part.dc.poles = s.found.dc.poles ∧
      ∀ c code content, handle l tag r (passedPart l ⟨tag, r⟩ s.found) =
          (withClaim c (passedPart l ⟨tag, r⟩ s.found), some (code, content)) →
        answered l r tag code content s.found t.part ∧ t.part.pu.claim = c := by
  obtain ⟨c, code, content, hh⟩ := hrep
  obtain ⟨-, -, -, ⟨hpow, -⟩, -⟩ := id ht
  obtain ⟨c₀, hpassed⟩ := passedPart_withClaim l ⟨tag, r⟩ s.found
  let q := withClaim c (passedPart l ⟨tag, r⟩ s.found)
  have hrs : (answeredPart l ⟨tag, r⟩ code content s.found q).rs = s.found.rs := by
    rw [answeredPart_rs (by simp [q, withClaim])]
    simp [q, withClaim]
  refine ⟨_, request_answered ht hr ha hh, ?_, ?_, hrs, by simp [withClaim], fun c' code' content' hh' => ?_⟩
  · simp [withClaim, hpassed]
  · exact sameExcept_of (by decide) (by simp [withClaim]) (by simp [withClaim]) (by simp [withClaim]) (by simp [withClaim])
      (by simp [withClaim]) (.inl (by decide)) (.inr hrs)
  · obtain ⟨hpart, hreply⟩ := Prod.ext_iff.1 (hh.symm.trans hh')
    have hclaim : c = c' := congrArg (·.pu.claim) hpart
    obtain ⟨rfl, rfl⟩ : code = code' ∧ content = content' := by simpa using hreply
    exact ⟨answeredPart_answered ⟨tag, r⟩ code content hpow (.of_li rfl), by simp [withClaim, hclaim]⟩

/-! ### The claim as a request of a link finds it (R89) -/

section
variable {l : Link} {p : Part} {c : Claim}

theorem loadClaimTimer_claim_other (h : p.pu.claim = some c) (hl : c.holder ≠ l) : (loadClaimTimer l p).pu.claim = some c := by
  cases hs : c.state <;> simp [loadClaimTimer, h, hs, hl]

theorem loadClaimTimer_claim_held (h : p.pu.claim = some c) {t : Byte} (hs : c.state = .COMMIT_WAIT t) :
    (loadClaimTimer l p).pu.claim = some c := by simp [loadClaimTimer, h, hs]

theorem loadClaimTimer_claim_editing (h : p.pu.claim = some c) (hl : c.holder = l) {n : Nat} (hs : c.state = .EDITING n) :
    (loadClaimTimer l p).pu.claim = some { c with state := .EDITING 300000 } := by simp [loadClaimTimer, h, hs, hl, Config.claimTime]

end

/-! ### EDIT BEGIN (R84) -/

theorem targetOf_eq_none_iff (n : Nat) (u : ProfileUnit) : targetOf n u = none ↔ n = 0 ∨ 5 < n := by
  simp only [targetOf, within, Bool.and_eq_true, decide_eq_true_eq]
  split
  · simp only [reduceCtorEq, false_iff]
    omega
  · split
    · simp only [reduceCtorEq, false_iff]
      omega
    · simp only [true_iff]
      omega

theorem targetOf_eq_some {n : Nat} {u : ProfileUnit} {q : Pending} (h : targetOf n u = some q) :
    (1 ≤ n ∧ n ≤ 4 ∧ q = .group n (u.groups.get n)) ∨ (n = 5 ∧ q = .unit u.unit) := by
  simp only [targetOf, within, Bool.and_eq_true, decide_eq_true_eq] at h
  split at h
  · next hn => exact .inl ⟨hn.1, hn.2, (Option.some.inj h).symm⟩
  · split at h
    · next hn => exact .inr ⟨hn, (Option.some.inj h).symm⟩
    · cases h

/-- The target's applied values are no matter of the claim. -/
theorem targetOf_passedPart (n : Nat) (l : Link) (w : WaitReq) (p : Part) : targetOf n (passedPart l w p).pu = targetOf n p.pu := by
  obtain ⟨c, h⟩ := passedPart_withClaim l w p
  rw [h]
  rfl

section
variable {l : Link} {target : Byte} {p : Part} {q : Pending} {c : Claim}

theorem editBeginRequest_range (h : targetOf target.toNat p.pu = none) :
    editBeginRequest l target p = (withClaim p.pu.claim p, some (.RANGE, [])) := by
  simp only [editBeginRequest, h]
  rfl

theorem editBeginRequest_free (h : targetOf target.toNat p.pu = some q) (hc : p.pu.claim = none) :
    editBeginRequest l target p = (withClaim (some ⟨l, q, .EDITING 300000⟩) p, some (.DONE, [])) := by
  simp only [editBeginRequest, h, hc]
  rfl

theorem editBeginRequest_locked (h : targetOf target.toNat p.pu = some q) (hc : p.pu.claim = some c) (hl : c.holder ≠ l) :
    editBeginRequest l target p = (withClaim (some c) p, some (.LOCKED, [])) := by
  simp only [editBeginRequest, h, hc, if_pos hl, withClaim_self hc]
  rfl

theorem editBeginRequest_editing (h : targetOf target.toNat p.pu = some q) (hc : p.pu.claim = some c) (hl : c.holder = l) {n : Nat}
    (hs : c.state = .EDITING n) :
    editBeginRequest l target p = (withClaim (some ⟨l, q, .EDITING 300000⟩) p, some (.DONE, [])) := by
  simp only [editBeginRequest, h, hc, if_neg (not_not.2 hl), hs]
  rfl

theorem editBeginRequest_held (h : targetOf target.toNat p.pu = some q) (hc : p.pu.claim = some c) (hl : c.holder = l) {t : Byte}
    (hs : c.state = .COMMIT_WAIT t) : editBeginRequest l target p = (withClaim (some c) p, some (.BUSY, [])) := by
  simp only [editBeginRequest, h, hc, if_neg (not_not.2 hl), hs, withClaim_self hc]
  rfl

/-- EDIT BEGIN is answered at once, and touches the claim alone. -/
theorem editBeginRequest_replies (l : Link) (target : Byte) (p : Part) :
    ∃ c code content, editBeginRequest l target p = (withClaim c p, some (code, content)) := by
  cases ht : targetOf target.toNat p.pu with
  | none => exact ⟨_, _, _, editBeginRequest_range ht⟩
  | some q =>
    cases hc : p.pu.claim with
    | none => exact ⟨_, _, _, editBeginRequest_free ht hc⟩
    | some c =>
      by_cases hl : c.holder = l
      · cases hs : c.state with
        | EDITING n => exact ⟨_, _, _, editBeginRequest_editing ht hc hl hs⟩
        | COMMIT_WAIT t => exact ⟨_, _, _, editBeginRequest_held ht hc hl hs⟩
      · exact ⟨_, _, _, editBeginRequest_locked ht hc hl⟩

end

/-! ### EDIT PUT (R85, R208) -/

section
variable {l : Link} {body : List Byte} {p : Part} {c : Claim}

theorem editPutRequest_notFound (hc : p.pu.claim = none) :
    editPutRequest l body p = (withClaim none p, some (.NOT_FOUND, [])) := by
  simp only [editPutRequest, claimRefusal, hc, withClaim_self hc]
  rfl

theorem editPutRequest_locked (hc : p.pu.claim = some c) (hl : c.holder ≠ l) :
    editPutRequest l body p = (withClaim (some c) p, some (.LOCKED, [])) := by
  simp only [editPutRequest, claimRefusal, hc, if_neg hl, withClaim_self hc]
  rfl

theorem editPutRequest_held (hc : p.pu.claim = some c) (hl : c.holder = l) {t : Byte} (hs : c.state = .COMMIT_WAIT t) :
    editPutRequest l body p = (withClaim (some c) p, some (.BUSY, [])) := by
  simp only [editPutRequest, claimRefusal, hc, if_pos hl, hs, withClaim_self hc]
  rfl

theorem editPutRequest_written (hc : p.pu.claim = some c) (hl : c.holder = l) {n : Nat} (hs : c.state = .EDITING n) {q : Pending}
    (hi : putItems body c.pending = .ok q) :
    editPutRequest l body p = (withClaim (some { c with pending := q }) p, some (.DONE, [])) := by
  simp only [editPutRequest, claimRefusal, hc, if_pos hl, hs, hi]
  rfl

theorem editPutRequest_failing (hc : p.pu.claim = some c) (hl : c.holder = l) {n k f : Nat} (hs : c.state = .EDITING n)
    (hi : putItems body c.pending = .error (k, f)) :
    editPutRequest l body p = (withClaim (some c) p, some (.RANGE, [byte k, byte f])) := by
  simp only [editPutRequest, claimRefusal, hc, if_pos hl, hs, hi, withClaim_self hc]

/-- EDIT PUT is answered at once, and touches the claim alone. -/
theorem editPutRequest_replies (l : Link) (body : List Byte) (p : Part) :
    ∃ c code content, editPutRequest l body p = (withClaim c p, some (code, content)) := by
  cases hc : p.pu.claim with
  | none => exact ⟨_, _, _, editPutRequest_notFound hc⟩
  | some c =>
    by_cases hl : c.holder = l
    · cases hs : c.state with
      | EDITING n =>
        cases hi : putItems body c.pending with
        | error e => exact ⟨_, _, _, editPutRequest_failing hc hl hs hi⟩
        | ok q => exact ⟨_, _, _, editPutRequest_written hc hl hs hi⟩
      | COMMIT_WAIT t => exact ⟨_, _, _, editPutRequest_held hc hl hs⟩
    · exact ⟨_, _, _, editPutRequest_locked hc hl⟩

end

end Sys2Proof.Machine
end

section
namespace Sys2Proof.Machine

/-- Settles O42, by the checks of R84 in their order: the target, then the claim. -/
theorem editBeginTakesClaim : Obligations.EditBeginTakesClaim := by
  intro l tag target s ht
  obtain ⟨t, he, hpu, hsame, hrs, hpoles, hends⟩ :=
    request_claim_answered (tag := tag) ht rfl (fun _ => rfl) (editBeginRequest_replies l target _)
  have htarget := targetOf_passedPart target.toNat l ⟨tag, .editBegin target⟩ s.found
  refine ⟨t, he, hpu, hsame, hrs, hpoles, targetOf_eq_none_iff _ _, fun h => ?_, fun q hq => ?_⟩
  · exact (hends _ _ _ (editBeginRequest_range (htarget.trans ((targetOf_eq_none_iff _ _).2 h)))).1
  have hq' := htarget.trans hq
  refine ⟨targetOf_eq_some hq, fun hn => ?_, fun c hc => ⟨fun hl => ?_, fun n hl hs => ?_, fun tg hl hs => ?_⟩⟩
  · exact hends _ _ _ (editBeginRequest_free hq' ((passedPart_claim _ _ _).trans (loadClaimTimer_claim_none hn)))
  · have hclaim := (passedPart_claim l ⟨tag, .editBegin target⟩ _).trans (loadClaimTimer_claim_other hc hl)
    exact hends _ _ _ (editBeginRequest_locked hq' hclaim hl)
  · have hclaim := (passedPart_claim l ⟨tag, .editBegin target⟩ _).trans (loadClaimTimer_claim_editing hc hl hs)
    exact hends _ _ _ (editBeginRequest_editing hq' hclaim hl rfl)
  · have hclaim := (passedPart_claim l ⟨tag, .editBegin target⟩ _).trans (loadClaimTimer_claim_held (l := l) hc hs)
    exact hends _ _ _ (editBeginRequest_held hq' hclaim hl hs)

/-- Settles O43: the items are written into the pending set of the claim, whose timer has been loaded as the request was passed. -/
theorem editPutWritesItems : Obligations.EditPutWritesItems := by
  intro l tag body s ht
  obtain ⟨t, he, hpu, hsame, hrs, hpoles, hends⟩ :=
    request_claim_answered (tag := tag) ht rfl (fun _ => rfl) (editPutRequest_replies l body _)
  refine ⟨t, he, hpu, hsame, hrs, hpoles, fun hn => ?_, fun c hc => ⟨fun hl => ?_, fun tg hl hs => ?_, fun n hl hs => ?_⟩⟩
  · have hclaim := (passedPart_claim l ⟨tag, .editPut body⟩ _).trans (loadClaimTimer_claim_none (l := l) hn)
    exact hends _ _ _ (editPutRequest_notFound hclaim)
  · have hclaim := (passedPart_claim l ⟨tag, .editPut body⟩ _).trans (loadClaimTimer_claim_other hc hl)
    exact hends _ _ _ (editPutRequest_locked hclaim hl)
  · have hclaim := (passedPart_claim l ⟨tag, .editPut body⟩ _).trans (loadClaimTimer_claim_held (l := l) hc hs)
    exact hends _ _ _ (editPutRequest_held hclaim hl hs)
  · have hclaim := (passedPart_claim l ⟨tag, .editPut body⟩ _).trans (loadClaimTimer_claim_editing hc hl hs)
    subst hl
    exact ⟨fun q hi => hends _ _ _ (editPutRequest_written hclaim rfl rfl hi),
      fun k f hi => hends _ _ _ (editPutRequest_failing hclaim rfl rfl hi)⟩

end Sys2Proof.Machine
end

section
/-! PROOFS. Settings handed to the Retained Store: SELECT GROUP, and the held settings at quiescence (R87, R90, R91, R194, R195; O45,
O47). -/

namespace Sys2Proof.Machine

/-! ### A hand-off on which an answer or an END message waits (R194, R195) -/

section
variable (i : Item) (what : Held) (p : Part)

theorem WriteRec.hand_busy (w : WriteRec) (image : Image) : (w.hand image).busy = true := by
  cases h : w.writing <;> simp [WriteRec.hand, WriteRec.busy, h]

theorem retainFor_busy : ((retainFor i what p).rs.get i).busy = true := by
  obtain ⟨image, h⟩ := retainFor_rs_get i what p
  rw [h]
  exact WriteRec.hand_busy _ image

theorem retainFor_waiting : ((retainFor i what p).rs.get i).waiting =
    (p.rs.get i).waiting ++ [⟨(p.rs.get i).writing.isSome, what⟩] := by
  obtain ⟨image, h⟩ := retainFor_rs_get i what p
  rw [h, WriteRec.hand_waiting]

theorem retainFor_rs_get_of_ne {j : Item} (h : j ≠ i) : (retainFor i what p).rs.get j = p.rs.get j := by
  simp [retainFor, retain, Store.get_set, h]

end

/-! ### Steps that touch the settings, their images and the blocks of the watch alone -/

section
variable {p q : Part}

theorem sameExcept_settings (hon : q.on = p.on) (heu : q.eu = p.eu) (htu : q.tu = p.tu) (htb : q.tb = p.tb)
    (hrestart : q.restart = p.restart) : sameExcept (.pu :: .rs :: Block.watch) p q :=
  sameExcept_of (by decide) hon heu htu htb hrestart (.inl (by decide)) (.inl (by decide))

theorem endEvent_settings (b p : Part) : sameExcept (.pu :: .rs :: Block.watch) p (endEvent b p) :=
  sameExcept_settings (by simp) (by simp) (by simp) (by simp) (by simp)

theorem passedPart_settings (l : Link) (w : WaitReq) (p : Part) : sameExcept (.pu :: .rs :: Block.watch) p (passedPart l w p) :=
  sameExcept_settings (by simp) (by simp) (by simp) (by simp) (by simp)

theorem retainFor_settings (i : Item) (what : Held) (p : Part) : sameExcept (.pu :: .rs :: Block.watch) p (retainFor i what p) :=
  sameExcept_settings rfl rfl rfl rfl rfl

/-- A judgement of the effective profile touches the Sequencer and the Report Unit. -/
theorem judged_settings {f : Part → Part} (h : sameExcept (.pu :: .rs :: Block.watch) p (f p)) :
    sameExcept (.pu :: .rs :: Block.watch) p (judged f p) := by
  by_cases he : (f p).pu.effective = p.pu.effective
  · rwa [judged_same he]
  · rw [judged_changed he]
    exact h.trans (sameExcept_settings (by simp) (by simp) (by simp) (by simp) (by simp))

@[simp] theorem judged_dc (f : Part → Part) (p : Part) : (judged f p).dc = (f p).dc := by
  by_cases h : (f p).pu.effective = p.pu.effective
  · rw [judged_same h]
  · simp [judged_changed h]

end

section
variable {s : State} {l : Link} {tag : Byte} {r : Request} {q : Part}

/-- A request that the Profile Unit answers at once. -/
theorem request_settings_answered (ht : s.taken l r) (hr : onlyReads r = false) (ha : ∀ q, afterAnswer r q = q) {code : AnswerCode}
    {content : List Byte} (hh : handle l tag r (passedPart l ⟨tag, r⟩ s.found) = (q, some (code, content)))
    (hq : sameExcept (.pu :: .rs :: Block.watch) (passedPart l ⟨tag, r⟩ s.found) q)
    (hg : Grows (passedPart l ⟨tag, r⟩ s.found) q) :
    ∃ t, request l tag r s = .next t ∧ sameExcept (.pu :: .rs :: Block.watch) s.found t.part ∧
      answered l r tag code content s.found t.part ∧ t.part.pu = q.pu := by
  obtain ⟨-, -, -, ⟨hpow, -⟩, -⟩ := id ht
  exact ⟨_, request_answered ht hr ha hh, answeredPart_sameExcept hq, answeredPart_answered ⟨tag, r⟩ code content hpow hg,
    answeredPart_pu _ _ _ _ _ _⟩

/-- A request whose answer waits for the write of an item: it stays under answer. -/
theorem request_settings_waits (ht : s.taken l r) (hr : onlyReads r = false) {i : Item} (hi : i ≠ .LOCKOUT) {what : Held}
    (hh : handle l tag r (passedPart l ⟨tag, r⟩ s.found) = (retainFor i what q, none))
    (hq : sameExcept (.pu :: .rs :: Block.watch) (passedPart l ⟨tag, r⟩ s.found) q)
    (hg : Grows (passedPart l ⟨tag, r⟩ s.found) q) :
    ∃ t, request l tag r s = .next t ∧ sameExcept (.pu :: .rs :: Block.watch) s.found t.part ∧ awaits l r tag t.part ∧
      (t.part.rs.get i).busy = true ∧ t.part.pu = q.pu ∧ t.part.dc.poles = q.dc.poles ∧ t.part.bc.capacity = q.bc.capacity := by
  refine ⟨_, request_waits ht hr hh, ?_, ?_, ?_, by simp, by simp, by simp⟩
  · exact ((passedPart_settings _ _ _).trans hq).trans ((retainFor_settings _ _ _).trans (endEvent_settings _ _))
  · obtain ⟨ms, hm⟩ := hg l
    rw [awaits, endEvent_under, retainFor_li, hm]
    exact passedPart_under l ⟨tag, r⟩ s.found
  · rw [endEvent_rs_get _ _ hi]
    exact retainFor_busy i what q

end

/-! ### SELECT GROUP (R90) -/

theorem endSelection_pu (r : SettingsResult) (p : Part) : (endSelection r p).pu = { p.pu with held := none } := by
  unfold endSelection
  split
  · next h => rw [← h]
  · simp [settingsEnd]

theorem endSelection_settings (r : SettingsResult) (p : Part) : sameExcept (.pu :: .rs :: Block.watch) p (endSelection r p) := by
  unfold endSelection
  split
  · exact .refl _ p
  · exact sameExcept_settings (by simp [settingsEnd]) (by simp [settingsEnd]) (by simp [settingsEnd]) (by simp [settingsEnd])
      (by simp [settingsEnd])

theorem endSelection_grows (r : SettingsResult) (p : Part) : Grows p (endSelection r p) := by
  unfold endSelection
  split
  · exact .refl p
  · exact Grows.trans (.of_li rfl) (send_grows _ _ _)

section
variable {l : Link} {tag group : Byte} {p : Part}

theorem selectGroupRequest_range (h : group.toNat = 0 ∨ 4 < group.toNat) :
    selectGroupRequest l tag group p = (p, some (.RANGE, [])) := by
  have hw : (!within 1 4 group.toNat) = true := by
    simp only [within, Bool.not_eq_true', Bool.and_eq_false_iff, decide_eq_false_iff_not]
    omega
  simp only [selectGroupRequest, if_pos hw]
  rfl

/-- In range: by the selected group, and by quiescence. -/
theorem selectGroupRequest_eq (h1 : 1 ≤ group.toNat) (h4 : group.toNat ≤ 4) : selectGroupRequest l tag group p =
    if group.toNat = p.pu.selected then (endSelection .SUPERSEDED p, some (.DONE, []))
    else if p.sq.quiescent then
      (retainFor .SELECTED (heldAnswer l 0xB5 tag [] p) (judged (setSelected group.toNat) (endSelection .SUPERSEDED p)), none)
    else
      ({ endSelection .SUPERSEDED p with pu := { (endSelection .SUPERSEDED p).pu with held := some ⟨group.toNat, l, tag⟩ } },
        some (.STARTED, [])) := by
  have hw : ¬ (!within 1 4 group.toNat) = true := by simp [within, h1, h4]
  simp only [selectGroupRequest, if_neg hw]
  rfl

end

/-! ### Held settings at quiescence (R87, R91) -/

theorem groupItem_ne_selected (n : Nat) : groupItem n ≠ .SELECTED := by
  unfold groupItem
  split <;> simp

theorem groupItem_ne_lockout (n : Nat) : groupItem n ≠ .LOCKOUT := by
  unfold groupItem
  split <;> simp

section
variable (p : Part)

theorem applyHeldCommit_heldCommit : (applyHeldCommit p).pu.heldCommit = none := by
  unfold applyHeldCommit
  split
  · rfl
  · next h => exact h

theorem applyHeldCommit_held : (applyHeldCommit p).pu.held = p.pu.held := by
  obtain ⟨g, c, h⟩ := applyHeldCommit_pu p
  rw [h]

theorem applyHeldCommit_settings : sameExcept (.pu :: .rs :: Block.watch) p (applyHeldCommit p) := by
  unfold applyHeldCommit
  split
  · exact sameExcept_settings rfl rfl rfl rfl rfl
  · exact .refl _ p

theorem applyHeldCommit_selected_write : (applyHeldCommit p).rs.get .SELECTED = p.rs.get .SELECTED := by
  unfold applyHeldCommit
  split
  · exact retainFor_rs_get_of_ne _ _ _ (groupItem_ne_selected _).symm
  · rfl

theorem applyHeldSelection_pu : (applyHeldSelection p).pu =
    { p.pu with held := none, selected := (p.pu.held.map fun h => h.group).getD p.pu.selected } := by
  unfold applyHeldSelection
  cases h : p.pu.held with
  | none => exact congrArg (fun c => { p.pu with held := c }) h
  | some a => rfl

theorem applyHeldSelection_settings : sameExcept (.pu :: .rs :: Block.watch) p (applyHeldSelection p) := by
  unfold applyHeldSelection
  split
  · exact sameExcept_settings rfl rfl rfl rfl rfl
  · exact .refl _ p

theorem applyHeldSelection_rs_get {i : Item} (h : i ≠ .SELECTED) : (applyHeldSelection p).rs.get i = p.rs.get i := by
  unfold applyHeldSelection
  split
  · exact retainFor_rs_get_of_ne _ _ _ h
  · rfl

/-- Both held items applied, before the effective profile is judged. -/
def heldApplied : Part := applyHeldSelection (applyHeldCommit p)

theorem heldApplied_dc : (heldApplied p).dc = p.dc := by
  have hselection (q : Part) : (applyHeldSelection q).dc = q.dc := by
    unfold applyHeldSelection
    split <;> rfl
  exact (hselection _).trans (congrArg (·.2.1) (applyHeldCommit_sets p).beside)

theorem heldSettingsApply_due (h : p.heldDue = true) : heldSettingsApply p = judged heldApplied p := if_pos h

variable {p}

theorem applyHeldSelection_waiting {h : HeldSelection} (hs : p.pu.held = some h) :
    ((applyHeldSelection p).rs.get .SELECTED).waiting =
      (p.rs.get .SELECTED).waiting ++ [⟨(p.rs.get .SELECTED).writing.isSome, .settings h.link h.tag⟩] := by
  simp only [applyHeldSelection, hs]
  exact retainFor_waiting _ _ _

section
variable {l : Link} {t : Byte} {n : Nat} {g : Group} (hc : p.pu.heldCommit = some (l, t, n, g))
include hc

theorem applyHeldCommit_of_some :
    applyHeldCommit p = retainFor (groupItem n) (.settings l t) (releaseClaim (setGroup n g p)) := by simp only [applyHeldCommit, hc]

theorem applyHeldCommit_waiting : ((applyHeldCommit p).rs.get (groupItem n)).waiting =
    (p.rs.get (groupItem n)).waiting ++ [⟨(p.rs.get (groupItem n)).writing.isSome, .settings l t⟩] := by
  rw [applyHeldCommit_of_some hc]
  exact retainFor_waiting _ _ _

end

end

end Sys2Proof.Machine
end

section
namespace Sys2Proof.Machine

/-- Settles O45, by the three outcomes of a group in range; a group out of range touches nothing. -/
theorem selectGroupAppliesOrHolds : Obligations.SelectGroupAppliesOrHolds := by
  intro l tag group s ht
  let p := passedPart l ⟨tag, .selectGroup group⟩ s.found
  let q := endSelection .SUPERSEDED p
  obtain ⟨c, hp⟩ : ∃ c, p.pu = { s.found.pu with claim := c } := passedPart_withClaim l ⟨tag, .selectGroup group⟩ s.found
  have hq : q.pu = { s.found.pu with claim := c, held := none } := by rw [endSelection_pu, hp]
  have hsettings : sameExcept (.pu :: .rs :: Block.watch) p q := endSelection_settings _ p
  have hgrows : Grows p q := endSelection_grows _ p
  by_cases hrange : group.toNat = 0 ∨ 4 < group.toNat
  · obtain ⟨t, he, hsame, hans, hpu⟩ := request_settings_answered (tag := tag) ht rfl (fun _ => rfl)
      (selectGroupRequest_range hrange) (.refl _ p) (.refl p)
    exact ⟨t, he, by rw [hpu, hp], hsame, fun _ => ⟨hans, by rw [hpu, hp], by rw [hpu, hp]⟩, fun _ _ => by omega⟩
  have hin : 1 ≤ group.toNat ∧ group.toNat ≤ 4 := by omega
  have hh := selectGroupRequest_eq (l := l) (tag := tag) (p := p) hin.1 hin.2
  have hselected : p.pu.selected = s.found.pu.selected := by rw [hp]
  have hquiescent : p.sq.quiescent = s.found.sq.quiescent := by simp [p]
  rw [hselected, hquiescent] at hh
  by_cases hn : group.toNat = s.found.pu.selected
  · rw [if_pos hn] at hh
    obtain ⟨t, he, hsame, hans, hpu⟩ := request_settings_answered ht rfl (fun _ => rfl) hh hsettings hgrows
    rw [hq] at hpu
    exact ⟨t, he, by rw [hpu], hsame, (absurd · hrange), fun _ _ =>
      ⟨fun _ => ⟨hans, by rw [hpu, hn], by rw [hpu]⟩, (absurd hn ·), (absurd hn ·)⟩⟩
  rw [if_neg hn] at hh
  cases hquiet : s.found.sq.quiescent with
  | true =>
    rw [if_pos hquiet] at hh
    obtain ⟨t, he, hsame, hwaits, hbusy, hpu, -, -⟩ := request_settings_waits ht rfl (by decide) hh
      (hsettings.trans (judged_settings (sameExcept_settings rfl rfl rfl rfl rfl))) (hgrows.trans (judged_grows (.of_li rfl)))
    rw [judged_pu, setSelected, hq] at hpu
    exact ⟨t, he, by rw [hpu], hsame, (absurd · hrange), fun _ _ =>
      ⟨(absurd · hn), fun _ _ => ⟨hwaits, by rw [hpu], by rw [hpu], hbusy⟩, fun _ => nofun⟩⟩
  | false =>
    rw [if_neg (by simp [hquiet])] at hh
    obtain ⟨t, he, hsame, hans, hpu⟩ := request_settings_answered ht rfl (fun _ => rfl) hh
      (hsettings.trans (sameExcept_settings rfl rfl rfl rfl rfl)) (hgrows.trans (.of_li rfl))
    rw [hq] at hpu
    exact ⟨t, he, by rw [hpu], hsame, (absurd · hrange), fun _ _ =>
      ⟨(absurd · hn), fun _ => nofun, fun _ _ => ⟨hans, by rw [hpu], by rw [hpu]⟩⟩⟩

/-- Settles O47: each of the two held items is handed to a write of its own. -/
theorem heldSettingsTakeForce : Obligations.HeldSettingsTakeForce := by
  intro s hon hdue
  let q := applyHeldCommit s.part
  have hheld : q.pu.held = s.part.pu.held := applyHeldCommit_held s.part
  have hpu : (endEvent s.part (heldSettingsApply s.part)).pu =
      { q.pu with held := none, selected := (q.pu.held.map fun h => h.group).getD q.pu.selected } := by
    rw [endEvent_pu, heldSettingsApply_due _ hdue, judged_pu]
    exact applyHeldSelection_pu q
  have hrs {i : Item} (hi : i ≠ .LOCKOUT) :
      (endEvent s.part (heldSettingsApply s.part)).rs.get i = (applyHeldSelection q).rs.get i := by
    rw [endEvent_rs_get _ _ hi, heldSettingsApply_due _ hdue, judged_rs]
    rfl
  refine ⟨_, ownStep_on hon, by rw [hpu], ?_, ?_, ?_, fun h hs => ⟨?_, ?_⟩, fun l tg n g hc => ⟨?_, ?_, ?_⟩⟩
  · rw [hpu]
    exact applyHeldCommit_heldCommit s.part
  · rw [heldSettingsApply_due _ hdue]
    exact (judged_settings ((applyHeldCommit_settings s.part).trans (applyHeldSelection_settings q))).trans (endEvent_settings _ _)
  · rw [heldSettingsApply_due _ hdue]
    simp [heldApplied_dc]
  · rw [hpu, hheld, hs]
    rfl
  · calc (endEvent s.part (heldSettingsApply s.part)).rs.selected.waiting
        = ((applyHeldSelection q).rs.get .SELECTED).waiting := congrArg (·.waiting) (hrs (i := .SELECTED) (by decide))
      _ = _ := by
        rw [applyHeldSelection_waiting (hheld.trans hs), applyHeldCommit_selected_write]
        rfl
  · simp only [hpu, q, applyHeldCommit_of_some hc]
    rfl
  · simp only [hpu, q, applyHeldCommit_of_some hc]
    rfl
  · rw [hrs (groupItem_ne_lockout n), applyHeldSelection_rs_get _ (groupItem_ne_selected n)]
    exact applyHeldCommit_waiting hc

end Sys2Proof.Machine
end

section
/-! PROOFS. EDIT COMMIT and EDIT DROP by the holder of the claim (R86, R88), and what a UNIT commit makes of the battery (R75, R138 to
R140, R152; O44). -/

namespace Sys2Proof.Machine

/-! ### Messages of the Battery Controller (R140, R149, R152) -/

theorem testEnd_grows (t : TestRec) (r : TestResult) (p : Part) : Grows p (testEnd t r p) := by
  unfold testEnd
  split
  · exact send_grows _ _ _
  · exact .refl p

theorem abandonTest_grows (lines : ChargerMode) (reported : Bool) (p : Part) : Grows p (abandonTest lines reported p) := by
  simp only [abandonTest]
  split
  · refine Grows.trans ?_ (testEnd_grows _ _ _)
    split
    · exact Grows.trans (.of_li rfl) (enterReport_grows _ _ _ _)
    · exact .of_li rfl
  · exact .refl p

theorem exhaustionTrip_grows (p : Part) : Grows p (exhaustionTrip p).1 := by
  unfold exhaustionTrip
  split
  · exact (takeTrip_grows _ _ _ _ p).trans (tellLockouts_grows _ _)
  · exact .refl p

theorem judgeExhaustion_grows (p : Part) : Grows p (judgeExhaustion p) := by
  simp only [judgeExhaustion]
  split
  · exact ((exhaustionTrip_grows p).trans (enterReport_grows _ _ _ _)).trans (.of_li rfl)
  · exact .refl p

theorem levelWait_grows (p : Part) : Grows p (levelWait p) := by
  unfold levelWait
  split
  · exact judgeExhaustion_grows p
  · exact .of_li rfl

theorem levelTold_grows (new : EnergyLevel) (p : Part) : Grows p (levelTold new p) := by
  have hlevel (q : Part) : Grows q (reportLevel new q) := Grows.trans (.of_li rfl) (judgeSending_grows _)
  have hreport (b : List Byte) : Grows p (enterReport .LEVEL_CHANGE none b { p with bc := { p.bc with level := new } }) :=
    Grows.trans (.of_li rfl) (enterReport_grows _ _ _ _)
  have hline (q : Part) : Grows q (judgeLine q) := .of_li rfl
  have hsoc (q : Part) : Grows q (retain .SOC q) := .of_li rfl
  exact (((hreport _).trans (hline _)).trans (hlevel _)).trans (hsoc _)

theorem levelChanged_grows (new : EnergyLevel) (p : Part) : Grows p (levelChanged new p) := by
  have htold : Grows p (judgeHeater (levelTold new p)) := (levelTold_grows new p).trans (.of_li rfl)
  rw [levelChanged_eq]
  split
  · exact htold.trans (levelWait_grows _)
  · exact (htold.trans (abandonTest_grows _ _ _)).trans (levelWait_grows _)

/-! ### A UNIT commit (R75, R86) -/

/-- What a judgement of the energy level leaves of a part: the elements, the settings, the tags, the time and the capacity; and the
outbound lists grow. -/
structure KeepsSettings (p q : Part) : Prop where
  eu : q.eu = p.eu
  aside : q.aside = p.aside
  capacity : q.bc.capacity = p.bc.capacity
  grows : Grows p q

theorem judgeLevel_keepsSettings (p : Part) : KeepsSettings p (judgeLevel p) := by
  have hchanged (new : EnergyLevel) : KeepsSettings p (levelChanged new p) := by
    have h := levelChanged_levels new p
    exact ⟨h.eu, h.aside, (Battery.capacity_of_stock h.stock).trans rfl, levelChanged_grows new p⟩
  simp only [judgeLevel]
  split
  · exact ⟨rfl, rfl, rfl, .refl p⟩
  · exact hchanged _

/-- The capacity of the UNIT record is the battery's before the energy level is judged (R138). -/
theorem takeUnit_eq (p : Part) :
    ∃ b : Battery, b.capacity = p.pu.unit.capacity ∧ takeUnit p = judgeLevel { p with bc := b } := by
  simp only [takeUnit]
  split
  · next h => exact ⟨p.bc, h.symm, rfl⟩
  · exact ⟨_, rfl, rfl⟩

section
variable (u : UnitRec) (p : Part)

theorem commitUnit_eq : ∃ b : Battery, b.capacity = u.capacity ∧
    commitUnit u p = judgeLevel { p with pu := { p.pu with unit := u, claim := none }, bc := b } :=
  takeUnit_eq { p with pu := { p.pu with unit := u, claim := none } }

theorem commitUnit_pu : (commitUnit u p).pu = { p.pu with unit := u, claim := none } := by
  obtain ⟨b, -, h⟩ := commitUnit_eq u p
  rw [h]
  exact congrArg (·.2.1) (judgeLevel_keepsSettings _).aside

theorem commitUnit_capacity : (commitUnit u p).bc.capacity = u.capacity := by
  obtain ⟨b, hb, h⟩ := commitUnit_eq u p
  rw [h, (judgeLevel_keepsSettings _).capacity, hb]

theorem commitUnit_grows : Grows p (commitUnit u p) := by
  obtain ⟨b, -, h⟩ := commitUnit_eq u p
  rw [h]
  exact Grows.trans (.of_li rfl) (judgeLevel_keepsSettings _).grows

theorem commitUnit_settings : sameExcept (.pu :: .rs :: Block.watch) p (commitUnit u p) := by
  obtain ⟨b, -, h⟩ := commitUnit_eq u p
  have k := judgeLevel_keepsSettings { p with pu := { p.pu with unit := u, claim := none }, bc := b }
  rw [h]
  exact sameExcept_settings (congrArg (·.1) k.aside) k.eu (congrArg (·.2.2.1) k.aside) (congrArg (·.2.2.2.1) k.aside)
    (congrArg (·.2.2.2.2) k.aside)

end

/-! ### EDIT COMMIT (R86) -/

section
variable {l : Link} {tag : Byte} {p : Part} {c : Claim}

theorem editCommitRequest_failing (hc : p.pu.claim = some c) (hl : c.holder = l) {n k : Nat} (hs : c.state = .EDITING n)
    (hf : c.pending.firstFailing = some k) : editCommitRequest l tag p = (p, some (.RANGE, [byte k])) := by
  simp only [editCommitRequest, claimRefusal, hc, if_pos hl, hs, hf]

theorem editCommitRequest_passed (hc : p.pu.claim = some c) (hl : c.holder = l) {n : Nat} (hs : c.state = .EDITING n)
    (hf : c.pending.firstFailing = none) : editCommitRequest l tag p = commitPassed l tag c p := by
  simp only [editCommitRequest, claimRefusal, hc, if_pos hl, hs, hf]

theorem commitPassed_unit {u : UnitRec} (h : c.pending = .unit u) :
    commitPassed l tag c p = (retainFor .UNIT (heldAnswer l 0xB2 tag [] p) (commitUnit u p), none) := by
  simp only [commitPassed, h]
  rfl

variable {k : Nat} {g : Group} (h : c.pending = .group k g)
include h

theorem commitPassed_held (hu : p.pu.inUse k = true) (hq : p.sq.quiescent = false) :
    commitPassed l tag c p = (withClaim (some { c with state := .COMMIT_WAIT tag }) p, some (.STARTED, [])) := by
  simp only [commitPassed, h, hu, hq]
  rfl

theorem commitPassed_applied (hq : p.pu.inUse k = false ∨ p.sq.quiescent = true) : commitPassed l tag c p =
    (retainFor (groupItem k) (heldAnswer l 0xB2 tag [] p) (judged (fun q => releaseClaim (setGroup k g q)) p), none) := by
  have hn : ¬ (p.pu.inUse k && !p.sq.quiescent) = true := by
    rcases hq with hq | hq <;> simp [hq]
  simp only [commitPassed, h, if_neg hn]
  rfl

end

/-! ### EDIT DROP (R88) -/

section
variable {l : Link} {p : Part} {c : Claim}

theorem editDropRequest_holder (hc : p.pu.claim = some c) (hl : c.holder = l) :
    editDropRequest l p = (dropClaim p, some (.DONE, [])) := by
  simp only [editDropRequest, claimRefusal, hc, if_pos hl]
  rfl

theorem dropClaim_editing (hc : p.pu.claim = some c) {n : Nat} (hs : c.state = .EDITING n) : dropClaim p = releaseClaim p := by
  simp only [dropClaim, hc, hs]

theorem dropClaim_held (hc : p.pu.claim = some c) {t : Byte} (hs : c.state = .COMMIT_WAIT t) :
    dropClaim p = releaseClaim (send c.holder (.endMsg t (.settings .CANCELLED)) p) := by
  simp only [dropClaim, hc, hs]
  rfl

/-- A claim that ends touches the Profile Unit and the outbound list of its holder. -/
theorem dropClaim_leaves (hc : p.pu.claim = some c) : (dropClaim p).pu = { p.pu with claim := none } ∧
    (dropClaim p).rs = p.rs ∧ (dropClaim p).sq = p.sq ∧ Grows p (dropClaim p) := by
  cases hs : c.state with
  | EDITING n =>
    rw [dropClaim_editing hc hs]
    exact ⟨rfl, rfl, rfl, .of_li rfl⟩
  | COMMIT_WAIT t =>
    rw [dropClaim_held hc hs]
    exact ⟨by simp [releaseClaim], by simp [releaseClaim], by simp [releaseClaim], (send_grows _ _ p).trans (.of_li rfl)⟩

/-- The END of a held commit is the last message of its holder's list. -/
theorem dropClaim_outbound (hc : p.pu.claim = some c) (hl : c.holder = l) {t : Byte} (hs : c.state = .COMMIT_WAIT t)
    (hp : (p.li.get l).powered = true) :
    ((dropClaim p).li.get l).outbound = (p.li.get l).outbound ++ [.endMsg t (.settings .CANCELLED)] := by
  rw [dropClaim_held hc hs, hl]
  change ((send l _ p).li.get l).outbound = _
  rw [send_get, if_pos ⟨rfl, hp⟩]

/-- The claim of its holder as a request is passed: the claim timer alone is another. -/
theorem loadClaimTimer_claim_some (l : Link) (hc : p.pu.claim = some c) :
    ∃ st, (loadClaimTimer l p).pu.claim = some { c with state := st } := by
  by_cases hl : c.holder = l
  · cases hs : c.state with
    | EDITING n => exact ⟨_, loadClaimTimer_claim_editing hc hl hs⟩
    | COMMIT_WAIT t => exact ⟨c.state, loadClaimTimer_claim_held hc hs⟩
  · exact ⟨c.state, loadClaimTimer_claim_other hc hl⟩

end

theorem passedPart_pu (l : Link) (w : WaitReq) (p : Part) :
    (passedPart l w p).pu = { p.pu with claim := (passedPart l w p).pu.claim } := loadClaimTimer_pu l _

end Sys2Proof.Machine
end

section
namespace Sys2Proof.Machine

/-- EDIT COMMIT by the holder in EDITING: the consistency checks, then the pending set by its target (R86). -/
theorem editCommit_ends {l : Link} {tag : Byte} {s : State} {c : Claim} {n : Nat} (hc : s.found.pu.claim = some c)
    (hl : c.holder = l) (hs : c.state = .EDITING n) (ht : s.taken l .editCommit) :
    ∃ t, exec (.editCommit l tag) s = .next t ∧ sameExcept (.pu :: .rs :: Block.watch) s.found t.part ∧
      (∀ k, c.pending.firstFailing = some k → answered l .editCommit tag .RANGE [byte k] s.found t.part ∧
        t.part.pu = { s.found.pu with claim := some { c with state := .EDITING 300000 } }) ∧
      (c.pending.firstFailing = none →
        (∀ u, c.pending = .unit u → t.part.pu = { s.found.pu with unit := u, claim := none } ∧
          awaits l .editCommit tag t.part ∧ t.part.bc.capacity = u.capacity ∧ t.part.rs.unit.busy = true) ∧
        (∀ k g, c.pending = .group k g → s.found.pu.inUse k = true → s.found.sq.quiescent = false →
          answered l .editCommit tag .STARTED [] s.found t.part ∧
            t.part.pu = { s.found.pu with claim := some { c with state := .COMMIT_WAIT tag } }) ∧
        (∀ k g, c.pending = .group k g → s.found.pu.inUse k = false ∨ s.found.sq.quiescent = true →
          awaits l .editCommit tag t.part ∧ (t.part.rs.get (groupItem k)).busy = true ∧ t.part.dc.poles = s.found.dc.poles ∧
            t.part.pu = { s.found.pu with groups := s.found.pu.groups.set k g, claim := none })) := by
  let p := passedPart l ⟨tag, .editCommit⟩ s.found
  have hclaim : p.pu.claim = some { c with state := .EDITING 300000 } :=
    (passedPart_claim _ _ _).trans (loadClaimTimer_claim_editing hc hl hs)
  have hp : p.pu = { s.found.pu with claim := some { c with state := .EDITING 300000 } } := hclaim ▸ passedPart_pu l _ s.found
  have hinUse (k : Nat) : p.pu.inUse k = s.found.pu.inUse k := by rw [hp]; rfl
  have hquiescent : p.sq.quiescent = s.found.sq.quiescent := by simp [p]
  cases hf : c.pending.firstFailing with
  | some k =>
    obtain ⟨t, he, hsame, hans, hpu⟩ := request_settings_answered (tag := tag) ht rfl (fun _ => rfl)
      (editCommitRequest_failing hclaim hl rfl hf) (.refl _ p) (.refl p)
    exact ⟨t, he, hsame, fun k' hk => by cases hk; exact ⟨hans, hpu.trans hp⟩, nofun⟩
  | none =>
    have hh := editCommitRequest_passed (tag := tag) hclaim hl rfl hf
    cases hpending : c.pending with
    | unit u =>
      obtain ⟨t, he, hsame, hwaits, hbusy, hpu, -, hcapacity⟩ := request_settings_waits ht rfl (by decide)
        (hh.trans (commitPassed_unit hpending)) (commitUnit_settings u p) (commitUnit_grows u p)
      rw [commitUnit_pu, hp] at hpu
      exact ⟨t, he, hsame, nofun, fun _ => ⟨fun u' hu => by
        cases hu
        exact ⟨hpu, hwaits, hcapacity.trans (commitUnit_capacity u p), hbusy⟩, nofun, nofun⟩⟩
    | group k g =>
      by_cases happly : s.found.pu.inUse k = false ∨ s.found.sq.quiescent = true
      · obtain ⟨t, he, hsame, hwaits, hbusy, hpu, hpoles, -⟩ := request_settings_waits ht rfl (groupItem_ne_lockout k)
          (hh.trans (commitPassed_applied hpending (by rwa [hinUse, hquiescent])))
          (judged_settings (sameExcept_settings rfl rfl rfl rfl rfl)) (judged_grows (.of_li rfl))
        rw [judged_pu, releaseClaim, setGroup, hp] at hpu
        rw [judged_dc] at hpoles
        refine ⟨t, he, hsame, nofun, fun _ => ⟨nofun, fun k' g' hg hu hq => ?_, fun k' g' hg _ => ?_⟩⟩ <;> cases hg
        · simp [hu, hq] at happly
        · exact ⟨hwaits, hbusy, hpoles.trans (by simp [releaseClaim, setGroup, p]), hpu⟩
      · obtain ⟨hu, hq⟩ : s.found.pu.inUse k = true ∧ s.found.sq.quiescent = false := by simpa using happly
        obtain ⟨t, he, hsame, hans, hpu⟩ := request_settings_answered ht rfl (fun _ => rfl)
          (hh.trans (commitPassed_held hpending ((hinUse k).trans hu) (hquiescent.trans hq)))
          (sameExcept_settings rfl rfl rfl rfl rfl) (.of_li rfl)
        refine ⟨t, he, hsame, nofun, fun _ => ⟨nofun, fun k' g' hg _ _ => ?_, fun k' g' hg ha => ?_⟩⟩ <;> cases hg
        · exact ⟨hans, hpu.trans (by simp [withClaim, hp, hpending])⟩
        · exact absurd ha happly

/-- EDIT DROP by the holder: the claim ends, the END of a held commit before the answer (R88). -/
theorem editDrop_ends {l : Link} {tag : Byte} {s : State} {c : Claim} (hc : s.found.pu.claim = some c) (hl : c.holder = l)
    (ht : s.taken l .editDrop) :
    ∃ t, exec (.editDrop l tag) s = .next t ∧ t.part.pu = { s.found.pu with claim := none } ∧ t.part.rs = s.found.rs ∧
      (∀ n, c.state = .EDITING n → answered l .editDrop tag .DONE [] s.found t.part) ∧
      (∀ tg, c.state = .COMMIT_WAIT tg → ∃ after, (t.part.li.get l).outbound = (s.found.li.get l).outbound ++
        [.endMsg tg (.settings .CANCELLED), .answer 0xB3 tag .DONE []] ++ after) := by
  let p := passedPart l ⟨tag, .editDrop⟩ s.found
  obtain ⟨st, hst⟩ := loadClaimTimer_claim_some l hc
  have hclaim : p.pu.claim = some { c with state := st } := (passedPart_claim _ _ _).trans hst
  obtain ⟨hpu, hrs, hsq, hgrows⟩ := dropClaim_leaves hclaim
  have hpow : (s.found.li.get l).powered = true := by
    obtain ⟨-, -, -, ⟨hpow, -⟩, -⟩ := ht
    exact hpow
  have hpow' : (p.li.get l).powered = true := by simpa [p] using hpow
  refine ⟨_, request_answered ht rfl (fun _ => rfl) (editDropRequest_holder hclaim hl), ?_, ?_, fun n _ => ?_, fun tg hs => ?_⟩
  · rw [answeredPart_pu, hpu, passedPart_pu]
  · rw [answeredPart_rs (by simp [hsq, p]), hrs]
    simp [p]
  · exact answeredPart_answered ⟨tag, .editDrop⟩ .DONE [] hpow hgrows
  · obtain ⟨after, ha⟩ := answeredPart_outbound (p := s.found) ⟨tag, .editDrop⟩ .DONE [] ((hgrows.powered l).trans hpow')
    have hkind : answerKind Request.editDrop.kindByte = 0xB3 := rfl
    have hheld : p.pu.claim = some c := (passedPart_claim _ _ _).trans (loadClaimTimer_claim_held hc hs)
    refine ⟨after, ha.trans ?_⟩
    rw [dropClaim_outbound hheld hl hs hpow', passedPart_outbound]
    simp [hkind]

/-- Settles O44, request by request. -/
theorem commitAndDropEndClaim : Obligations.CommitAndDropEndClaim := fun _ _ _ _ hc hl =>
  ⟨fun _ hs ht => editCommit_ends hc hl hs ht, editDrop_ends hc hl⟩

end Sys2Proof.Machine
end

section
/-! PROOFS. The two restrictions at passing: DORMANT on the crew link, and a LOCAL_CONTROL tag on the radio link (R109, R184; O15). -/

namespace Sys2Proof.Machine

/-- Each row of a request is that request on its link. -/
theorem exec_asRequest {c : Instr} {l : Link} {tag : Byte} {r : Request} (h : asRequest c = some (l, tag, r)) (s : State) :
    exec c s = request l tag r s := by
  cases c <;> cases h <;> rfl

/-- On a free link a request that its link may send is passed at once (R181 to R183). -/
theorem arrive_passed {l : Link} {tag : Byte} {r : Request} {p : Part} (ha : arrive.admitted r = true) (hm : linkMay l r = true)
    (hf : p.free l) : arrive l tag r p = pass l ⟨tag, r⟩ p := by
  obtain ⟨hpow, hunder, hwait, hrestart⟩ := hf
  simp [arrive, hpow, ha, hm, takeRequest, hunder, hwait, hrestart, Config.waitingMax]

/-- A request refused at its passing is answered by the Link Interface, and nothing else happens (R184). -/
theorem request_refused {s : State} {l : Link} {tag : Byte} {r : Request} (hon : s.part.on = true) (ha : arrive.admitted r = true)
    (hm : linkMay l r = true) (hf : s.found.free l) {code : AnswerCode} (hp : passRefusal l r s.found = some code) :
    request l tag r s = .next { s with part := refuse l tag r code s.found } := by
  rw [request, linkEvent_on hon, arrive_passed ha hm hf]
  simp [pass, hp]

theorem passRefusal_dormant {r : Request} {p : Part} (hd : p.bc.partState = .DORMANT) (hr : inDormant r = false) :
    passRefusal .CREW r p = some .DORMANT := by
  simp [passRefusal, Part.isRun, hd, hr]

theorem passRefusal_localControl {r : Request} {p : Part} (ht : p.tu.localControl = true) (hr : underLocalControl r = false) :
    passRefusal .RADIO r p = some .NOT_PERMITTED := by
  simp [passRefusal, ht, hr]

theorem TagUnit.anyKind_iff (u : TagUnit) (k : TagKind) : u.anyKind k = true ↔ ∃ g ∈ u.tags, g.kind = k := by
  simp [TagUnit.anyKind]

/-- In DORMANT the crew link may read and read the history, and no more (R184). -/
theorem inDormant_of_not_read {r : Request} (hread : ∀ i n, r ≠ .read i n) (hhistory : ∀ n, r ≠ .historyRead n) :
    inDormant r = false := by
  cases r
  case read i n => exact absurd rfl (hread i n)
  case historyRead n => exact absurd rfl (hhistory n)
  all_goals rfl

/-- The answer of the Link Interface to a request other than a READ has no content (R209). -/
theorem refuse_of_not_read {r : Request} (hread : ∀ i n, r ≠ .read i n) (l : Link) (tag : Byte) (code : AnswerCode) (p : Part) :
    refuse l tag r code p = answer l tag r code [] p := by
  cases r
  case read i n => exact absurd rfl (hread i n)
  all_goals rfl

end Sys2Proof.Machine
end

section
namespace Sys2Proof.Machine

/-- Settles O15, by the two cases of the refusal at passing. -/
theorem restrictionsAtPassing : Obligations.RestrictionsAtPassing := by
  intro c l tag r s hc hon ha hm hf
  rw [exec_asRequest hc s]
  refine ⟨?_, ?_⟩
  · rintro rfl hd hread hhistory
    rw [request_refused hon ha hm hf (passRefusal_dormant hd (inDormant_of_not_read hread hhistory)), refuse_of_not_read hread]
  · rintro rfl ht hr
    have hread : ∀ i n, r ≠ .read i n := by
      rintro i n rfl
      cases hr
    rw [request_refused hon ha hm hf (passRefusal_localControl ((TagUnit.anyKind_iff _ _).2 ht) hr), refuse_of_not_read hread]

end Sys2Proof.Machine
end

section
/-! PROOFS. The roster: its entries by crew number, the requests that change one, and its judgement against the time (R94 to R97, R202;
O49, O50). -/

namespace Sys2Proof.Machine

/-! ### Frames past the judgements at the end of an event -/

/-- The blocks outside a frame over those of the watch, each kept or named in the frame. -/
theorem sameExcept_watch {bs : List Block} {p q : Part} (hw : ∀ b ∈ Block.watch, b ∈ bs) (hon : q.on = p.on) (heu : q.eu = p.eu)
    (hrestart : q.restart = p.restart) (hpu : .pu ∈ bs ∨ q.pu = p.pu) (htu : .tu ∈ bs ∨ q.tu = p.tu) (hrs : .rs ∈ bs ∨ q.rs = p.rs)
    (htb : .tb ∈ bs ∨ q.tb = p.tb) : sameExcept bs p q := by
  intro b hb
  have hn : b ∉ Block.watch := fun h => hb (hw b h)
  cases b <;> simp [Block.watch] at hn
  case on => exact hon
  case eu => exact heu
  case pu => exact hpu.resolve_left hb
  case tu => exact htu.resolve_left hb
  case rs => exact hrs.resolve_left hb
  case tb => exact htb.resolve_left hb
  case restart => exact hrestart

theorem sameExcept.mono {bs cs : List Block} {p q : Part} (h : sameExcept bs p q) (hbs : ∀ b ∈ bs, b ∈ cs) : sameExcept cs p q :=
  fun b hb => h b fun hmem => hb (hbs b hmem)

/-- A request whose answer waits for a write stays under answer to the end of the event (R185, R195). -/
theorem endEvent_retainFor_awaits {l : Link} {w : WaitReq} {p q : Part} (h : Grows (passedPart l w p) q) (b : Part) (i : Item)
    (what : Held) : awaits l w.req w.tag (endEvent b (retainFor i what q)) := by
  obtain ⟨ms, hm⟩ := h l
  rw [awaits, endEvent_under, retainFor_li, hm]
  exact passedPart_under l w p

theorem endEvent_retainFor_busy (b : Part) {i : Item} (hi : i ≠ .LOCKOUT) (what : Held) (p : Part) :
    ((endEvent b (retainFor i what p)).rs.get i).busy = true := by
  rw [endEvent_rs_get _ _ hi]
  exact retainFor_busy i what p

/-! ### Entries by crew number (R94) -/

section
variable {c d : Nat} {es : List RosterEntry}

/-- A change of entries that keeps their crew numbers. -/
theorem find?_map_of_crew {f : RosterEntry → RosterEntry} (hf : ∀ e, (f e).crew = e.crew) :
    (es.map f).find? (fun e => e.crew == d) = (es.find? fun e => e.crew == d).map f := by
  rw [List.find?_map]
  congr 2
  funext e
  simp [hf]

theorem find?_crew_eq (h : (es.find? fun e => e.crew == d) = some e) : e.crew = d := by
  simpa using List.find?_some h

/-- A change of the entries of one crew leaves the others' entries. -/
theorem find?_map_of_ne {f : RosterEntry → RosterEntry} (hf : ∀ e, (f e).crew = e.crew) (hn : ∀ e, e.crew ≠ c → f e = e)
    (hd : d ≠ c) : (es.map f).find? (fun e => e.crew == d) = es.find? fun e => e.crew == d := by
  rw [find?_map_of_crew hf]
  cases h : es.find? fun e => e.crew == d with
  | none => rfl
  | some e => rw [Option.map_some, hn e (find?_crew_eq h ▸ hd)]

/-- The entry of a ROSTER PUT in the place of its crew's. -/
def RosterEntry.put (crew : Nat) (r : Rights) (v : Option Nat) (e : RosterEntry) : RosterEntry :=
  if e.crew = crew then ⟨crew, r, v, true⟩ else e

theorem RosterEntry.put_crew (c : Nat) (r : Rights) (v : Option Nat) (e : RosterEntry) : (e.put c r v).crew = e.crew := by
  unfold put
  split
  · next h => exact h.symm
  · rfl

theorem putEntry_of_mem (h : es.any (fun e => e.crew == c) = true) (r : Rights) (v : Option Nat) :
    putEntry c r v es = es.map (RosterEntry.put c r v) := if_pos h

theorem putEntry_of_not_mem (h : es.any (fun e => e.crew == c) = false) (r : Rights) (v : Option Nat) :
    putEntry c r v es = es ++ [⟨c, r, v, true⟩] := if_neg (by simp [h])

/-- After a ROSTER PUT the crew's entry is the one given (R95). -/
theorem find?_putEntry_self (r : Rights) (v : Option Nat) :
    (putEntry c r v es).find? (fun e => e.crew == c) = some ⟨c, r, v, true⟩ := by
  cases h : es.any fun e => e.crew == c with
  | true =>
    rw [putEntry_of_mem h, find?_map_of_crew (RosterEntry.put_crew c r v)]
    obtain ⟨e, he⟩ := Option.isSome_iff_exists.1 (List.find?_isSome.2 (List.any_eq_true.1 h))
    rw [he, Option.map_some, RosterEntry.put, if_pos (find?_crew_eq he)]
  | false =>
    have hnone : (es.find? fun e => e.crew == c) = none := by simpa using h
    rw [putEntry_of_not_mem h, List.find?_append, hnone]
    simp

/-- A ROSTER PUT leaves the entries of other crews (R95). -/
theorem find?_putEntry_of_ne (hd : d ≠ c) (r : Rights) (v : Option Nat) :
    (putEntry c r v es).find? (fun e => e.crew == d) = es.find? fun e => e.crew == d := by
  cases h : es.any fun e => e.crew == c with
  | true =>
    rw [putEntry_of_mem h]
    exact find?_map_of_ne (RosterEntry.put_crew c r v) (fun e he => if_neg he) hd
  | false =>
    rw [putEntry_of_not_mem h, List.find?_append]
    simp [hd.symm]

theorem find?_drop_self : (es.filter fun e => e.crew != c).find? (fun e => e.crew == c) = none := by simp

/-- A ROSTER DROP leaves the entries of other crews (R96). -/
theorem find?_drop_of_ne (hd : d ≠ c) :
    (es.filter fun e => e.crew != c).find? (fun e => e.crew == d) = es.find? fun e => e.crew == d := by
  rw [List.find?_filter]
  congr 1
  funext e
  by_cases h : e.crew = d <;> simp [h, hd]

end

/-! ### ROSTER PUT and ROSTER DROP (R95, R96) -/

section
variable {l : Link} {tag : Byte} {crew : Nat} {p : Part}

/-- The part with another roster. -/
def withRoster (es : List RosterEntry) (p : Part) : Part := { p with tu := { p.tu with roster := es } }

theorem rosterPutRequest_done {rights presence : Byte} {v : Long} {r : Rights} {u : Option Nat} (hr : Rights.ofByte rights = some r)
    (hu : validUntilOf presence v = some u) (h1 : 1 ≤ crew) (h9999 : crew ≤ 9999) (hpast : pastValidUntil u p.tb = false)
    (hroom : (p.tu.entry crew).isSome = true ∨ p.tu.roster.length < 16) :
    rosterPutRequest l tag crew rights presence v p =
      (retainFor .ROSTER (heldAnswer l 0xA2 tag [] p) (withRoster (putEntry crew r u p.tu.roster) p), none) := by
  have hin : within 1 9999 crew = true := by simp [within, h1, h9999]
  have hfull : ((p.tu.entry crew).isNone && decide (Config.rosterMax ≤ p.tu.roster.length)) = false := by
    rcases hroom with h | h
    · simp [Option.isSome_iff_ne_none.1 h]
    · simp [Config.rosterMax, Nat.not_le.2 h]
  simp [rosterPutRequest, hr, hu, hin, hpast, hfull, withRoster, answerKind]

theorem rosterDropRequest_done (h1 : 1 ≤ crew) (h9999 : crew ≤ 9999) (hentry : (p.tu.entry crew).isSome = true)
    (hheld : p.tu.held crew = 0) : rosterDropRequest l tag crew p =
      (retainFor .ROSTER (heldAnswer l 0xA3 tag [] p) (withRoster (p.tu.roster.filter fun e => e.crew != crew) p), none) := by
  have hin : within 1 9999 crew = true := by simp [within, h1, h9999]
  simp [rosterDropRequest, hin, Option.isSome_iff_ne_none.1 hentry, hheld, withRoster, answerKind]

/-- A request that changes the roster alone, its answer waiting for the write (R95, R96). -/
theorem request_roster_waits {s : State} {r : Request} (ht : s.taken l r) (hr : onlyReads r = false) {es : List RosterEntry}
    {what : Held} (hh : handle l tag r (passedPart l ⟨tag, r⟩ s.found) =
      (retainFor .ROSTER what (withRoster es (passedPart l ⟨tag, r⟩ s.found)), none)) :
    ∃ t, request l tag r s = .next t ∧ sameExcept (.pu :: .tu :: .rs :: Block.watch) s.found t.part ∧
      t.part.tu = { s.found.tu with roster := es } ∧ awaits l r tag t.part ∧ (t.part.rs.get .ROSTER).busy = true := by
  have hg : Grows (passedPart l ⟨tag, r⟩ s.found) (withRoster es (passedPart l ⟨tag, r⟩ s.found)) := .of_li rfl
  refine ⟨_, request_waits ht hr hh, ?_, by simp [withRoster], endEvent_retainFor_awaits hg s.found _ _,
    endEvent_retainFor_busy s.found (by decide) _ _⟩
  exact sameExcept_watch (by decide) (by simp [withRoster]) (by simp [withRoster]) (by simp [withRoster]) (.inl (by decide))
    (.inl (by decide)) (.inl (by decide)) (.inr (by simp [withRoster]))

end

/-! ### The expiry (R97) -/

/-- An entry as the expiry of a crew's leaves it. -/
def RosterEntry.expire (crew : Nat) (e : RosterEntry) : RosterEntry := if e.crew = crew then { e with valid := false } else e

theorem RosterEntry.expire_crew (c : Nat) (e : RosterEntry) : (e.expire c).crew = e.crew := by
  unfold expire
  split <;> rfl

/-- An entry that is still VALID is of another crew, and as it was. -/
theorem RosterEntry.expire_valid {c : Nat} {e : RosterEntry} (h : (e.expire c).valid = true) : e.crew ≠ c ∧ e.expire c = e := by
  by_cases hc : e.crew = c
  · simp [expire, hc] at h
  · exact ⟨hc, if_neg hc⟩

section
variable (c : Nat) (p : Part)

theorem expireEntry_tu : (expireEntry c p).tu = { p.tu with roster := p.tu.roster.map (RosterEntry.expire c) } := by
  simp [expireEntry, RosterEntry.expire]

/-- The expiry of an entry touches the roster, its image and the Report Unit. -/
theorem expireEntry_sameExcept : sameExcept (.tu :: .rs :: Block.watch) p (expireEntry c p) :=
  sameExcept_watch (by decide) (by simp [expireEntry]) (by simp [expireEntry]) (by simp [expireEntry]) (.inr (by simp [expireEntry]))
    (.inl (by decide)) (.inl (by decide)) (.inr (by simp [expireEntry]))

theorem expireEntry_poles : (expireEntry c p).dc.poles = p.dc.poles := by simp [expireEntry]

theorem expireEntry_grows : Grows p (expireEntry c p) :=
  (Grows.of_li (q := { p with tu := { p.tu with roster := p.tu.roster.map (RosterEntry.expire c) } }) rfl).trans
    ((enterReport_grows _ _ _ _).trans (.of_li rfl))

theorem expireEntry_busy : ((expireEntry c p).rs.get .ROSTER).busy = true := by
  simp only [expireEntry, retain, Store.get_set_self]
  exact WriteRec.hand_busy _ _

end

theorem rosterExpiry_due {crew : Nat} {p : Part} {e : RosterEntry} (he : p.tu.entry crew = some e) (hv : e.valid = true)
    (hu : e.validUntil.isSome = true) (hset : p.tb.isSet = true) : rosterExpiry crew p = expireEntry crew p := by
  simp [rosterExpiry, he, hv, hu, hset]

/-- The expiry of an entry as its command brings it (R97). -/
theorem event_rosterExpiry {s : State} {crew : Nat} {e : RosterEntry} (hon : s.part.on = true)
    (he : s.found.tu.entry crew = some e) (hv : e.valid = true) (hu : e.validUntil.isSome = true) (hset : s.found.tb.isSet = true) :
    ∃ t, event (rosterExpiry crew) s = .next t ∧ sameExcept (.tu :: .rs :: Block.watch) s.found t.part ∧
      t.part.tu = { s.found.tu with roster := s.found.tu.roster.map (RosterEntry.expire crew) } ∧
      (t.part.rs.get .ROSTER).busy = true := by
  refine ⟨_, event_on hon, ?_⟩
  rw [rosterExpiry_due he hv hu hset]
  refine ⟨(expireEntry_sameExcept crew s.found).trans ?_, ?_, ?_⟩
  · exact sameExcept_watch (by decide) (by simp) (by simp) (by simp) (.inr (by simp)) (.inr (by simp)) (.inl (by decide))
      (.inr (by simp))
  · rw [endEvent_tu, expireEntry_tu]
  · rw [endEvent_rs_get _ _ (by decide)]
    exact expireEntry_busy crew s.found

end Sys2Proof.Machine
end

section
namespace Sys2Proof.Machine

/-- Settles O49, by the entry of each crew in the roster that the change leaves. -/
theorem rosterChanges : Obligations.RosterChanges := by
  intro tag crew s hon
  refine ⟨?_, ?_, ?_⟩
  · intro rights presence v r u ht hr hu h1 h9999 hpast hroom
    obtain ⟨t, he, hsame, htu, hwaits, hbusy⟩ := request_roster_waits (tag := tag) ht rfl
      (rosterPutRequest_done hr hu h1 h9999 (by simpa using hpast) (by simpa using hroom))
    rw [passedPart_tu] at htu
    refine ⟨t, he, hsame, ?_, by rw [htu], fun d hd => ?_, hwaits, hbusy⟩ <;> rw [htu]
    · exact find?_putEntry_self r u
    · exact find?_putEntry_of_ne hd r u
  · intro ht h1 h9999 hentry hheld
    obtain ⟨t, he, hsame, htu, hwaits, hbusy⟩ := request_roster_waits (tag := tag) ht rfl
      (rosterDropRequest_done h1 h9999 (by simpa using hentry) (by simpa using hheld))
    rw [passedPart_tu] at htu
    refine ⟨t, he, hsame, ?_, by rw [htu], fun d hd => ?_, hwaits, hbusy⟩ <;> rw [htu]
    · exact find?_drop_self
    · exact find?_drop_of_ne hd
  · intro e he hv hu hset
    obtain ⟨t, hn, hsame, htu, hbusy⟩ := event_rosterExpiry hon he hv hu hset
    refine ⟨t, hn, hsame, ?_, by rw [htu], fun d hd => ?_, hbusy⟩ <;> rw [htu]
    · have hfind : s.found.tu.roster.find? (fun e => e.crew == crew.toNat) = some e := he
      refine (find?_map_of_crew (RosterEntry.expire_crew _)).trans ?_
      rw [hfind, Option.map_some, RosterEntry.expire, if_pos (find?_crew_eq hfind)]
    · exact find?_map_of_ne (RosterEntry.expire_crew _) (fun e he => if_neg he) hd

end Sys2Proof.Machine
end

section
/-! PROOFS. SET TIME (R97, R202; O50). -/

namespace Sys2Proof.Machine

/-- An entry that is still VALID once the entries of several crews have expired is as it was, and of none of them. -/
theorem mem_applyAll_expireEntry {e : RosterEntry} (hv : e.valid = true) {cs : List Nat} {p : Part}
    (h : e ∈ (applyAll expireEntry cs p).tu.roster) : e ∈ p.tu.roster ∧ e.crew ∉ cs := by
  induction cs generalizing p with
  | nil => exact ⟨h, List.not_mem_nil⟩
  | cons c cs ih =>
    obtain ⟨hmem, hcs⟩ := ih h
    rw [expireEntry_tu] at hmem
    obtain ⟨d, hd, rfl⟩ := List.mem_map.1 hmem
    obtain ⟨hc, hsame⟩ := RosterEntry.expire_valid hv
    rw [hsame] at hcs ⊢
    exact ⟨hd, by simp [hc, hcs]⟩

theorem mem_reached {secs v : Nat} {es : List RosterEntry} {e : RosterEntry} (he : e ∈ es) (hv : e.valid = true)
    (hu : e.validUntil = some v) (hle : v ≤ secs) : e.crew ∈ reached secs es :=
  List.mem_map_of_mem (List.mem_filter.2 ⟨he, by simp [hv, hu, hle]⟩)

/-- While the time is SET no entry that the seconds count has reached is VALID past the judgement (R97). -/
theorem judgeRoster_reaches {p : Part} (hset : p.tb.isSet = true) {e : RosterEntry} (he : e ∈ (judgeRoster p).tu.roster)
    (hv : e.valid = true) {v : Nat} (hu : e.validUntil = some v) : p.tb.secs < v := by
  rw [judgeRoster, if_pos hset] at he
  obtain ⟨hmem, hnot⟩ := mem_applyAll_expireEntry hv he
  exact Nat.lt_of_not_le fun hle => hnot (mem_reached hmem hv hu hle)

/-- What the expiry of every entry keeps, the judgement keeps. -/
theorem judgeRoster_keeps {β : Type} (g : Part → β) (h : ∀ c p, g (expireEntry c p) = g p) (p : Part) : g (judgeRoster p) = g p := by
  unfold judgeRoster
  split
  · exact applyAll_keeps g h _ p
  · rfl

theorem judgeRoster_sameExcept (p : Part) : sameExcept (.tu :: .rs :: Block.watch) p (judgeRoster p) := by
  unfold judgeRoster
  split
  · exact applyAll_induction (P := sameExcept _ p) (fun c q h => h.trans (expireEntry_sameExcept c q)) _ (.refl _ p)
  · exact .refl _ p

theorem judgeRoster_grows (p : Part) : Grows p (judgeRoster p) := by
  unfold judgeRoster
  split
  · exact .applyAll expireEntry_grows _ p
  · exact .refl p

/-- The part with the time set (R202). -/
def withTime (t : Stamp) (p : Part) : Part := { p with tb := t }

theorem setTimeRequest_range {seconds : Long} {millis : Half} (h : 999 < millis.toNat) (p : Part) :
    setTimeRequest seconds millis p = (p, some (.RANGE, [])) := if_pos h

theorem setTimeRequest_done {seconds : Long} {millis : Half} (h : millis.toNat ≤ 999) (p : Part) :
    setTimeRequest seconds millis p = (judgeRoster (withTime ⟨seconds.toNat, millis.toNat, true⟩ p), some (.DONE, [])) :=
  if_neg (Nat.not_lt.2 h)

theorem judgeRoster_withTime_sameExcept (t : Stamp) (p : Part) :
    sameExcept (.pu :: .tu :: .tb :: .rs :: Block.watch) p (judgeRoster (withTime t p)) := by
  have htime : sameExcept (.pu :: .tu :: .tb :: .rs :: Block.watch) p (withTime t p) :=
    sameExcept_watch (by decide) rfl rfl rfl (.inr rfl) (.inr rfl) (.inr rfl) (.inl (by decide))
  exact htime.trans ((judgeRoster_sameExcept _).mono (by decide))

/-- SET TIME is answered at once, and hands what it touches to the end of the event. -/
theorem request_setTime {s : State} {tag : Byte} {seconds : Long} {millis : Half} (ht : s.taken .RADIO (.setTime seconds millis))
    {q : Part} {code : AnswerCode}
    (hh : setTimeRequest seconds millis (passedPart .RADIO ⟨tag, .setTime seconds millis⟩ s.found) = (q, some (code, [])))
    (hq : sameExcept (.pu :: .tu :: .tb :: .rs :: Block.watch) (passedPart .RADIO ⟨tag, .setTime seconds millis⟩ s.found) q)
    (hg : Grows (passedPart .RADIO ⟨tag, .setTime seconds millis⟩ s.found) q) :
    ∃ t, exec (.setTime .RADIO tag seconds millis) s = .next t ∧
      sameExcept (.pu :: .tu :: .tb :: .rs :: Block.watch) s.found t.part ∧
      answered .RADIO (.setTime seconds millis) tag code [] s.found t.part ∧
      t.part.tu = q.tu ∧ t.part.tb = q.tb ∧ t.part.dc.poles = q.dc.poles := by
  obtain ⟨-, -, -, ⟨hpow, -⟩, -⟩ := id ht
  have hpassed := (passedPart_settings .RADIO ⟨tag, .setTime seconds millis⟩ s.found).mono
    (cs := .pu :: .tu :: .tb :: .rs :: Block.watch) (by decide)
  refine ⟨_, request_answered ht rfl (fun _ => rfl) hh, (hpassed.trans hq).trans ?_,
    answeredPart_answered ⟨tag, .setTime seconds millis⟩ code [] hpow hg, by simp, by simp, by simp⟩
  exact sameExcept_watch (by decide) (by simp) (by simp) (by simp) (.inl (by decide)) (.inl (by decide)) (.inl (by decide))
    (.inl (by decide))

end Sys2Proof.Machine
end

section
namespace Sys2Proof.Machine

/-- Settles O50, by the milliseconds given. -/
theorem setTimeJudgesRoster : Obligations.SetTimeJudgesRoster := by
  intro tag seconds millis s ht
  let p := passedPart .RADIO ⟨tag, .setTime seconds millis⟩ s.found
  by_cases hm : 999 < millis.toNat
  · obtain ⟨t, he, hsame, hans, htu, htb, hpoles⟩ := request_setTime (tag := tag) ht (setTimeRequest_range hm p) (.refl _ p) (.refl p)
    simp only [p, passedPart_tu, passedPart_tb, passedPart_dc] at htu htb hpoles
    exact ⟨t, he, hsame, by rw [htu], hpoles, fun _ => ⟨hans, htb, htu⟩, fun h => absurd hm (Nat.not_lt.2 h)⟩
  · have hm : millis.toNat ≤ 999 := Nat.not_lt.1 hm
    let q := withTime ⟨seconds.toNat, millis.toNat, true⟩ p
    obtain ⟨t, he, hsame, hans, htu, htb, hpoles⟩ := request_setTime (tag := tag) ht (setTimeRequest_done hm p)
      (judgeRoster_withTime_sameExcept _ p) ((Grows.of_li (p := p) (q := q) rfl).trans (judgeRoster_grows q))
    have htags : (judgeRoster q).tu.tags = s.found.tu.tags :=
      (judgeRoster_keeps (·.tu.tags) (fun c r => by rw [expireEntry_tu]) q).trans (by simp [q, withTime, p])
    have hdc : (judgeRoster q).dc.poles = s.found.dc.poles :=
      (judgeRoster_keeps (·.dc.poles) expireEntry_poles q).trans (by simp [q, withTime, p])
    have htime : (judgeRoster q).tb = ⟨seconds.toNat, millis.toNat, true⟩ := judgeRoster_sameExcept q .tb (by decide)
    refine ⟨t, he, hsame, by rw [htu, htags], hpoles.trans hdc, fun h => absurd h (Nat.not_lt.2 hm),
      fun _ => ⟨hans, htb.trans htime, fun e hmem hv v hu => ?_⟩⟩
    rw [htu] at hmem
    exact judgeRoster_reaches (p := q) rfl hmem hv hu

end Sys2Proof.Machine
end

section
/-! PROOFS. What a trip request of the Sequencer's own hands to the store: the wear image alone (R14, R20). -/

namespace Sys2Proof.Machine

/-- The write records of all items but WEAR stay as they were. -/
def WritesWear (p q : Part) : Prop := ∀ i, i ≠ .WEAR → q.rs.get i = p.rs.get i

section
variable {p q r : Part}

theorem WritesWear.of_rs (h : q.rs = p.rs) : WritesWear p q := fun _ _ => by rw [h]

theorem WritesWear.trans (h : WritesWear p q) (k : WritesWear q r) : WritesWear p r := fun i hi => (k i hi).trans (h i hi)

theorem WritesWear.trans_rs (h : WritesWear p q) (hr : r.rs = q.rs) : WritesWear p r := h.trans (.of_rs hr)

theorem retain_writesWear (p : Part) : WritesWear p (retain .WEAR p) := fun i hi => by simp [retain, Store.get_set, hi]

theorem countAndWear_writesWear (f : Flight) (p : Part) : WritesWear p (countAndWear f p) := by
  by_cases h : f.op.kind = .TRIP
  · rw [countAndWear_of_trip h]
    split
    · exact .of_rs (wornPart_rs f p)
    · exact (WritesWear.of_rs (wornPart_rs f p)).trans (retain_writesWear _)
  · rw [countAndWear_of_close h]
    exact .of_rs rfl

theorem endSuperseded_writesWear (f : Flight) (p : Part) : WritesWear p (endSuperseded f p) :=
  have hbefore : WritesWear p (coilChecks f.fire (clearMotion f.fire (beginEnd p))) := .of_rs (by simp)
  (hbefore.trans (countAndWear_writesWear f _)).trans_rs (by simp [endSuperseded, endFirst])

theorem supersede_writesWear (p : Part) : WritesWear p (supersede p) := by
  unfold supersede
  split
  · split
    · exact WritesWear.trans (.of_rs (takeClosing_rs _ p)) (endSuperseded_writesWear _ _)
    · exact .of_rs rfl
  · exact .of_rs rfl

theorem mergeTrip_writesWear (s : PoleSet) (e : ReqEntry) (p : Part) : WritesWear p (mergeTrip s e p).1 := by
  simp only [mergeTrip]
  split
  · exact WritesWear.trans (.of_rs (joinPending_rs _ e p)) (supersede_writesWear _)
  · split
    · split <;> exact .of_rs rfl
    · exact .of_rs rfl

theorem addTrip_writesWear (s : PoleSet) (p : Part) : WritesWear p (addTrip s p) := by
  simp only [addTrip]
  split
  · exact .of_rs rfl
  · exact WritesWear.trans (.of_rs (clearEntries_rs s p)) (mergeTrip_writesWear _ _ _)

theorem takeTrip_writesWear (s : PoleSet) (c : OpCause) (w : Requester) (t : Option Byte) (p : Part) :
    WritesWear p (takeTrip s c w t p).1 := by
  by_cases h : p.bc.partState = .RUN ∧ s.isEmpty = false
  · have hreport : WritesWear p (reportedTrip s c w p).1 := .of_rs (by simp [reportedTrip])
    have hmerge : WritesWear _ (mergedTrip s c w t p).1 := mergeTrip_writesWear s ⟨w, c, s, t⟩ (reportedTrip s c w p).1
    rw [takeTrip_of_run h.1 h.2]
    refine ((hreport.trans hmerge).trans (addTrip_writesWear (reportedTrip s c w p).2 _)).trans_rs ?_
    simp only [judgeQuiescence_rs]
    split
    · exact restartDead_rs _ _
    · rfl
  · rw [takeTrip_of_none h]
    exact .of_rs rfl

theorem noteAndTrip_writesWear (s : PoleSet) (n : EndNote) (c : OpCause) (p : Part) : WritesWear p (noteAndTrip s n c p) := by
  simp only [noteAndTrip, seqTrip]
  split
  · exact .of_rs rfl
  · exact WritesWear.trans (.of_rs (notePoles_rs s n p)) (takeTrip_writesWear _ _ _ _ _)

theorem blindCheck_writesWear (p : Part) : WritesWear p (blindCheck p) := by
  simp only [blindCheck]
  split
  · exact noteAndTrip_writesWear _ _ _ _
  · exact .of_rs rfl

end

end Sys2Proof.Machine
end

section
/-! PROOFS. A tag as it is applied and as it is removed, block by block in the order of R101 and R104 (R99 to R104; O48). -/

namespace Sys2Proof.Machine

/-! ### The applied tag at the Drive Controller (R16, R101 step 1) -/

section
variable (t : Tag) (p : Part)

theorem tagToDrive_settings : sameExcept (.pu :: .rs :: Block.watch) p (tagToDrive t p) := by
  unfold tagToDrive
  split
  case h_4 => exact .refl _ p
  all_goals exact sameExcept_settings (by simp) (by simp) (by simp) (by simp) (by simp)

theorem tagToDrive_grows : Grows p (tagToDrive t p) := by
  unfold tagToDrive
  split
  · exact endLinkEntries_grows _ _ p
  · exact endLinkEntries_grows _ _ p
  · exact endRadioEntry_grows _ p
  · exact .refl p

theorem endRadioEntry_dc_poles (r : OpResult) (p : Part) : (endRadioEntry r p).dc.poles = p.dc.poles := by
  cases h : p.dc.radio <;> simp [endRadioEntry, h]

theorem endLinkEntries_dc_poles (s : PoleSet) (r : OpResult) (p : Part) : (endLinkEntries s r p).dc.poles = p.dc.poles := by
  simp only [endLinkEntries]
  repeat' split
  all_goals simp [endRadioEntry_dc_poles]

theorem tagToDrive_poles : (tagToDrive t p).dc.poles = p.dc.poles := by
  unfold tagToDrive
  split <;> simp [endRadioEntry_dc_poles, endLinkEntries_dc_poles]

theorem tagToDrive_pu : (tagToDrive t p).pu = p.pu := by
  unfold tagToDrive
  split <;> simp

theorem tagToDrive_rs : (tagToDrive t p).rs = p.rs := by
  unfold tagToDrive
  split <;> simp

/-- A HOT_LINE tag ends the crew entry (R16). -/
theorem tagToDrive_crew (h : t.kind = .HOT_LINE) (hc : (LinkClose.poles p.dc.crew).isEmpty = false) :
    (tagToDrive t p).dc.crew = none := by
  simp only [tagToDrive, h]
  rw [endLinkEntries_dc_crew, if_pos (LinkClose.overlaps_full hc)]

/-! ### The applied tag at the Sequencer (R63, R64, R69, R101 step 2) -/

/-- The Sequencer locks out, and under a HOT_LINE tag checks for lost measurement, before the LOCKOUT report. -/
theorem tagToSequencer_eq : tagToSequencer t p = tellLockouts p
    (if t.kind = .HOT_LINE then blindCheck (enterLockout (tagLocks t p) p) else enterLockout (tagLocks t p) p) := rfl

theorem tagToSequencer_settings : sameExcept (.pu :: .rs :: Block.watch) p (tagToSequencer t p) := by
  rw [tagToSequencer_eq]
  split <;> exact sameExcept_settings (by simp) (by simp) (by simp) (by simp) (by simp)

theorem tagToSequencer_grows : Grows p (tagToSequencer t p) := by
  rw [tagToSequencer_eq]
  split
  · exact ((enterLockout_grows _ p).trans (blindCheck_grows _)).trans (tellLockouts_grows _ _)
  · exact (enterLockout_grows _ p).trans (tellLockouts_grows _ _)

theorem tagToSequencer_pu : (tagToSequencer t p).pu = p.pu := by
  rw [tagToSequencer_eq]
  split <;> simp

theorem tagToSequencer_writesWear : WritesWear p (tagToSequencer t p) := by
  have hlock : WritesWear p (enterLockout (tagLocks t p) p) := .of_rs (enterLockout_rs _ p)
  rw [tagToSequencer_eq]
  split
  · exact (hlock.trans (blindCheck_writesWear _)).trans_rs (tellLockouts_rs _ _)
  · exact hlock.trans_rs (tellLockouts_rs _ _)

/-- No tag but a HOT_LINE tag has the Sequencer ask for a trip. -/
theorem tagToSequencer_poles (h : t.kind ≠ .HOT_LINE) : (tagToSequencer t p).dc.poles = p.dc.poles := by
  rw [tagToSequencer_eq, if_neg h]
  simp

theorem tagToSequencer_givesWay : GivesWay p (tagToSequencer t p) := by
  have htell (q : Part) : GivesWay q (tellLockouts p q) := .of_same (by simp) (by simp)
  rw [tagToSequencer_eq]
  split
  · exact ((enterLockout_givesWay _ p).trans (blindCheck_givesWay _)).trans (htell _)
  · exact (enterLockout_givesWay _ p).trans (htell _)

/-! ### The applied tag at the Profile Unit (R80, R92, R101 step 3) -/

theorem setHotLineFrame_pu (b : Bool) : (setHotLineFrame b p).pu = { p.pu with hotLine := b } := judged_pu _ p

theorem setHotLineFrame_settings (b : Bool) : sameExcept (.pu :: .rs :: Block.watch) p (setHotLineFrame b p) :=
  judged_settings (sameExcept_settings rfl rfl rfl rfl rfl)

theorem setHotLineFrame_grows (b : Bool) : Grows p (setHotLineFrame b p) := judged_grows (.of_li rfl)

theorem setHotLineFrame_dc (b : Bool) : (setHotLineFrame b p).dc = p.dc := judged_dc _ p

theorem setHotLineFrame_rs (b : Bool) : (setHotLineFrame b p).rs = p.rs := judged_rs _ p

/-- The frame leaves the state and the lockout of every sequence record (R52, R80). -/
theorem setHotLineFrame_seq (b : Bool) (x : Pole) : ((setHotLineFrame b p).seq x).state = (p.seq x).state ∧
    ((setHotLineFrame b p).seq x).lockout = (p.seq x).lockout := by
  let f : Part → Part := fun q => { q with pu := { q.pu with hotLine := b } }
  change ((judged f p).seq x).state = _ ∧ ((judged f p).seq x).lockout = _
  by_cases h : (f p).pu.effective = p.pu.effective
  · rw [judged_same h]
    exact ⟨rfl, rfl⟩
  · rw [judged_changed h, enterReport_seq, sqProfileChanged_seq]
    exact ⟨rfl, rfl⟩

/-- A step that touches the messages of the links and, at the Profile Unit, the claim and the held selection. -/
def EndsEdits (p q : Part) : Prop :=
  ∃ i c h, q = { p with li := i, pu := { p.pu with claim := c, held := h } } ∧ Grows p q

theorem EndsEdits.refl : EndsEdits p p := ⟨p.li, p.pu.claim, p.pu.held, rfl, .refl p⟩

theorem EndsEdits.trans {p q r : Part} (h : EndsEdits p q) (k : EndsEdits q r) : EndsEdits p r := by
  obtain ⟨_, _, _, rfl, hg⟩ := h
  obtain ⟨i, c, w, rfl, kg⟩ := k
  exact ⟨i, c, w, rfl, hg.trans kg⟩

theorem send_endsEdits (l : Link) (m : Message) : EndsEdits p (send l m p) := by
  refine ⟨(send l m p).li, p.pu.claim, p.pu.held, ?_, send_grows l m p⟩
  simp only [send]
  split <;> rfl

theorem releaseClaim_endsEdits : EndsEdits p (releaseClaim p) := ⟨p.li, none, p.pu.held, rfl, .of_li rfl⟩

theorem dropClaim_endsEdits : EndsEdits p (dropClaim p) := by
  unfold dropClaim
  split
  · exact .refl p
  · split
    · exact releaseClaim_endsEdits p
    · exact (send_endsEdits p _ _).trans (releaseClaim_endsEdits _)

theorem endSelection_endsEdits (r : SettingsResult) : EndsEdits p (endSelection r p) := by
  have hdrop : EndsEdits p { p with pu := { p.pu with held := none } } := ⟨p.li, p.pu.claim, none, rfl, .of_li rfl⟩
  unfold endSelection
  split
  · exact .refl p
  · exact hdrop.trans (send_endsEdits _ _ _)

/-- The claim of a link that the test names ends (R92). -/
def claimEnds (f : Link → Bool) (p : Part) : Part :=
  match p.pu.claim with
  | some c => if f c.holder then dropClaim p else p
  | none => p

/-- The held selection of a link that the test names ends (R92). -/
def selectionEnds (f : Link → Bool) (p : Part) : Part :=
  match p.pu.held with
  | some h => if f h.link then endSelection .CANCELLED p else p
  | none => p

theorem endEdits_eq (f : Link → Bool) : endEdits f p = selectionEnds f (claimEnds f p) := rfl

theorem claimEnds_endsEdits (f : Link → Bool) : EndsEdits p (claimEnds f p) := by
  unfold claimEnds
  repeat' split
  · exact dropClaim_endsEdits p
  · exact .refl p
  · exact .refl p

theorem selectionEnds_endsEdits (f : Link → Bool) : EndsEdits p (selectionEnds f p) := by
  unfold selectionEnds
  repeat' split
  · exact endSelection_endsEdits p _
  · exact .refl p
  · exact .refl p

theorem endEdits_endsEdits (f : Link → Bool) : EndsEdits p (endEdits f p) := by
  rw [endEdits_eq]
  exact (claimEnds_endsEdits p f).trans (selectionEnds_endsEdits _ f)

/-- Only the first HOT_LINE tag brings the frame (R80). -/
theorem tagToProfile_hotLine (h : t.kind = .HOT_LINE) : tagToProfile t true p = setHotLineFrame true p := by simp [tagToProfile, h]

/-- Any other tag ends no more than the edits of the radio link. -/
theorem tagToProfile_endsEdits {first : Bool} (h : ¬ (t.kind = .HOT_LINE ∧ first = true)) : EndsEdits p (tagToProfile t first p) := by
  simp only [tagToProfile, if_neg h]
  split
  · exact endEdits_endsEdits p _
  · exact .refl p

theorem tagToProfile_cases (first : Bool) :
    tagToProfile t first p = setHotLineFrame true p ∨ EndsEdits p (tagToProfile t first p) := by
  by_cases h : t.kind = .HOT_LINE ∧ first = true
  · obtain ⟨hk, rfl⟩ := h
    exact .inl (tagToProfile_hotLine t p hk)
  · exact .inr (tagToProfile_endsEdits t p h)

theorem tagToProfile_settings (first : Bool) : sameExcept (.pu :: .rs :: Block.watch) p (tagToProfile t first p) := by
  obtain h | ⟨i, c, w, h, -⟩ := tagToProfile_cases t p first <;> rw [h]
  · exact setHotLineFrame_settings p true
  · exact sameExcept_settings rfl rfl rfl rfl rfl

theorem tagToProfile_grows (first : Bool) : Grows p (tagToProfile t first p) := by
  obtain h | ⟨-, -, -, -, hg⟩ := tagToProfile_cases t p first
  · rw [h]
    exact setHotLineFrame_grows p true
  · exact hg

theorem tagToProfile_dc (first : Bool) : (tagToProfile t first p).dc = p.dc := by
  obtain h | ⟨i, c, w, h, -⟩ := tagToProfile_cases t p first <;> rw [h]
  exact setHotLineFrame_dc p true

theorem tagToProfile_rs (first : Bool) : (tagToProfile t first p).rs = p.rs := by
  obtain h | ⟨i, c, w, h, -⟩ := tagToProfile_cases t p first <;> rw [h]
  exact setHotLineFrame_rs p true

theorem tagToProfile_keeps_hotLine {first : Bool} (h : t.kind ≠ .HOT_LINE) :
    (tagToProfile t first p).pu.hotLine = p.pu.hotLine := by
  obtain ⟨i, c, w, he, -⟩ := tagToProfile_endsEdits t p (first := first) fun k => h k.1
  rw [he]

/-! ### The whole of TAG APPLY (R101) -/

/-- The part of an applied tag before its table is handed to the store. -/
def appliedPart : Part :=
  tagAppliedReport t (tagToProfile t (!p.tu.hotLine) (tagToSequencer t (tagToDrive t { p with tu := p.tu.add t })))

theorem applyTag_eq (l : Link) (reqTag : Byte) : applyTag l reqTag t p =
    retainFor .TAGS (heldAnswer l 0xA0 reqTag [byte t.number] p) (appliedPart t p) := rfl

theorem tagAppliedReport_settings : sameExcept (.pu :: .rs :: Block.watch) p (tagAppliedReport t p) :=
  sameExcept_settings (enterReport_on _ _ _ p) (enterReport_eu _ _ _ p) (enterReport_tu _ _ _ p) (enterReport_tb _ _ _ p)
    (enterReport_restart _ _ _ p)

/-- Past the table the blocks of the settings and of the watch alone change. -/
theorem appliedPart_settings :
    sameExcept (.pu :: .rs :: Block.watch) { p with tu := p.tu.add t } (appliedPart t p) :=
  (((tagToDrive_settings t _).trans (tagToSequencer_settings t _)).trans (tagToProfile_settings t _ _)).trans
    (tagAppliedReport_settings t _)

theorem appliedPart_tu : (appliedPart t p).tu = p.tu.add t := appliedPart_settings t p .tu (by decide)

theorem appliedPart_grows : Grows p (appliedPart t p) :=
  ((((Grows.of_li rfl).trans (tagToDrive_grows t { p with tu := p.tu.add t })).trans (tagToSequencer_grows t _)).trans
    (tagToProfile_grows t _ _)).trans (enterReport_grows _ _ _ _)

theorem appliedPart_writesWear : WritesWear p (appliedPart t p) := by
  have hdrive : WritesWear p (tagToDrive t { p with tu := p.tu.add t }) := .of_rs (tagToDrive_rs t _)
  exact ((hdrive.trans (tagToSequencer_writesWear t _)).trans_rs (tagToProfile_rs t _ _)).trans_rs (enterReport_rs _ _ _ _)

theorem appliedPart_poles (h : t.kind ≠ .HOT_LINE) : (appliedPart t p).dc.poles = p.dc.poles := by
  rw [appliedPart, tagAppliedReport, enterReport_dc, tagToProfile_dc, tagToSequencer_poles t _ h, tagToDrive_poles]

theorem appliedPart_keeps_hotLine (h : t.kind ≠ .HOT_LINE) : (appliedPart t p).pu.hotLine = p.pu.hotLine := by
  rw [appliedPart, tagAppliedReport, enterReport_pu, tagToProfile_keeps_hotLine t _ h, tagToSequencer_pu, tagToDrive_pu]

theorem appliedPart_hotLine (h : t.kind = .HOT_LINE) (hfirst : p.tu.hotLine = false) : (appliedPart t p).pu.hotLine = true := by
  rw [appliedPart, tagAppliedReport, enterReport_pu, hfirst, Bool.not_false, tagToProfile_hotLine t _ h, setHotLineFrame_pu]

theorem appliedPart_crew (h : t.kind = .HOT_LINE) (hc : (LinkClose.poles p.dc.crew).isEmpty = false) :
    (appliedPart t p).dc.crew = none := by
  rw [appliedPart, tagAppliedReport, enterReport_dc, tagToProfile_dc]
  exact (tagToSequencer_givesWay t _).crew_none (tagToDrive_crew t _ h hc)

end

theorem tagApplyRequest_passed {l : Link} {tag kind poles : Byte} {crew : Nat} {note : List Byte} {p : Part} {k : TagKind}
    {ps : PoleSet} (hk : TagKind.ofCode kind.toNat = some k) (hlen : note.length ≤ 16) (hprint : note.all printable = true)
    (hps : tagPoles k poles = some ps) (hr : tagRefusal l k ps crew p = none) :
    tagApplyRequest l tag kind poles crew note p = (applyTag l tag (newTag l k ps crew note p) p, none) := by
  simp [tagApplyRequest, hk, Nat.not_lt.2 hlen, hprint, hps, hr]

/-- The checks of R100 read the tables and the pole records. -/
theorem tagRefusal_passedPart (l : Link) (k : TagKind) (ps : PoleSet) (crew : Nat) (j : Link) (w : WaitReq) (p : Part) :
    tagRefusal l k ps crew (passedPart j w p) = tagRefusal l k ps crew p := by
  have hcleared : (passedPart j w p).notCleared = p.notCleared := by
    funext x
    simp [Part.notCleared, Part.showsOpen]
  simp [tagRefusal, hcleared]

/-- TAG APPLY that passes its checks (R100, R101). -/
theorem tagApply_passed {l : Link} {tag kind poles : Byte} {crew : Half} {note : List Byte} {s : State} {k : TagKind} {ps : PoleSet}
    (ht : s.taken l (.tagApply kind poles crew note)) (hk : TagKind.ofCode kind.toNat = some k) (hlen : note.length ≤ 16)
    (hprint : note.all printable = true) (hps : tagPoles k poles = some ps) (hr : tagRefusal l k ps crew.toNat s.found = none) :
    ∃ t, exec (.tagApply l tag kind poles crew note) s = .next t ∧
      sameExcept (.pu :: .tu :: .rs :: Block.watch) s.found t.part ∧
      t.part.tu.tags = s.found.tu.tags ++ [⟨s.found.tu.nextTag, k, ps, crew.toNat, l == .CREW, s.found.tb, note⟩] ∧
      t.part.tu.roster = s.found.tu.roster ∧ (k ≠ .HOT_LINE → t.part.dc.poles = s.found.dc.poles) ∧
      awaits l (.tagApply kind poles crew note) tag t.part ∧
      (t.part.rs.get .TAGS).waiting = (s.found.rs.get .TAGS).waiting ++ [⟨(s.found.rs.get .TAGS).writing.isSome,
        .answer l (s.found.li.get l).wakes 0xA0 tag [byte s.found.tu.nextTag]⟩] ∧
      (k = .HOT_LINE → s.found.tu.hotLine = false → t.part.pu.hotLine = true) ∧
      (k ≠ .HOT_LINE → t.part.pu.hotLine = s.found.pu.hotLine) ∧
      (k = .HOT_LINE → (LinkClose.poles s.found.dc.crew).isEmpty = false → t.part.dc.crew = none) := by
  let w : WaitReq := ⟨tag, .tagApply kind poles crew note⟩
  let p := passedPart l w s.found
  let g := newTag l k ps crew.toNat note p
  have hh : handle l tag w.req p = (retainFor .TAGS (heldAnswer l 0xA0 tag [byte g.number] p) (appliedPart g p), none) :=
    tagApplyRequest_passed hk hlen hprint hps ((tagRefusal_passedPart l k ps crew.toNat l w s.found).trans hr)
  have hg : g = ⟨s.found.tu.nextTag, k, ps, crew.toNat, l == .CREW, s.found.tb, note⟩ := by simp [g, newTag, p]
  have hadd : sameExcept (.pu :: .tu :: .rs :: Block.watch) s.found { p with tu := p.tu.add g } :=
    sameExcept_watch (by decide) (by simp [p]) (by simp [p]) (by simp [p]) (.inl (by decide)) (.inl (by decide)) (.inl (by decide))
      (.inr (by simp [p]))
  have htu : (endEvent s.found (retainFor .TAGS (heldAnswer l 0xA0 tag [byte g.number] p) (appliedPart g p))).tu =
      s.found.tu.add g := by simp [appliedPart_tu, p]
  have hpu : p.pu.hotLine = s.found.pu.hotLine := by rw [passedPart_pu]
  have hwakes : (p.li.get l).wakes = (s.found.li.get l).wakes := passedPart_wakes l l w s.found
  refine ⟨_, request_waits ht rfl hh, ?_, ?_, ?_, fun h => ?_, endEvent_retainFor_awaits (appliedPart_grows g p) _ _ _, ?_,
    fun h hfirst => ?_, fun h => ?_, fun h hc => ?_⟩
  · exact hadd.trans ((((appliedPart_settings g p).trans (retainFor_settings _ _ _)).trans (endEvent_settings _ _)).mono (by decide))
  · rw [htu, hg]
    rfl
  · rw [htu]
    rfl
  · simp [appliedPart_poles g p h, p]
  · rw [endEvent_rs_get _ _ (by decide), retainFor_waiting, appliedPart_writesWear g p .TAGS (by decide), heldAnswer, hwakes, hg]
    simp [p]
  · simp [appliedPart_hotLine g p h (by simpa [p] using hfirst)]
  · simp [appliedPart_keeps_hotLine g p h, hpu]
  · simp [appliedPart_crew g p h (by simpa [p] using hc)]

/-! ### TAG REMOVE (R102 to R104) -/

section
variable (t : Tag) (by' : Remover) (p : Part)

/-- The part without the tags of a number. -/
def withoutTag (n : Nat) (p : Part) : Part := { p with tu := { p.tu with tags := p.tu.tags.filter fun g => g.number != n } }

/-- The part without the tag, the HOT_LINE frame gone with the last HOT_LINE tag. -/
def unframedPart : Part :=
  if t.kind = .HOT_LINE ∧ !(withoutTag t.number p).tu.hotLine then setHotLineFrame false (withoutTag t.number p)
  else withoutTag t.number p

/-- The part of a removed tag before its table is handed to the store. -/
def removedPart : Part :=
  enterReport .TAG_REMOVED (some t.poles)
    ([byte t.number, byte t.kind.code] ++ two t.crew ++ [byte (originCode t.byCrew)] ++ by'.bytes) (unframedPart t p)

theorem removeTag_eq (l : Link) (reqTag : Byte) : removeTag l reqTag t by' p =
    retainFor .TAGS (heldAnswer l 0xA1 reqTag [] p) (removedPart t by' p) := rfl

/-- The frame leaves, or nothing does but the tag. -/
theorem unframedPart_cases : unframedPart t p = setHotLineFrame false (withoutTag t.number p) ∨
    unframedPart t p = withoutTag t.number p := by
  unfold unframedPart
  split
  · exact .inl rfl
  · exact .inr rfl

theorem unframedPart_settings : sameExcept (.pu :: .rs :: Block.watch) (withoutTag t.number p) (unframedPart t p) := by
  obtain h | h := unframedPart_cases t p <;> rw [h]
  · exact setHotLineFrame_settings _ false
  · exact .refl _ _

theorem unframedPart_grows : Grows p (unframedPart t p) := by
  have hwithout : Grows p (withoutTag t.number p) := .of_li rfl
  obtain h | h := unframedPart_cases t p <;> rw [h]
  · exact hwithout.trans (setHotLineFrame_grows _ false)
  · exact hwithout

theorem unframedPart_dc : (unframedPart t p).dc = p.dc := by
  obtain h | h := unframedPart_cases t p <;> rw [h]
  · exact setHotLineFrame_dc _ false
  · rfl

theorem unframedPart_seq (x : Pole) : ((unframedPart t p).seq x).state = (p.seq x).state ∧
    ((unframedPart t p).seq x).lockout = (p.seq x).lockout := by
  obtain h | h := unframedPart_cases t p <;> rw [h]
  · exact setHotLineFrame_seq (withoutTag t.number p) false x
  · exact ⟨rfl, rfl⟩

/-- With the last HOT_LINE tag the frame leaves (R80). -/
theorem unframedPart_hotLine (h : t.kind = .HOT_LINE) (hlast : (withoutTag t.number p).tu.hotLine = false) :
    (unframedPart t p).pu.hotLine = false := by
  have hdue : t.kind = .HOT_LINE ∧ (!(withoutTag t.number p).tu.hotLine) = true := ⟨h, by rw [hlast]; rfl⟩
  rw [unframedPart, if_pos hdue, setHotLineFrame_pu]

theorem removedPart_settings : sameExcept (.pu :: .rs :: Block.watch) (withoutTag t.number p) (removedPart t by' p) :=
  (unframedPart_settings t p).trans (sameExcept_settings (enterReport_on _ _ _ _) (enterReport_eu _ _ _ _)
    (enterReport_tu _ _ _ _) (enterReport_tb _ _ _ _) (enterReport_restart _ _ _ _))

end

/-- A TAG REMOVE that is taken names a tag in the table (R102). -/
theorem tagRemoval_number {l : Link} {number crew : Nat} {u : TagUnit} {g : Tag} {who : Remover}
    (h : tagRemoval l number crew u = .ok (g, who)) : g.number = number := by
  unfold tagRemoval at h
  cases hf : u.tags.find? fun t => t.number == number with
  | none => simp [hf] at h
  | some t =>
    have ht : t.number = number := by simpa using List.find?_some hf
    simp only [hf] at h
    repeat' split at h
    all_goals cases h
    all_goals exact ht

theorem tagRemoveRequest_passed {l : Link} {tag number : Byte} {crew : Nat} {p : Part} {g : Tag} {who : Remover}
    (h : tagRemoval l number.toNat crew p.tu = .ok (g, who)) :
    tagRemoveRequest l tag number crew p = (removeTag l tag g who p, none) := by
  simp [tagRemoveRequest, h]

/-- TAG REMOVE that passes its checks (R102 to R104). -/
theorem tagRemove_passed {l : Link} {tag number : Byte} {crew : Half} {s : State} {g : Tag} {who : Remover}
    (ht : s.taken l (.tagRemove number crew)) (hr : tagRemoval l number.toNat crew.toNat s.found.tu = .ok (g, who)) :
    ∃ t, exec (.tagRemove l tag number crew) s = .next t ∧
      sameExcept (.pu :: .tu :: .rs :: Block.watch) s.found t.part ∧
      t.part.tu = { s.found.tu with tags := s.found.tu.tags.filter fun h => h.number != number.toNat } ∧
      t.part.dc.poles = s.found.dc.poles ∧
      (∀ x, (t.part.seq x).state = (s.found.seq x).state ∧ (t.part.seq x).lockout = (s.found.seq x).lockout) ∧
      awaits l (.tagRemove number crew) tag t.part ∧ (t.part.rs.get .TAGS).busy = true ∧
      (g.kind = .HOT_LINE → t.part.tu.hotLine = false → t.part.pu.hotLine = false) := by
  let w : WaitReq := ⟨tag, .tagRemove number crew⟩
  let p := passedPart l w s.found
  have hh : handle l tag w.req p = (retainFor .TAGS (heldAnswer l 0xA1 tag [] p) (removedPart g who p), none) :=
    tagRemoveRequest_passed ((congrArg _ (passedPart_tu l w s.found)).trans hr)
  have hgrows : Grows p (removedPart g who p) := (unframedPart_grows g p).trans (enterReport_grows _ _ _ _)
  have hwithout : sameExcept (.pu :: .tu :: .rs :: Block.watch) s.found (withoutTag g.number p) :=
    sameExcept_watch (by decide) (by simp [withoutTag, p]) (by simp [withoutTag, p]) (by simp [withoutTag, p]) (.inl (by decide))
      (.inl (by decide)) (.inl (by decide)) (.inr (by simp [withoutTag, p]))
  have htu : (removedPart g who p).tu =
      { s.found.tu with tags := s.found.tu.tags.filter fun h => h.number != number.toNat } := by
    rw [removedPart_settings g who p .tu (by decide), tagRemoval_number hr]
    simp [withoutTag, p]
  refine ⟨_, request_waits ht rfl hh, ?_, ?_, ?_, fun x => ?_, endEvent_retainFor_awaits hgrows _ _ _,
    endEvent_retainFor_busy _ (by decide) _ _, fun h hlast => ?_⟩
  · exact hwithout.trans ((((removedPart_settings g who p).trans (retainFor_settings _ _ _)).trans (endEvent_settings _ _)).mono
      (by decide))
  · simp [htu]
  · simp [removedPart, unframedPart_dc, p]
  · have hseq : (endEvent s.found (retainFor .TAGS (heldAnswer l 0xA1 tag [] p) (removedPart g who p))).seq x =
        (unframedPart g p).seq x := by
      rw [endEvent_seq]
      exact enterReport_seq _ _ _ _ x
    have hpassed : p.seq x = s.found.seq x := by simp [p, Part.seq]
    rw [hseq, ← hpassed]
    exact unframedPart_seq g p x
  · rw [endEvent_tu, retainFor_tu, removedPart_settings g who p .tu (by decide)] at hlast
    rw [endEvent_pu, retainFor_pu, removedPart, enterReport_pu]
    exact unframedPart_hotLine g p h hlast

end Sys2Proof.Machine
end

section
namespace Sys2Proof.Machine

/-- Settles O48, request by request. -/
theorem tagsAreAppliedAndRemoved : Obligations.TagsAreAppliedAndRemoved :=
  ⟨fun _ _ _ _ _ _ _ _ _ ht hk hlen hprint hps hr => tagApply_passed ht hk hlen hprint hps hr,
    fun _ _ _ _ _ _ _ ht hr => tagRemove_passed ht hr⟩

end Sys2Proof.Machine
end

section
/-! PROOFS. The judgement of the Energy Unit at the end of an event (R119 to R126, R130; O41): the reserve, the waiting order from its
front, and the deficit flag. -/

namespace Sys2Proof.Machine

/-! ### Levels that grant nothing (R116, R117) -/

/-- Only a FRESH level is compared with the trip reserve and the reservation list. -/
theorem EnergyUnit.freshCovers_of_unjudged {u : EnergyUnit} (h : u.level = none ∨ u.fresh = false) (n : Nat) :
    u.freshCovers n = false := by
  rcases h with h | h
  · simp [freshCovers, h]
  · cases hl : u.level <;> simp [freshCovers, hl, h]

/-! ### The waiting order from its front (R125, R126) -/

/-- The part with the unit at the front of the waiting order granted. -/
def grantFirst (u : PoleSet) (us : List PoleSet) (p : Part) : Part :=
  applyAll pendingEntry u.members { p with nu := { p.nu with waiting := us } }

section
variable {u : PoleSet} {us : List PoleSet} {p : Part}

theorem grantFirst_waiting : (grantFirst u us p).nu.waiting = us :=
  applyAll_keeps (fun q => q.nu.waiting) (f := pendingEntry) (fun _ _ => rfl) _ _

/-- A first unit that has split back, or does not fit, holds back the whole order. -/
theorem grantUnits_held (h : u.overlaps p.nu.split = true ∨ p.nu.freshCovers (p.listSum + 14 * u.count) = false) :
    grantUnits (u :: us) p = p := by
  refine if_neg fun hc => ?_
  simp only [Config.closeCost, Bool.and_eq_true, Bool.not_eq_true'] at hc
  rcases h with h | h
  · simp [h] at hc
  · simp [h] at hc

/-- A first unit that fits is granted, and the next one is judged. -/
theorem grantUnits_granted (hs : u.overlaps p.nu.split = false) (hf : p.nu.freshCovers (p.listSum + 14 * u.count) = true) :
    grantUnits (u :: us) p = grantUnits us (grantFirst u us p) :=
  if_pos (by simp [hs, hf, Config.closeCost])

theorem grantUnits_unjudged (h : p.nu.level = none ∨ p.nu.fresh = false) (us : List PoleSet) : grantUnits us p = p := by
  cases us with
  | nil => rfl
  | cons u us => exact grantUnits_held (.inr (EnergyUnit.freshCovers_of_unjudged h _))

/-- Units leave the waiting order from its front alone. -/
theorem grantUnits_waiting (h : p.nu.waiting = us) : ∃ granted, us = granted ++ (grantUnits us p).nu.waiting := by
  induction us generalizing p with
  | nil => exact ⟨[], by simp [grantUnits, h]⟩
  | cons u us ih =>
    unfold grantUnits
    split
    · obtain ⟨granted, hg⟩ := ih (p := grantFirst u us p) grantFirst_waiting
      exact ⟨u :: granted, congrArg (u :: ·) hg⟩
    · exact ⟨[], h.symm⟩

/-- A grant readies entries that stand already: no pole comes to have one. -/
theorem grantUnits_seqPoles (h : ∀ u ∈ us, ∀ x, u.has x = true → (p.dc.seq.get x).isSome = true) :
    (grantUnits us p).dc.seqPoles = p.dc.seqPoles := by
  refine PoleSet.ext_has fun x => ?_
  simp only [Drive.seqPoles, PoleSet.has_ofFun]
  rcases grantUnits_entry us p x with he | ⟨⟨u, hu, hx⟩, he⟩
  · rw [he]
  · rw [he, h u hu x hx, Option.isSome_some]

/-- A granted unit's entries are PENDING, and its reservations in the list, whatever is granted after it. -/
theorem grantUnits_grantFirst {x : Pole} (hx : u.has x = true) :
    (grantUnits us (grantFirst u us p)).dc.seq.get x = some .PENDING ∧
      ⟨.SEQ x, 14⟩ ∈ (grantUnits us (grantFirst u us p)).nu.closes := by
  have hentry : (grantFirst u us p).dc.seq.get x = some .PENDING := by simp [grantFirst, hx]
  have hreserved : ⟨.SEQ x, 14⟩ ∈ (grantFirst u us p).nu.closes := applyAll_pendingEntry_closes (by simpa using hx) _
  refine ⟨?_, (grantUnits_closesGain us _).mem hreserved⟩
  rcases grantUnits_entry us (grantFirst u us p) x with h | ⟨-, h⟩
  · exact h.trans hentry
  · exact h

end

/-! ### The deficit flag (R130) -/

section
variable {p : Part}

theorem judgeDeficit_unjudged (h : p.nu.level = none ∨ p.nu.fresh = false) : judgeDeficit p = p := by
  unfold judgeDeficit
  rcases h with h | h
  · simp [h]
  · split
    · rfl
    · simp [h]

/-- The flag is all that the judgement changes at the Energy Unit. -/
theorem judgeDeficit_nu (p : Part) : (judgeDeficit p).nu = { p.nu with deficit := (judgeDeficit p).nu.deficit } := by
  simp only [judgeDeficit]
  repeat' split
  all_goals simp

/-- ARMED, the flag becomes SET below the trip reserve. -/
theorem judgeDeficit_of_armed {l : Nat} (hl : p.nu.level = some l) (hf : p.nu.fresh = true) (hd : p.nu.deficit = false) :
    (judgeDeficit p).nu.deficit = true ↔ l < p.nu.tripReserve := by
  simp only [judgeDeficit, hl, hf, hd]
  by_cases h : l < p.nu.tripReserve <;> simp [h, hd]

/-- SET, the flag becomes ARMED again at the cost of one trip above the trip reserve. -/
theorem judgeDeficit_of_set {l : Nat} (hl : p.nu.level = some l) (hf : p.nu.fresh = true) (hd : p.nu.deficit = true) :
    (judgeDeficit p).nu.deficit = false ↔ p.nu.tripReserve + 8 ≤ l := by
  simp only [judgeDeficit, hl, hf, hd, Config.tripCost]
  by_cases h : p.nu.tripReserve + 8 ≤ l <;> simp [h, hd]

end

/-! ### The whole judgement (R120, R126, R130) -/

/-- The part as the waiting check leaves it, before the deficit flag is judged. -/
def grantedPart (p : Part) : Part := grantUnits p.nu.waiting (recountReserve p)

section
variable (p : Part)

theorem refresh_nu : (refresh p).nu = (judgeDeficit (grantedPart p)).nu := by simp [refresh, energyJudge, grantedPart]

theorem refresh_dc_seq : (refresh p).dc.seq = (grantedPart p).dc.seq := by simp [refresh, energyJudge, grantedPart]

theorem refresh_nu_waiting : (refresh p).nu.waiting = (grantedPart p).nu.waiting := by rw [refresh_nu, judgeDeficit_nu]

theorem refresh_nu_closes : (refresh p).nu.closes = (grantedPart p).nu.closes := by rw [refresh_nu, judgeDeficit_nu]

theorem grantedPart_level : (grantedPart p).nu.level = p.nu.level :=
  grantUnits_keeps (·.nu.level) (fun _ _ => rfl) (fun _ _ => rfl) _ _

theorem grantedPart_fresh : (grantedPart p).nu.fresh = p.nu.fresh :=
  grantUnits_keeps (·.nu.fresh) (fun _ _ => rfl) (fun _ _ => rfl) _ _

theorem grantedPart_deficit : (grantedPart p).nu.deficit = p.nu.deficit :=
  grantUnits_keeps (·.nu.deficit) (fun _ _ => rfl) (fun _ _ => rfl) _ _

theorem grantedPart_tripReserve : (grantedPart p).nu.tripReserve = p.tripReserveNow :=
  grantUnits_keeps (·.nu.tripReserve) (fun _ _ => rfl) (fun _ _ => rfl) _ _

theorem refresh_nu_tripReserve : (refresh p).nu.tripReserve = p.tripReserveNow := by
  rw [refresh_nu, judgeDeficit_nu]
  exact grantedPart_tripReserve p

/-- The judgements count the poles they found: a grant readies entries that were in the list before. -/
theorem refresh_counted {p : Part} (h : ∀ u ∈ p.nu.waiting, ∀ x, u.has x = true → (p.dc.seq.get x).isSome = true) :
    (refresh p).counted = p.counted := by
  have hseq : (refresh p).dc.seqPoles = p.dc.seqPoles := by
    rw [Drive.seqPoles, refresh_dc_seq]
    exact grantUnits_seqPoles (p := recountReserve p) h
  simp [Part.counted, Part.notOpen, Part.showsOpen, Drive.listed, Drive.closing, hseq]

end

/-! ### The first unit of the waiting order as the judgement finds it (R124, R126) -/

section
variable {p : Part} {u : PoleSet} {us : List PoleSet}

/-- A unit that has split back is held until the trip reserve falls, among other things (R124; assumption 42). -/
theorem overlaps_recountReserve_split : u.overlaps (recountReserve p).nu.split = true ↔
    u.overlaps p.nu.split = true ∧ p.nu.tripReserve ≤ 8 * p.counted.count := by
  have hempty : u.overlaps .empty = false := (PoleSet.overlaps_false_iff u .empty).2 fun x _ => PoleSet.has_empty x
  have hsplit : (recountReserve p).nu.split = if 8 * p.counted.count < p.nu.tripReserve then .empty else p.nu.split := rfl
  rw [hsplit]
  split
  · simp only [hempty, Bool.false_eq_true, false_iff, not_and]
    omega
  · exact (and_iff_left (by omega)).symm

theorem grantedPart_held (hw : p.nu.waiting = u :: us)
    (h : (u.overlaps p.nu.split = true ∧ p.nu.tripReserve ≤ 8 * p.counted.count) ∨
      p.nu.freshCovers (p.listSum + 14 * u.count) = false) : grantedPart p = recountReserve p := by
  rw [grantedPart, hw]
  exact grantUnits_held (p := recountReserve p) (h.imp_left overlaps_recountReserve_split.2)

theorem grantedPart_granted (hw : p.nu.waiting = u :: us)
    (hb : ¬ (u.overlaps p.nu.split = true ∧ p.nu.tripReserve ≤ 8 * p.counted.count))
    (hf : p.nu.freshCovers (p.listSum + 14 * u.count) = true) :
    grantedPart p = grantUnits us (grantFirst u us (recountReserve p)) := by
  rw [grantedPart, hw]
  exact grantUnits_granted (p := recountReserve p) (Bool.eq_false_iff.2 fun h => hb (overlaps_recountReserve_split.1 h)) hf

end

end Sys2Proof.Machine
end

section
namespace Sys2Proof.Machine

/-- Settles O41: the reserve is recounted, the waiting order is judged from its front, and then the deficit flag. -/
theorem energyIsJudged : Obligations.EnergyIsJudged := by
  intro p hp
  refine ⟨?_, fun u us hw h => ?_, fun u us hw hb hf => ?_, fun h => ?_, fun l hl hf => ⟨fun hd => ?_, fun hd => ?_⟩⟩
  · rw [refresh_counted hp]
    exact refresh_nu_tripReserve p
  · rw [refresh_nu_waiting, refresh_nu_closes, refresh_dc_seq, grantedPart_held hw h]
    exact ⟨rfl, rfl, rfl⟩
  · rw [refresh_nu_waiting, refresh_nu_closes, refresh_dc_seq]
    refine ⟨fun x hx => ?_, fun r hr => (grantUnits_closesGain _ (recountReserve p)).mem hr, ?_⟩
    · rw [grantedPart_granted hw hb hf]
      exact grantUnits_grantFirst hx
    · rw [grantedPart_granted hw hb hf]
      exact grantUnits_waiting grantFirst_waiting
  · have hgrant : grantedPart p = recountReserve p := grantUnits_unjudged (p := recountReserve p) h _
    rw [refresh_nu_waiting, refresh_nu_closes, refresh_nu, hgrant, judgeDeficit_unjudged (p := recountReserve p) h]
    exact ⟨rfl, rfl, rfl⟩
  · rw [refresh_nu_tripReserve, ← grantedPart_tripReserve, refresh_nu]
    exact judgeDeficit_of_armed ((grantedPart_level p).trans hl) ((grantedPart_fresh p).trans hf) ((grantedPart_deficit p).trans hd)
  · rw [refresh_nu_tripReserve, ← grantedPart_tripReserve, refresh_nu]
    exact judgeDeficit_of_set ((grantedPart_level p).trans hl) ((grantedPart_fresh p).trans hf) ((grantedPart_deficit p).trans hd)

end Sys2Proof.Machine
end

section
/-! PROOFS. The exhaustion wait and the entry of DORMANT (R131, R153, R154, R175, R191; O54). A link without power takes no message, and
the Report Unit of a part that is DORMANT neither sends nor calls. -/

namespace Sys2Proof.Machine

/-! ### Links without power (R186) -/

/-- Every link without power is as it was. -/
def KeepsDark (p q : Part) : Prop := ∀ l, (p.li.get l).powered = false → q.li.get l = p.li.get l

section
variable {p q r : Part}

theorem KeepsDark.refl (p : Part) : KeepsDark p p := fun _ _ => rfl

theorem KeepsDark.of_li (h : q.li = p.li) : KeepsDark p q := fun _ _ => by rw [h]

theorem KeepsDark.trans (h : KeepsDark p q) (k : KeepsDark q r) : KeepsDark p r := fun l hl =>
  (k l ((congrArg LinkRec.powered (h l hl)).trans hl)).trans (h l hl)

end

section
variable (p : Part)

theorem send_keepsDark (l : Link) (m : Message) : KeepsDark p (send l m p) := fun k hk => by
  rw [send_get, if_neg]
  rintro ⟨rfl, hl⟩
  simp [hk] at hl

theorem sendEnds_keepsDark (op : OpRec) (r : OpResult) : KeepsDark p (sendEnds op r p) := by
  refine applyAll_induction (P := KeepsDark p) (fun e q hq => hq.trans ?_) _ (.refl p)
  unfold sendEnd
  split
  · exact send_keepsDark q _ _
  · exact .refl q

theorem endCrewEntry_keepsDark (r : OpResult) : KeepsDark p (endCrewEntry r p) := by
  unfold endCrewEntry
  split
  · refine .trans (.of_li ?_) (sendEnds_keepsDark _ _ r)
    rfl
  · exact .refl p

theorem endRadioEntry_keepsDark (r : OpResult) : KeepsDark p (endRadioEntry r p) := by
  unfold endRadioEntry
  split
  · refine .trans (.of_li ?_) (sendEnds_keepsDark _ _ r)
    rfl
  · exact .refl p

theorem endLinkEntries_keepsDark (s : PoleSet) (r : OpResult) : KeepsDark p (endLinkEntries s r p) := by
  simp only [endLinkEntries]
  split <;> split
  · exact (endCrewEntry_keepsDark p r).trans (endRadioEntry_keepsDark _ r)
  · exact endCrewEntry_keepsDark p r
  · exact endRadioEntry_keepsDark p r
  · exact .refl p

theorem dropClaim_keepsDark : KeepsDark p (dropClaim p) := by
  unfold dropClaim
  split
  · exact .refl p
  · split
    · exact .of_li rfl
    · exact (send_keepsDark p _ _).trans (.of_li rfl)

theorem endSelection_keepsDark (r : SettingsResult) : KeepsDark p (endSelection r p) := by
  unfold endSelection
  split
  · exact .refl p
  · refine .trans (.of_li ?_) (send_keepsDark _ _ _)
    rfl

theorem endEdits_keepsDark (f : Link → Bool) : KeepsDark p (endEdits f p) := by
  have hclaim : KeepsDark p (claimEnds f p) := by
    unfold claimEnds
    repeat' split
    · exact dropClaim_keepsDark p
    · exact .refl p
    · exact .refl p
  rw [endEdits_eq]
  refine hclaim.trans ?_
  unfold selectionEnds
  repeat' split
  · exact endSelection_keepsDark _ _
  · exact .refl _
  · exact .refl _

end

/-! ### Reports in a part that is DORMANT (R166, R169, R175) -/

/-- The Report Unit without its queue, the next number, the gap and the depth mark: what concerns sending and calling. -/
def ReportUnit.sender (u : ReportUnit) : ReportUnit :=
  { u with queue := [], nextNumber := 0, gapPending := false, depthMark := false }

section
variable {p : Part}

theorem judgeSending_of_dormant (h : p.ru.partState = .DORMANT) : judgeSending p = p := by
  simp [judgeSending, judgeCall, ReportUnit.callDue, h]

theorem ReportUnit.join_sender (u : ReportUnit) {k : ReportKind} (hk : k ≠ .EXHAUSTION) (q : List Report) (s : Option PoleSet)
    (t : Stamp) (b : List Byte) : (u.join q k s t b).sender = u.sender := by
  simp [join, sender, hk]

/-- A report is queued or not: no message leaves, and no permit is used. -/
theorem enterReport_of_dormant (h : p.ru.partState = .DORMANT) {k : ReportKind} (hk : k ≠ .EXHAUSTION) (s : Option PoleSet)
    (b : List Byte) : (enterReport k s b p).ru.sender = p.ru.sender ∧ (enterReport k s b p).li = p.li := by
  have hjoin (q : List Report) : (p.ru.join q k s p.tb b).sender = p.ru.sender := p.ru.join_sender hk q s p.tb b
  have hquiet (u : ReportUnit) (hu : u.sender = p.ru.sender) :
      (judgeSending { p with ru := u }).ru.sender = p.ru.sender ∧ (judgeSending { p with ru := u }).li = p.li := by
    rw [judgeSending_of_dormant (p := { p with ru := u }) ((congrArg ReportUnit.partState hu).trans h)]
    exact ⟨hu, rfl⟩
  simp only [enterReport]
  split
  · exact ⟨rfl, rfl⟩
  · split
    · exact hquiet _ (hjoin _)
    · split
      · next q _ => exact hquiet _ (hjoin q)
      · exact ⟨rfl, rfl⟩

/-- The LOCKOUT report of an event that leaves the part DORMANT is queued. -/
theorem reportLockouts_of_dormant (h : p.ru.partState = .DORMANT) (b : Part) :
    (reportLockouts b p).ru.sender = p.ru.sender ∧ (reportLockouts b p).li = p.li := by
  simp only [reportLockouts, tellLockouts]
  split
  · exact ⟨rfl, rfl⟩
  · split
    · exact ⟨rfl, rfl⟩
    · exact enterReport_of_dormant (p := { retain .LOCKOUT p with sq := _ }) h (by decide) _ _

/-- A STALE level judges no deficit, so that the judgements report nothing. -/
theorem refresh_of_stale (h : p.nu.fresh = false) : (refresh p).ru = p.ru ∧ (refresh p).li = p.li := by
  have hgrant : grantUnits p.nu.waiting (recountReserve p) = recountReserve p :=
    grantUnits_unjudged (p := recountReserve p) (.inr h) _
  have hjudge : judgeDeficit (recountReserve p) = recountReserve p := judgeDeficit_unjudged (p := recountReserve p) (.inr h)
  simp [refresh, energyJudge, hgrant, hjudge]

theorem endEvent_of_dormant (h : p.ru.partState = .DORMANT) (hf : p.nu.fresh = false) (b : Part) :
    (endEvent b p).ru.sender = p.ru.sender ∧ (endEvent b p).li = p.li := by
  obtain ⟨hru, hli⟩ := refresh_of_stale (p := reportLockouts b p) (by simp [hf])
  obtain ⟨kru, kli⟩ := reportLockouts_of_dormant h b
  exact ⟨(congrArg ReportUnit.sender hru).trans kru, hli.trans kli⟩

end

/-! ### The entry of DORMANT, block by block (R154) -/

/-- The part as its power goes: the links, the Report Unit and measurement first. -/
def powerGone (p : Part) : Part :=
  { p with
    bc := { p.bc with partState := .DORMANT, procPower := false, wait := none }
    li := { p.li with radio := p.li.radio.unpowered, protection := p.li.protection.unpowered }
    ru := p.ru.dormant
    eu := { p.eu with state := .WAITING, lossTimer := none, run := 0 }
    restart := none }

section
variable (p : Part)

/-- The drive and the Sequencer alone change, with the reservations and the END messages of the entries that end (R16, R70). -/
theorem dormantPoles_leaves : sameExcept [.dc, .sq, .nu, .li] p (dormantPoles p) := by
  intro b hb
  cases b <;> simp at hb <;> simp [Block.same, dormantPoles]

theorem dormantPoles_dc_poles : (dormantPoles p).dc.poles = p.dc.poles := by
  simp [dormantPoles, endLinkEntries_dc_poles]

theorem dormantPoles_keepsDark : KeepsDark p (dormantPoles p) :=
  (endLinkEntries_keepsDark p .full .CANCELLED).trans (.of_li (by simp [dormantPoles]))

/-- Measurement that is not OK clears runs of the charger and may switch the heater off (R143, R145). -/
theorem batteryMeas_leaves (ok : Bool) : sameExcept [.bc] p (batteryMeas ok p) := by
  intro b hb
  cases ok <;> cases b <;> simp at hb <;> rfl

theorem batteryMeas_power (ok : Bool) : (batteryMeas ok p).bc.partState = p.bc.partState ∧
    (batteryMeas ok p).bc.procPower = p.bc.procPower ∧ (batteryMeas ok p).bc.wait = p.bc.wait := by
  cases ok <;> exact ⟨rfl, rfl, rfl⟩

theorem endEdits_leaves (f : Link → Bool) : sameExcept [.pu, .li] p (endEdits f p) := by
  obtain ⟨i, c, h, he, -⟩ := endEdits_endsEdits p f
  intro b hb
  rw [he]
  cases b <;> simp at hb <;> rfl

/-- With the edits of every link ended, no claim and no held selection is left (R92). -/
theorem endEdits_all_pu : (endEdits (fun _ => true) p).pu = { p.pu with claim := none, held := none } := by
  have hclaim : (claimEnds (fun _ => true) p).pu = { p.pu with claim := none } := by
    cases hc : p.pu.claim with
    | none => simp only [claimEnds, hc]; rw [← hc]
    | some c => simp [claimEnds, hc, (dropClaim_leaves hc).1]
  have hheld (q : Part) : (selectionEnds (fun _ => true) q).pu = { q.pu with held := none } := by
    cases hh : q.pu.held with
    | none => simp only [selectionEnds, hh]; rw [← hh]
    | some h => simp [selectionEnds, hh, endSelection_pu]
  rw [endEdits_eq, hheld, hclaim]

/-- The bank charger line is off in a part that is not in RUN (R129). -/
theorem judgeLine_charger {p : Part} (h : p.bc.partState = .DORMANT) : (judgeLine p).nu.charger = false := by
  have hrun : p.isRun = false := by simp [Part.isRun, h]
  simp only [judgeLine, hrun]
  split <;> simp

end

/-! ### The whole entry -/

/-- The part before the level goes stale and the line is judged: the edits have ended. -/
def editsEnded (p : Part) : Part := endEdits (fun _ => true) (batteryMeas false (retain .SOC (dormantPoles (powerGone p))))

theorem dormantEntry_of_due {p : Part} (h : p.dormantDue = true) : dormantEntry p = judgeLine (markStale (editsEnded p)) := if_pos h

section
variable (p : Part)

/-- Past the loss of power the Report Unit, measurement, the tags, the time base and the restart are left alone. -/
theorem editsEnded_leaves : sameExcept [.dc, .sq, .nu, .li, .rs, .bc, .pu] (powerGone p) (editsEnded p) := by
  have hpoles := dormantPoles_leaves (powerGone p)
  have hretain : sameExcept [.rs] (dormantPoles (powerGone p)) (retain .SOC (dormantPoles (powerGone p))) := fun b hb => by
    cases b <;> simp at hb <;> rfl
  have hmeas := batteryMeas_leaves (retain .SOC (dormantPoles (powerGone p))) false
  exact (((hpoles.mono (by decide)).trans (hretain.mono (by decide))).trans (hmeas.mono (by decide))).trans
    ((endEdits_leaves _ _).mono (by decide))

/-- The links whose processors have lost power hold what the loss of power has left them. -/
theorem editsEnded_links : (editsEnded p).li.radio = p.li.radio.unpowered ∧
    (editsEnded p).li.protection = p.li.protection.unpowered := by
  let q := batteryMeas false (retain .SOC (dormantPoles (powerGone p)))
  have hq : KeepsDark (dormantPoles (powerGone p)) q := .of_li (batteryMeas_leaves _ false .li (by decide))
  have hdark : KeepsDark (powerGone p) (editsEnded p) :=
    ((dormantPoles_keepsDark _).trans hq).trans (endEdits_keepsDark q fun _ => true)
  exact ⟨hdark .RADIO rfl, hdark .PROTECTION rfl⟩

theorem editsEnded_dc_poles : (editsEnded p).dc.poles = p.dc.poles := by
  have hends : (editsEnded p).dc = (dormantPoles (powerGone p)).dc :=
    (endEdits_leaves _ _ .dc (by decide)).trans (batteryMeas_leaves _ false .dc (by decide))
  rw [hends, dormantPoles_dc_poles]
  rfl

/-- The battery keeps what the loss of power has set. -/
theorem editsEnded_power : (editsEnded p).bc.partState = .DORMANT ∧ (editsEnded p).bc.procPower = false ∧
    (editsEnded p).bc.wait = none := by
  obtain ⟨hstate, hproc, hwait⟩ := batteryMeas_power (retain .SOC (dormantPoles (powerGone p))) false
  have hpoles : (retain .SOC (dormantPoles (powerGone p))).bc = (powerGone p).bc :=
    dormantPoles_leaves (powerGone p) .bc (by decide)
  have hends : (editsEnded p).bc = (batteryMeas false (retain .SOC (dormantPoles (powerGone p)))).bc :=
    endEdits_leaves _ _ .bc (by decide)
  rw [hends, hstate, hproc, hwait, hpoles]
  exact ⟨rfl, rfl, rfl⟩

theorem editsEnded_edits : (editsEnded p).pu.claim = none ∧ (editsEnded p).pu.held = none := by
  rw [editsEnded, endEdits_all_pu]
  exact ⟨rfl, rfl⟩

end

section
variable {p : Part} (h : p.dormantDue = true)
include h

/-- Last the bank level goes STALE and the bank charger line is judged: at the Energy Unit alone (R117, R129). -/
theorem dormantEntry_editsEnded : sameExcept [.nu] (editsEnded p) (dormantEntry p) := by
  rw [dormantEntry_of_due h]
  generalize editsEnded p = q
  intro b hb
  cases b <;> simp at hb <;> rfl

theorem dormantEntry_leaves : sameExcept [.dc, .sq, .nu, .li, .rs, .bc, .pu] (powerGone p) (dormantEntry p) :=
  (editsEnded_leaves p).trans ((dormantEntry_editsEnded h).mono (by decide))

/-- Measurement and the restart change besides, as the power goes. -/
theorem dormantEntry_frame : sameExcept (.eu :: .pu :: .rs :: .restart :: Block.watch) p (dormantEntry p) := fun b hb => by
  cases b <;> simp [Block.watch] at hb
  case on => exact dormantEntry_leaves h .on (by decide)
  case tu => exact dormantEntry_leaves h .tu (by decide)
  case tb => exact dormantEntry_leaves h .tb (by decide)

theorem dormantEntry_nu : (dormantEntry p).nu.fresh = false ∧ (dormantEntry p).nu.charger = false := by
  rw [dormantEntry_of_due h]
  exact ⟨rfl, judgeLine_charger (editsEnded_power p).1⟩

/-- The end of the event adds nothing to the links, and at the Report Unit no more than the LOCKOUT report. -/
theorem endEvent_dormantEntry :
    (endEvent p (dormantEntry p)).ru.sender = p.ru.dormant.sender ∧ (endEvent p (dormantEntry p)).li = (editsEnded p).li := by
  have hru : (dormantEntry p).ru = p.ru.dormant := dormantEntry_leaves h .ru (by decide)
  obtain ⟨kru, kli⟩ := endEvent_of_dormant (congrArg ReportUnit.partState hru) (dormantEntry_nu h).1 p
  exact ⟨kru.trans (congrArg ReportUnit.sender hru), kli.trans (dormantEntry_editsEnded h .li (by decide))⟩

end

/-! ### The exhaustion wait (R153) -/

/-- The wait has no time left, and the judgements leave it so. -/
theorem exhaustionWaitExpiry_event {p : Part} {w : ExhWait} (h : p.bc.wait = some w) :
    (endEvent p (exhaustionWaitExpiry p)).bc.wait = some { w with remaining := 0 } ∧
      (endEvent p (exhaustionWaitExpiry p)).bc.partState = p.bc.partState ∧
      sameExcept Block.watch p (endEvent p (exhaustionWaitExpiry p)) := by
  have hwait : exhaustionWaitExpiry p = { p with bc := { p.bc with wait := some { w with remaining := 0 } } } := by
    simp only [exhaustionWaitExpiry, h]
  have hsame : endEvent p (exhaustionWaitExpiry p) = refresh (exhaustionWaitExpiry p) := endEvent_of_same (by rw [hwait]; rfl)
  rw [hsame, hwait]
  exact ⟨by simp, by simp, sameExcept_watch (fun _ => id) (by simp) (by simp) (by simp) (.inr (by simp)) (.inr (by simp))
    (.inr (by simp)) (.inr (by simp))⟩

end Sys2Proof.Machine
end

section
namespace Sys2Proof.Machine

/-- Settles O54: the wait runs out as an event; the entry of DORMANT is followed to the end of its event, whose judgements send nothing
while the part is DORMANT and its bank level STALE. -/
theorem exhaustionEndsInDormant : Obligations.ExhaustionEndsInDormant := by
  intro s hon
  refine ⟨fun w hw => ⟨_, event_on hon, exhaustionWaitExpiry_event hw⟩, fun hd => ⟨_, ownStep_on hon, ?_⟩⟩
  obtain ⟨hsender, hli⟩ := endEvent_dormantEntry hd
  obtain ⟨hradio, hprotection⟩ := editsEnded_links s.part
  obtain ⟨hstate, hproc, hwait⟩ := editsEnded_power s.part
  obtain ⟨hclaim, hheld⟩ := editsEnded_edits s.part
  obtain ⟨hfresh, hcharger⟩ := dormantEntry_nu hd
  have hleaves := dormantEntry_leaves hd
  have hlast := dormantEntry_editsEnded hd
  refine ⟨?_, ?_, ?_, (congrArg LinkInterface.radio hli).trans hradio,
    (congrArg LinkInterface.protection hli).trans hprotection, congrArg ReportUnit.permits hsender,
    congrArg ReportUnit.used hsender, congrArg ReportUnit.statusTimer hsender, congrArg ReportUnit.sending hsender,
    congrArg ReportUnit.called hsender, ?_, ?_, ?_, ?_, ?_, ?_, ?_, ?_⟩
  · rw [endEvent_bc_partState, hlast .bc (by decide), hstate]
  · rw [endEvent_bc_procPower, hlast .bc (by decide), hproc]
  · rw [endEvent_bc_wait, hlast .bc (by decide), hwait]
  · rw [endEvent_eu, hleaves .eu (by decide)]
    rfl
  · rw [endEvent_pu, hlast .pu (by decide), hclaim]
  · rw [endEvent_pu, hlast .pu (by decide), hheld]
  · rw [endEvent_nu_fresh, hfresh]
  · rw [endEvent_nu_charger, hcharger]
  · exact (dormantEntry_frame hd).trans ((endEvent_settings _ _).mono (by decide))
  · rw [endEvent_dc_poles, hlast .dc (by decide), editsEnded_dc_poles]
  · rw [endEvent_restart, hleaves .restart (by decide)]
    rfl

end Sys2Proof.Machine
end

section
/-! PROOFS. What the operations of the Battery Controller make of its records, and what the end of an event leaves of them (R139, R140,
R142, R147 to R149, R152). -/

namespace Sys2Proof.Machine

/-! ### The end of an event (R148) -/

/-- A test that does not run, or that no cause suspends, stays as it is. -/
theorem suspendTest_of_stays {p : Part} (h : p.bc.testRunning = false ∨ testCause p = false) : suspendTest p = p :=
  if_neg fun hc => by
    rcases h with h | h <;> simp [h] at hc

/-- The causes of a suspension stand in the elements and at the drive. -/
theorem testCause_congr {p q : Part} (heu : q.eu = p.eu) (hdc : q.dc = p.dc) : testCause q = testCause p := by
  simp [testCause, Part.measOk, heu, hdc]

/-- With no unit in the waiting order the judgement of the Energy Unit leaves the drive alone. -/
theorem energyJudge_dc_of_none {p : Part} (h : p.nu.waiting = []) : (energyJudge p).dc = p.dc := by
  simp [energyJudge, grantUnits, h]

section
variable (b : Part) {p : Part}

theorem endEvent_bc_of_notRunning (h : p.bc.testRunning = false) : (endEvent b p).bc = p.bc := by
  rw [endEvent, refresh, suspendTest_of_stays (.inl (by simpa using h))]
  simp

theorem endEvent_bc_of_noCause (hc : testCause p = false) (hw : p.nu.waiting = []) : (endEvent b p).bc = p.bc := by
  have hdc : (energyJudge (reportLockouts b p)).dc = p.dc := by rw [energyJudge_dc_of_none (by simpa using hw), reportLockouts_dc]
  rw [endEvent, refresh, suspendTest_of_stays (.inr ((testCause_congr (by simp) (by simpa using hdc)).trans hc))]
  simp

variable (p)

@[simp] theorem endEvent_test_steps : (endEvent b p).bc.test.steps = p.bc.test.steps := by
  simp only [endEvent, refresh, suspendTest]
  split <;> simp

@[simp] theorem endEvent_test_origin : (endEvent b p).bc.test.origin = p.bc.test.origin := by
  simp only [endEvent, refresh, suspendTest]
  split <;> simp

end

/-! ### Frames -/

section
variable {p q : Part}

theorem sameExcept_bc (p : Part) (c : Battery) : sameExcept Block.watch p { p with bc := c } :=
  sameExcept_of (fun _ => id) rfl rfl rfl rfl rfl (.inr rfl) (.inr rfl)

/-- The store takes the LOCKOUT image of the event at most (R46). -/
theorem endEvent_frame (b p : Part) : sameExcept (.rs :: Block.watch) p (endEvent b p) :=
  sameExcept_of (by decide) (by simp) (by simp) (by simp) (by simp) (by simp) (.inr (by simp)) (.inl (by decide))

/-- An event that leaves the sequence records alone has no LOCKOUT image to hand on. -/
theorem endEvent_frame_of_recs {b p : Part} (h : p.sq.recs = b.sq.recs) : sameExcept Block.watch p (endEvent b p) :=
  sameExcept_of (fun _ => id) (by simp) (by simp) (by simp) (by simp) (by simp) (.inr (by simp)) (.inr (endEvent_rs_of_recs h))

/-- A step that leaves the elements and the settings, and touches the store, is outside every other block but those of the watch. -/
theorem sameExcept_rs_of_aside (heu : q.eu = p.eu) (h : q.aside = p.aside) : sameExcept (.rs :: Block.watch) p q := by
  simp only [Part.aside, Prod.mk.injEq] at h
  obtain ⟨hon, hpu, htu, htb, hrestart⟩ := h
  exact sameExcept_of (by decide) hon heu htu htb hrestart (.inr hpu) (.inl (by decide))

theorem Steady.frame (h : Steady p q) : sameExcept (.rs :: Block.watch) p q := sameExcept_rs_of_aside h.eu h.aside

theorem sameExcept.of_rs (h : sameExcept (.rs :: Block.watch) p q) (hrs : q.rs = p.rs) : sameExcept Block.watch p q :=
  fun b hb => by
    by_cases hb' : b = .rs
    · rw [hb']
      exact hrs
    · exact h b (by simp [hb', hb])

theorem sameExcept_bc_rs (p : Part) (c : Battery) : sameExcept (.rs :: Block.watch) p { p with bc := c } :=
  (sameExcept_bc p c).mono (by decide)

end

/-! ### The charger's mode (R142, R147) -/

section
variable {m : ChargerMode} {p : Part}

/-- On the lines: the timers follow the mode. -/
theorem moveMode_bc_of_lines (h : p.bc.testRunning = false) (hm : p.bc.inForce ≠ m) :
    (moveMode m p).bc = { p.bc.timersFor m with mode := m } := by
  simp [moveMode, hm, h, reportMode]

/-- With a test RUNNING the mode to restore moves, and the lines stay. -/
theorem moveMode_of_running (h : p.bc.testRunning = true) (hm : p.bc.inForce ≠ m) :
    moveMode m p = { p with bc := { p.bc.timersFor m with test := { p.bc.test with restore := some m } } } := by
  simp [moveMode, hm, h, Battery.timersFor]

/-- Where no test runs, the mode asked for is on the lines, whichever it was before. -/
theorem moveMode_lines (h : p.bc.testRunning = false) : (moveMode m p).bc.mode = m ∧ (moveMode m p).bc.test = p.bc.test := by
  by_cases hm : p.bc.inForce = m
  · have hmode : p.bc.mode = m := by simpa [Battery.inForce, h] using hm
    simp [moveMode, hm, hmode]
  · rw [moveMode_bc_of_lines h hm]
    exact ⟨rfl, rfl⟩

variable (m p)

theorem moveMode_power : (moveMode m p).bc.partState = p.bc.partState ∧ (moveMode m p).bc.procPower = p.bc.procPower ∧
    (moveMode m p).bc.wait = p.bc.wait := by
  simp only [moveMode]
  split
  · exact ⟨rfl, rfl, rfl⟩
  · split <;> simp [Battery.timersFor, reportMode]

@[simp] theorem moveMode_sq : (moveMode m p).sq = p.sq := by
  simp only [moveMode]
  split
  · rfl
  · split <;> simp [reportMode]

@[simp] theorem moveMode_rs : (moveMode m p).rs = p.rs := by
  simp only [moveMode]
  split
  · rfl
  · split <;> simp [reportMode]

theorem moveMode_frame : sameExcept Block.watch p (moveMode m p) := (moveMode_steady m p).frame.of_rs (moveMode_rs m p)

theorem moveMode_grows : Grows p (moveMode m p) := by
  simp only [moveMode]
  split
  · exact .refl p
  · split
    · exact .of_li rfl
    · exact Grows.trans (.of_li rfl) (enterReport_grows _ _ _ _)

end

/-! ### A test abandoned (R149) -/

/-- The battery with its test abandoned where one is open, the lines at a mode where it was RUNNING. -/
def Battery.abandoned (lines : ChargerMode) (b : Battery) : Battery :=
  if b.testOpen then
    { b with
      load := false, mode := if b.testRunning then lines else b.mode
      test := { b.test with state := .DONE .ABANDONED, restore := none, step := none, drop := none } }
  else b

@[simp] theorem testEnd_bc (t : TestRec) (r : TestResult) (p : Part) : (testEnd t r p).bc = p.bc := by
  unfold testEnd
  split <;> simp

theorem abandonTest_bc (lines : ChargerMode) (reported : Bool) (p : Part) :
    (abandonTest lines reported p).bc = p.bc.abandoned lines := by
  simp only [abandonTest, Battery.abandoned]
  split
  · split <;> simp
  · rfl

section
variable {lines : ChargerMode} {b : Battery}

theorem Battery.abandoned_of_open (h : b.testOpen = true) : b.abandoned lines =
    { b with
      load := false, mode := if b.testRunning then lines else b.mode
      test := { b.test with state := .DONE .ABANDONED, restore := none, step := none, drop := none } } := if_pos h

theorem Battery.abandoned_of_closed (h : b.testOpen = false) : b.abandoned lines = b := if_neg (by simp [h])

theorem Battery.testRunning_of_closed (h : b.testOpen = false) : b.testRunning = false := (Bool.or_eq_false_iff.1 h).1

theorem Battery.testOpen_of_running (h : b.testRunning = true) : b.testOpen = true := Bool.or_eq_true_iff.2 (.inl h)

/-- An abandoned test is DONE. -/
theorem Battery.abandoned_testOpen : (b.abandoned lines).testOpen = false := by
  cases h : b.testOpen with
  | true => rw [abandoned_of_open h]; rfl
  | false => rw [abandoned_of_closed h, h]

/-- The lines take the mode from a RUNNING test; otherwise they keep theirs. -/
theorem Battery.abandoned_mode (h : b.testRunning = true ∨ b.mode = lines) : (b.abandoned lines).mode = lines := by
  rcases h with h | h
  · simp [abandoned_of_open (testOpen_of_running h), h]
  · cases ho : b.testOpen with
    | true => simp [abandoned_of_open ho, h]
    | false => rw [abandoned_of_closed ho, h]

@[simp] theorem Battery.abandoned_taperRun : (b.abandoned lines).taperRun = b.taperRun := by
  unfold abandoned
  split <;> rfl

/-- The energy level and the heater have no part in it. -/
theorem Battery.abandoned_level (l : EnergyLevel) (h : Bool) :
    ({ b with level := l, heater := h } : Battery).abandoned lines = { b.abandoned lines with level := l, heater := h } := by
  cases ho : b.testOpen with
  | true => rw [abandoned_of_open ho]; exact abandoned_of_open ho
  | false => rw [abandoned_of_closed ho]; exact abandoned_of_closed ho

end

/-! ### The energy level and exhaustion (R139, R140, R152) -/

@[simp] theorem exhaustionTrip_bc (p : Part) : (exhaustionTrip p).1.bc = p.bc := by
  unfold exhaustionTrip
  split <;> simp

/-- Exhaustion gives the battery its wait, and nothing more. -/
theorem judgeExhaustion_bc (p : Part) : (judgeExhaustion p).bc = { p.bc with wait := (judgeExhaustion p).bc.wait } := by
  simp only [judgeExhaustion]
  split <;> simp

theorem levelWait_bc (p : Part) : (levelWait p).bc = { p.bc with wait := (levelWait p).bc.wait } := by
  unfold levelWait
  split
  · exact judgeExhaustion_bc p
  · rfl

theorem levelTold_bc (new : EnergyLevel) (p : Part) : (levelTold new p).bc = { p.bc with level := new } := by
  simp [levelTold, judgeLine, reportLevel]

/-- The battery with the test that a level other than NORMAL abandons (R149). -/
def Battery.atLevel (new : EnergyLevel) (b : Battery) : Battery :=
  if new = .NORMAL then b else b.abandoned (if b.supply then b.inForce else .OFF)

theorem Battery.atLevel_of_closed (new : EnergyLevel) {b : Battery} (h : b.testOpen = false) : b.atLevel new = b := by
  unfold atLevel
  split
  · rfl
  · exact abandoned_of_closed h

@[simp] theorem Battery.atLevel_taperRun (new : EnergyLevel) (b : Battery) : (b.atLevel new).taperRun = b.taperRun := by
  unfold atLevel
  split <;> simp

/-- The part as a change of the energy level leaves it before exhaustion is judged. -/
def levelSet (new : EnergyLevel) (p : Part) : Part :=
  if new = .NORMAL then judgeHeater (levelTold new p) else abandonRestoring (judgeHeater (levelTold new p))

theorem levelSet_bc (new : EnergyLevel) (p : Part) :
    (levelSet new p).bc = { p.bc.atLevel new with level := new, heater := (judgeHeater (levelTold new p)).bc.heater } := by
  have htold : (judgeHeater (levelTold new p)).bc =
      { p.bc with level := new, heater := (judgeHeater (levelTold new p)).bc.heater } :=
    congrArg (fun b : Battery => { b with heater := (judgeHeater (levelTold new p)).bc.heater }) (levelTold_bc new p)
  unfold levelSet Battery.atLevel
  split
  · exact htold
  · rw [abandonRestoring, abandonTest_bc, htold]
    exact Battery.abandoned_level _ _

/-- A change of the energy level moves the heater and the wait, and ends a test. -/
theorem levelChanged_bc (new : EnergyLevel) (p : Part) :
    ∃ h w, (levelChanged new p).bc = { p.bc.atLevel new with level := new, heater := h, wait := w } := by
  have hwait := levelWait_bc (levelSet new p)
  rw [levelSet_bc] at hwait
  exact ⟨_, _, hwait⟩

/-- With no test open, a judgement of the energy level moves the level, the heater and the wait alone. -/
theorem judgeLevel_bc_of_closed {p : Part} (h : p.bc.testOpen = false) :
    ∃ l k w, (judgeLevel p).bc = { p.bc with level := l, heater := k, wait := w } := by
  simp only [judgeLevel]
  split
  · exact ⟨_, _, _, rfl⟩
  · obtain ⟨k, w, hb⟩ := levelChanged_bc (energyLevelOf p.pu.unit p.bc.permille p.bc.health) p
    exact ⟨_, k, w, by rw [hb, Battery.atLevel_of_closed _ h]⟩

theorem judgeLevel_taperRun (p : Part) : (judgeLevel p).bc.taperRun = p.bc.taperRun := by
  simp only [judgeLevel]
  split
  · rfl
  · obtain ⟨k, w, hb⟩ := levelChanged_bc (energyLevelOf p.pu.unit p.bc.permille p.bc.health) p
    rw [hb]
    exact Battery.atLevel_taperRun _ _

theorem judgeLevel_frame (p : Part) : sameExcept (.rs :: Block.watch) p (judgeLevel p) :=
  sameExcept_rs_of_aside (judgeLevel_keepsSettings p).eu (judgeLevel_keepsSettings p).aside

end Sys2Proof.Machine
end

section
/-! PROOFS. The supply sense input (R141, R142, R155, R192; O51): the supply lost, returned in RUN, and returned in DORMANT. -/

namespace Sys2Proof.Machine

/-- A judgement of the heater touches the heater alone (R145). -/
theorem judgeHeater_eq (p : Part) : judgeHeater p = { p with bc := { p.bc with heater := p.heaterFrom p.bc.heater } } := rfl

theorem judgeHeater_frame (p : Part) : sameExcept (.rs :: Block.watch) p (judgeHeater p) := sameExcept_bc_rs p _

theorem judgeHeater_grows (p : Part) : Grows p (judgeHeater p) := .of_li rfl

/-! ### The supply is lost (R141, R142) -/

/-- The part as its supply goes. -/
def unsuppliedPart (p : Part) : Part := { p with bc := { p.bc with supply := false } }

/-- The part without supply, its charger OFF and its test ended, before the loss is reported and judged. -/
def chargerStopped (p : Part) : Part :=
  let q := unsuppliedPart p
  if q.bc.testRunning then abandonTest .OFF true { q with bc := q.bc.timersFor .OFF } else abandonTest .OFF true (moveMode .OFF q)

theorem supplyLost_eq (p : Part) :
    supplyLost p = judgeExhaustion (judgeHeater (enterReport .SUPPLY_LOST none [] (chargerStopped p))) := rfl

theorem chargerStopped_steady (p : Part) : Steady (unsuppliedPart p) (chargerStopped p) := by
  simp only [chargerStopped]
  split
  · exact (abandonTest_steady _ _ _).after (.of_bc rfl)
  · exact (abandonTest_steady _ _ _).after (moveMode_steady _ _)

/-- With a test RUNNING its end takes the lines to OFF; otherwise the charger has moved there itself. -/
theorem chargerStopped_bc (p : Part) : (chargerStopped p).bc.mode = .OFF ∧ (chargerStopped p).bc.testOpen = false := by
  simp only [chargerStopped]
  split
  · next h =>
    rw [abandonTest_bc]
    exact ⟨Battery.abandoned_mode (.inl h), Battery.abandoned_testOpen⟩
  · next h =>
    obtain ⟨hmode, -⟩ := moveMode_lines (m := .OFF) (p := unsuppliedPart p) (Bool.eq_false_iff.2 h)
    rw [abandonTest_bc]
    exact ⟨Battery.abandoned_mode (.inr hmode), Battery.abandoned_testOpen⟩

/-- The report and the judgements of a loss change the heater and the wait. -/
theorem supplyLost_bc (p : Part) : ∃ h w, (supplyLost p).bc = { (chargerStopped p).bc with heater := h, wait := w } := by
  have hwait := judgeExhaustion_bc (judgeHeater (enterReport .SUPPLY_LOST none [] (chargerStopped p)))
  rw [← supplyLost_eq, judgeHeater_eq, enterReport_bc] at hwait
  exact ⟨_, _, hwait⟩

/-- What a step at the supply sense input leaves: the supply as the input gives it, and the frame of the command. -/
structure Follows (present : Bool) (p q : Part) : Prop where
  supply : q.bc.supply = present
  frame : sameExcept (.rs :: Block.watch) p q

theorem supplyLost_follows (p : Part) : Follows false p (supplyLost p) := by
  obtain ⟨h, w, hbc⟩ := supplyLost_bc p
  have hstop := chargerStopped_steady p
  refine ⟨by rw [hbc]; exact (Battery.supply_of_stock hstop.stock).trans rfl, ?_⟩
  have hreport : sameExcept (.rs :: Block.watch) p (enterReport .SUPPLY_LOST none [] (chargerStopped p)) :=
    ((sameExcept_bc_rs p _).trans hstop.frame).trans (enterReport_steady _ _ _ _).frame
  rw [supplyLost_eq]
  exact (hreport.trans (judgeHeater_frame _)).trans (judgeExhaustion_steady _).frame

/-! ### The supply returns in RUN (R141, R142, R153) -/

/-- The part with the supply back, the wait over and the charger in the mode of the OFF row, before the return is reported. -/
def chargerStarted (p : Part) : Part :=
  moveMode (modeFromOff p.bc.permille) { p with bc := { p.bc with supply := true, wait := none } }

theorem supplyReturned_eq (p : Part) :
    supplyReturned p = judgeHeater (enterReport .SUPPLY_BACK none [] (chargerStarted p)) := rfl

theorem supplyReturned_bc (p : Part) : ∃ h, (supplyReturned p).bc = { (chargerStarted p).bc with heater := h } := by
  have hbc : (enterReport .SUPPLY_BACK none [] (chargerStarted p)).bc = (chargerStarted p).bc := enterReport_bc _ _ _ _
  rw [supplyReturned_eq, judgeHeater_eq, hbc]
  exact ⟨_, rfl⟩

theorem supplyReturned_follows (p : Part) : Follows true p (supplyReturned p) := by
  obtain ⟨h, hbc⟩ := supplyReturned_bc p
  have hmove : Steady { p with bc := { p.bc with supply := true, wait := none } } (chargerStarted p) := moveMode_steady _ _
  refine ⟨by rw [hbc]; exact (Battery.supply_of_stock hmove.stock).trans rfl, ?_⟩
  have hreport : sameExcept (.rs :: Block.watch) p (enterReport .SUPPLY_BACK none [] (chargerStarted p)) :=
    ((sameExcept_bc_rs p _).trans hmove.frame).trans (enterReport_steady _ _ _ _).frame
  rw [supplyReturned_eq]
  exact hreport.trans (judgeHeater_frame _)

/-! ### The supply returns in DORMANT (R155, R192) -/

/-- The part as its processors have power again, before the charger moves. -/
def wokenPart (p : Part) : Part :=
  { p with
    bc := { p.bc with supply := true, partState := .RUN, procPower := true, socTimer := Config.socPeriod }
    li := { p.li with radio := p.li.radio.woken, protection := p.li.protection.woken } }

/-- The part with the Report Unit told of the part state (R176). -/
def reportsWoken (p : Part) : Part := { p with ru := p.ru.woken p.pu.unit.statusMin }

/-- The part that wakes, its return reported and the Report Unit in RUN, before the blind check. -/
def wokenReports (p : Part) : Part :=
  judgeSending (reportsWoken (enterReport .SUPPLY_BACK none [] (moveMode .BULK (wokenPart p))))

theorem wake_eq (p : Part) : wake p = judgeHeater (blindCheck (wokenReports p)) := rfl

theorem wake_bc (p : Part) : ∃ h, (wake p).bc = { (moveMode .BULK (wokenPart p)).bc with heater := h } := by
  have hbc : (blindCheck (wokenReports p)).bc = (moveMode .BULK (wokenPart p)).bc := by simp [wokenReports, reportsWoken]
  rw [wake_eq, judgeHeater_eq, hbc]
  exact ⟨_, rfl⟩

/-- Messages of the wake itself are all that the links hold beyond what R192 gives them. -/
theorem wake_grows (p : Part) : Grows (wokenPart p) (wake p) := by
  have hreport : Grows (wokenPart p) (enterReport .SUPPLY_BACK none [] (moveMode .BULK (wokenPart p))) :=
    (moveMode_grows _ _).trans (enterReport_grows _ _ _ _)
  have hwoken (q : Part) : Grows q (reportsWoken q) := .of_li rfl
  have hsent : Grows (wokenPart p) (wokenReports p) := (hreport.trans (hwoken _)).trans (judgeSending_grows _)
  rw [wake_eq]
  exact (hsent.trans (blindCheck_grows _)).trans (judgeHeater_grows _)

theorem wake_follows (p : Part) : Follows true p (wake p) := by
  obtain ⟨h, hbc⟩ := wake_bc p
  have hmove := moveMode_steady .BULK (wokenPart p)
  have hsupply : (wake p).bc.supply = true := by
    rw [hbc]
    exact Battery.supply_of_stock hmove.stock
  refine ⟨hsupply, ?_⟩
  have hwoken : sameExcept (.rs :: Block.watch) p (wokenPart p) :=
    sameExcept_of (by decide) rfl rfl rfl rfl rfl (.inr rfl) (.inl (by decide))
  have hblind (q : Part) : sameExcept (.rs :: Block.watch) q (blindCheck q) :=
    sameExcept_of (by decide) (by simp) (by simp) (by simp) (by simp) (by simp) (.inr (by simp)) (.inl (by decide))
  have hreports (q : Part) : sameExcept (.rs :: Block.watch) q (judgeSending (reportsWoken q)) :=
    sameExcept_of (by decide) (by simp [reportsWoken]) (by simp [reportsWoken]) (by simp [reportsWoken]) (by simp [reportsWoken])
      (by simp [reportsWoken]) (.inr (by simp [reportsWoken])) (.inl (by decide))
  have hrest : sameExcept (.rs :: Block.watch) (moveMode .BULK (wokenPart p)) (wake p) := by
    rw [wake_eq]
    exact (((enterReport_steady _ _ _ _).frame.trans (hreports _)).trans (hblind _)).trans (judgeHeater_frame _)
  exact (hwoken.trans hmove.frame).trans hrest

/-! ### The input (R141, R155) -/

section
variable {p : Part}

theorem supplySenseChange_lost (h : p.bc.supply = true) : supplySenseChange false p = supplyLost p := by
  simp [supplySenseChange, h]

theorem supplySenseChange_returned (h : p.bc.supply = false) (hr : p.bc.partState = .RUN) :
    supplySenseChange true p = supplyReturned p := by
  simp [supplySenseChange, h, hr, Part.isRun]

theorem supplySenseChange_wakes (h : p.bc.supply = false) (hd : p.bc.partState = .DORMANT) :
    supplySenseChange true p = wake p := by
  simp [supplySenseChange, h, hd, Part.isRun]

theorem supplySenseChange_same : supplySenseChange p.bc.supply p = p := if_pos rfl

theorem supplySenseChange_follows (present : Bool) (p : Part) : Follows present p (supplySenseChange present p) := by
  by_cases hs : present = p.bc.supply
  · rw [hs, supplySenseChange_same]
    exact ⟨rfl, .refl _ p⟩
  · cases present with
    | false =>
      rw [supplySenseChange_lost (by simpa using hs)]
      exact supplyLost_follows p
    | true =>
      have hsupply : p.bc.supply = false := by simpa using hs
      cases hp : p.bc.partState with
      | RUN =>
        rw [supplySenseChange_returned hsupply hp]
        exact supplyReturned_follows p
      | DORMANT =>
        rw [supplySenseChange_wakes hsupply hp]
        exact wake_follows p

end

/-- Both links have power and hold no request after the wake, whatever is sent on them since (R192). -/
theorem links_of_woken {p q : Part} (h : Grows (wokenPart p) q) : q.li.radio.powered = true ∧ q.li.protection.powered = true ∧
    q.li.radio.under = none ∧ q.li.radio.waiting = [] ∧ q.li.protection.waiting = [] := by
  obtain ⟨ms, hradio⟩ := h .RADIO
  obtain ⟨ns, hprotection⟩ := h .PROTECTION
  exact ⟨congrArg LinkRec.powered hradio, congrArg LinkRec.powered hprotection, congrArg LinkRec.under hradio,
    congrArg LinkRec.waiting hradio, congrArg LinkRec.waiting hprotection⟩

/-! ### The end of the event -/

section
variable (b p : Part)

/-- No test is open after a loss, so that the end of the event leaves the charger OFF. -/
theorem supplyLost_event : (endEvent b (supplyLost p)).bc.mode = .OFF ∧ (endEvent b (supplyLost p)).bc.testOpen = false ∧
    (endEvent b (supplyLost p)).bc.partState = p.bc.partState := by
  obtain ⟨h, w, hbc⟩ := supplyLost_bc p
  obtain ⟨hmode, hopen⟩ := chargerStopped_bc p
  have hclosed : (supplyLost p).bc.testOpen = false := by rw [hbc]; exact hopen
  rw [endEvent_bc_of_notRunning b (Battery.testRunning_of_closed hclosed)]
  refine ⟨by rw [hbc]; exact hmode, hclosed, ?_⟩
  rw [hbc]
  exact (Battery.partState_of_stock (chargerStopped_steady p).stock).trans rfl

variable {p} (ht : p.bc.testRunning = false)
include ht

theorem supplyReturned_event : (endEvent b (supplyReturned p)).bc.wait = none ∧
    (endEvent b (supplyReturned p)).bc.mode = modeFromOff p.bc.permille := by
  obtain ⟨h, hbc⟩ := supplyReturned_bc p
  obtain ⟨hmode, htest⟩ : (chargerStarted p).bc.mode = _ ∧ (chargerStarted p).bc.test = p.bc.test := moveMode_lines ht
  obtain ⟨-, -, hwait⟩ := moveMode_power (modeFromOff p.bc.permille) { p with bc := { p.bc with supply := true, wait := none } }
  have hrun : (supplyReturned p).bc.testRunning = false := by
    rw [hbc]
    exact (congrArg (fun t : TestRec => t.state == .RUNNING) htest).trans ht
  rw [endEvent_bc_of_notRunning b hrun, hbc]
  exact ⟨hwait, hmode⟩

theorem wake_event : (endEvent b (wake p)).bc.partState = .RUN ∧ (endEvent b (wake p)).bc.procPower = true ∧
    (endEvent b (wake p)).bc.mode = .BULK ∧ (endEvent b (wake p)).li.radio.powered = true ∧
    (endEvent b (wake p)).li.protection.powered = true ∧ (endEvent b (wake p)).li.radio.under = none ∧
    (endEvent b (wake p)).li.radio.waiting = [] ∧ (endEvent b (wake p)).li.protection.waiting = [] := by
  obtain ⟨h, hbc⟩ := wake_bc p
  obtain ⟨hmode, htest⟩ : _ ∧ (moveMode .BULK (wokenPart p)).bc.test = p.bc.test := moveMode_lines (m := .BULK) (p := wokenPart p) ht
  obtain ⟨hstate, hproc, -⟩ := moveMode_power .BULK (wokenPart p)
  have hrun : (wake p).bc.testRunning = false := by
    rw [hbc]
    exact (congrArg (fun t : TestRec => t.state == .RUNNING) htest).trans ht
  rw [endEvent_bc_of_notRunning b hrun, hbc]
  exact ⟨hstate, hproc, hmode, links_of_woken ((wake_grows p).trans (endEvent_grows _ _))⟩

end

end Sys2Proof.Machine
end

section
namespace Sys2Proof.Machine

/-- Settles O51, by what the input finds: the supply lost, back in RUN, or back in DORMANT. -/
theorem supplyIsFollowed : Obligations.SupplyIsFollowed := by
  intro present s hon
  obtain ⟨hsupply, hframe⟩ := supplySenseChange_follows present s.found
  have hend := hframe.trans (endEvent_frame s.found (supplySenseChange present s.found))
  refine ⟨_, event_on hon, by rw [endEvent_bc_supply, hsupply], hend, hend .pu (by decide), fun hs hp => ?_, fun hs hp hr ht => ?_,
    fun hs hp hd ht => ?_⟩
  · subst hp
    rw [supplySenseChange_lost hs]
    dsimp only
    exact supplyLost_event s.found s.found
  · subst hp
    rw [supplySenseChange_returned hs hr]
    dsimp only
    exact supplyReturned_event s.found ht
  · subst hp
    rw [supplySenseChange_wakes hs hd]
    dsimp only
    exact wake_event s.found ht

end Sys2Proof.Machine
end

section
/-! PROOFS. The timers of the charger and of the charge count (R137, R138, R142, R143, R147; O52). -/

namespace Sys2Proof.Machine

/-! ### The charge count (R137, R138) -/

theorem setSoc_taperRun (soc rem : Nat) (p : Part) : (setSoc soc rem p).bc.taperRun = p.bc.taperRun := by
  simp only [setSoc]
  split
  · rfl
  · exact judgeLevel_taperRun _

theorem Counted.frame {soc rem : Nat} {p q : Part} (h : Counted soc rem p q) : sameExcept (.rs :: Block.watch) p q :=
  sameExcept_rs_of_aside h.eu h.aside

/-- The part whose taper run starts afresh. -/
def taperRestarted (p : Part) : Part := { p with bc := { p.bc with taperRun := some 0 } }

theorem taperResync_of_run {p : Part} (h : p.bc.taperRun.isSome = true) :
    taperResync p = setSoc p.bc.capacity 0 (taperRestarted p) := by
  obtain ⟨n, hn⟩ := Option.isSome_iff_exists.1 h
  simp only [taperResync, hn]
  rfl

/-- A taper run that has lasted: the battery is taken to be full (R137). -/
theorem taperResync_event {p : Part} (h : p.bc.taperRun.isSome = true) : (endEvent p (taperResync p)).bc.soc = p.bc.capacity ∧
    (endEvent p (taperResync p)).bc.rem = 0 ∧ (endEvent p (taperResync p)).bc.taperRun = some 0 ∧
    sameExcept (.rs :: Block.watch) p (endEvent p (taperResync p)) := by
  rw [taperResync_of_run h, endEvent_bc_soc, endEvent_bc_rem, endEvent_bc_taperRun]
  have hcount := setSoc_counted p.bc.capacity 0 (taperRestarted p)
  exact ⟨Battery.soc_of_stock hcount.stock, Battery.rem_of_stock hcount.stock, setSoc_taperRun _ _ _,
    ((sameExcept_bc_rs p _).trans hcount.frame).trans (endEvent_frame _ _)⟩

/-- A hand-off leaves the item's write record WRITING or dirty (R194). -/
theorem retain_busy (i : Item) (p : Part) : ((retain i p).rs.get i).busy = true := by
  rw [retain, Store.get_set_self]
  exact WriteRec.hand_busy _ _

theorem retain_frame (i : Item) (p : Part) : sameExcept (.rs :: Block.watch) p (retain i p) := (retain_steady i p).frame

/-- The part whose period of the SoC write starts afresh. -/
def socTimerLoaded (p : Part) : Part := { p with bc := { p.bc with socTimer := Config.socPeriod } }

/-- The periodic write (R138). -/
theorem socPeriodicWrite_event {p : Part} (h : p.bc.partState = .RUN) :
    (endEvent p (socPeriodicWrite p)).bc.socTimer = 600000 ∧ (endEvent p (socPeriodicWrite p)).rs.soc.busy = true ∧
      (endEvent p (socPeriodicWrite p)).bc.soc = p.bc.soc ∧
      sameExcept (.rs :: Block.watch) p (endEvent p (socPeriodicWrite p)) := by
  have hwrite : socPeriodicWrite p = retain .SOC (socTimerLoaded p) := if_pos (by simp [Part.isRun, h])
  have hbusy : ((endEvent p (retain .SOC (socTimerLoaded p))).rs.get .SOC).busy = true := by
    rw [endEvent_rs_get _ _ (by decide)]
    exact retain_busy _ _
  rw [hwrite, endEvent_bc_socTimer, endEvent_bc_soc]
  exact ⟨rfl, hbusy, rfl, ((sameExcept_bc_rs p _).trans (retain_frame _ _)).trans (endEvent_frame _ _)⟩

/-! ### The charger's transitions at the end of a timer (R142, R143, R147) -/

/-- The charger moves to a mode: on the lines while no test runs, and otherwise at the mode to restore, unless the event suspends the
test. -/
structure ChargerMoves (m : ChargerMode) (p q : Part) : Prop where
  soc : q.bc.soc = p.bc.soc
  lines : p.bc.testRunning = false → q.bc.mode = m ∧ q.bc.test = p.bc.test
  restores : p.bc.testRunning = true → testCause p = false → p.nu.waiting = [] →
    q.bc.mode = p.bc.mode ∧ q.bc.test = { p.bc.test with restore := some m }
  frame : sameExcept Block.watch p q

section
variable {m : ChargerMode} {p : Part} (h : p.bc.inForce ≠ m)
include h

/-- The timers follow the mode in force, whichever of the two moves. -/
theorem moveMode_timers : (moveMode m p).bc.absorbTaper = (p.bc.timersFor m).absorbTaper ∧
    (moveMode m p).bc.absorbTime = (p.bc.timersFor m).absorbTime ∧ (moveMode m p).bc.floatLow = (p.bc.timersFor m).floatLow := by
  cases hr : p.bc.testRunning with
  | true => rw [moveMode_of_running hr h]; exact ⟨rfl, rfl, rfl⟩
  | false => rw [moveMode_bc_of_lines hr h]; exact ⟨rfl, rfl, rfl⟩

theorem moveMode_event : ChargerMoves m p (endEvent p (moveMode m p)) := by
  refine ⟨?_, fun hr => ?_, fun hr hc hw => ?_, (moveMode_frame m p).trans (endEvent_frame_of_recs (by simp))⟩
  · rw [endEvent_bc_soc]
    exact Battery.soc_of_stock (moveMode_steady m p).stock
  · obtain ⟨hmode, htest⟩ := moveMode_lines (m := m) hr
    have hrun : (moveMode m p).bc.testRunning = false := (congrArg (fun t : TestRec => t.state == .RUNNING) htest).trans hr
    rw [endEvent_bc_of_notRunning p hrun]
    exact ⟨hmode, htest⟩
  · have hmoved := moveMode_of_running hr h
    have hbc : (endEvent p (moveMode m p)).bc = (moveMode m p).bc :=
      endEvent_bc_of_noCause p (by rw [hmoved]; exact hc) (by rw [hmoved]; exact hw)
    rw [hbc, hmoved]
    exact ⟨rfl, rfl⟩

end

section
variable {p : Part}

theorem absorbTaperExpiry_of_absorb (ht : p.bc.absorbTaper.isSome = true) (hm : p.bc.inForce = .ABSORB) :
    absorbTaperExpiry p = moveMode .FLOAT p := by
  obtain ⟨n, hn⟩ := Option.isSome_iff_exists.1 ht
  simp [absorbTaperExpiry, hn, hm]

theorem absorbTimeExpiry_of_absorb (ht : p.bc.absorbTime.isSome = true) (hok : p.eu.state = .OK) (hm : p.bc.inForce = .ABSORB) :
    absorbTimeExpiry p = moveMode .FLOAT p := by
  obtain ⟨n, hn⟩ := Option.isSome_iff_exists.1 ht
  simp [absorbTimeExpiry, hn, hm, Part.measOk, hok]

theorem floatLowExpiry_of_float (ht : p.bc.floatLow.isSome = true) (hm : p.bc.inForce = .FLOAT) :
    floatLowExpiry p = moveMode .BULK p := by
  obtain ⟨n, hn⟩ := Option.isSome_iff_exists.1 ht
  simp [floatLowExpiry, hn, hm]

/-- On leaving ABSORB both of its timers are cleared (R143). -/
theorem float_event (hm : p.bc.inForce = .ABSORB) : (endEvent p (moveMode .FLOAT p)).bc.absorbTime = none ∧
    (endEvent p (moveMode .FLOAT p)).bc.absorbTaper = none ∧ ChargerMoves .FLOAT p (endEvent p (moveMode .FLOAT p)) := by
  have hleaves : p.bc.inForce ≠ .FLOAT := by simp [hm]
  obtain ⟨htaper, htime, -⟩ := moveMode_timers hleaves
  rw [endEvent_bc_absorbTime, endEvent_bc_absorbTaper]
  exact ⟨htime, htaper, moveMode_event hleaves⟩

/-- On leaving FLOAT its low run is cleared (R143). -/
theorem bulk_event (hm : p.bc.inForce = .FLOAT) :
    (endEvent p (moveMode .BULK p)).bc.floatLow = none ∧ ChargerMoves .BULK p (endEvent p (moveMode .BULK p)) := by
  have hleaves : p.bc.inForce ≠ .BULK := by simp [hm]
  obtain ⟨-, -, hlow⟩ := moveMode_timers hleaves
  rw [endEvent_bc_floatLow]
  exact ⟨hlow, moveMode_event hleaves⟩

end

end Sys2Proof.Machine
end

section
namespace Sys2Proof.Machine

/-- Settles O52: each timer's end, and for those of the charger the one transition that they share. -/
theorem chargerTimersAct : Obligations.ChargerTimersAct := by
  intro s hon moves floats
  have hmoves (m : ChargerMode) (t : State) (h : ChargerMoves m s.found t.part) : moves m t := by
    obtain ⟨hsoc, hlines, hrestores, hframe⟩ := h
    exact ⟨hsoc, hlines, hrestores, hframe⟩
  have hfloats (hm : s.found.bc.inForce = .ABSORB) (t : State) (ht : t.part = endEvent s.found (moveMode .FLOAT s.found)) :
      floats t := by
    obtain ⟨htime, htaper, hmove⟩ := float_event hm
    rw [← ht] at htime htaper hmove
    exact ⟨htime, htaper, hmoves .FLOAT t hmove⟩
  refine ⟨fun hr => ⟨_, event_on hon, ?_⟩, fun hr => ⟨_, event_on hon, ?_⟩, fun ht hm => ⟨_, event_on hon, hfloats hm _ ?_⟩,
    fun ht hok hm => ⟨_, event_on hon, hfloats hm _ ?_⟩, fun ht hm => ⟨_, event_on hon, ?_⟩⟩
  · dsimp only
    exact taperResync_event hr
  · dsimp only
    exact socPeriodicWrite_event hr
  · rw [absorbTaperExpiry_of_absorb ht hm]
  · rw [absorbTimeExpiry_of_absorb ht hok hm]
  · rw [floatLowExpiry_of_float ht hm]
    obtain ⟨hlow, hmove⟩ := bulk_event hm
    refine ⟨?_, hmoves .BULK _ hmove⟩
    dsimp only
    exact hlow

end Sys2Proof.Machine
end

section
/-! PROOFS. The battery test begins, is suspended and resumes (R146 to R148, R151; O53). -/

namespace Sys2Proof.Machine

/-! ### A test begins (R147) -/

/-- A test RUNNING as R147 begins it: the load on, the charger OFF, and the mode it leaves to restore. -/
structure TestRuns (restore : ChargerMode) (b : Battery) : Prop where
  state : b.test.state = .RUNNING
  load : b.load = true
  mode : b.mode = .OFF
  restore : b.test.restore = some restore

section
variable (b p : Part)

theorem beginTest_runs : TestRuns p.bc.mode (beginTest p).bc := ⟨rfl, rfl, rfl, rfl⟩

/-- The readings of a first step are all else that a beginning changes of the test. -/
theorem beginTest_keeps : (beginTest p).bc.test.origin = p.bc.test.origin ∧ (beginTest p).bc.test.tag = p.bc.test.tag ∧
    (beginTest p).bc.test.steps = p.bc.test.steps := by
  simp only [beginTest]
  split <;> exact ⟨rfl, rfl, rfl⟩

theorem beginTest_eq : ∃ c, beginTest p = { p with bc := c } := ⟨_, rfl⟩

/-- With no cause at hand, the end of the event leaves a test that has begun as it is. -/
theorem endEvent_beginTest_bc {p : Part} (hc : testCause p = false) (hw : p.nu.waiting = []) :
    (endEvent b (beginTest p)).bc = (beginTest p).bc := by
  obtain ⟨c, hp⟩ := beginTest_eq p
  rw [hp]
  exact endEvent_bc_of_noCause b (p := { p with bc := c }) hc hw

end

/-! ### A test is set up (R146, R148) -/

/-- The part with a new test in its record. -/
def withTest (o : TestOrigin) (tag : Option Byte) (p : Part) : Part := { p with bc := { p.bc with test := newTest o tag } }

section
variable {o : TestOrigin} {tag : Option Byte} {p : Part}

theorem setUpTest_begins (h : testCause p = false) : setUpTest o tag p = beginTest (withTest o tag p) :=
  if_neg (Bool.eq_false_iff.1 h)

theorem setUpTest_suspended (h : testCause p = true) : setUpTest o tag p = withTest o tag p := if_pos h

theorem setUpTest_eq (o : TestOrigin) (tag : Option Byte) (p : Part) : ∃ c, setUpTest o tag p = { p with bc := c } := by
  cases h : testCause p with
  | true => exact ⟨_, setUpTest_suspended h⟩
  | false =>
    obtain ⟨c, hc⟩ := beginTest_eq (withTest o tag p)
    exact ⟨c, (setUpTest_begins h).trans hc⟩

end

/-! ### Steps at the battery alone -/

/-- The battery whose suspended test has lost its progress (R148). -/
def Battery.withoutProgress (b : Battery) : Battery :=
  { b with test := { b.test with steps := 0, before := none, minimum := none, suspendedMs := Config.suspendLimit } }

theorem endEvent_frame_of_bc (p : Part) (c : Battery) : sameExcept Block.watch p (endEvent p { p with bc := c }) :=
  (sameExcept_bc p c).trans (endEvent_frame_of_recs rfl)

section
variable {p : Part}

/-- TEST_RESUME (R148). -/
theorem testResume_event (h : resumeDue p = true) (hw : p.nu.waiting = []) : TestRuns p.bc.mode (endEvent p (testResume p)).bc ∧
    (endEvent p (testResume p)).bc.test.steps = p.bc.test.steps ∧ sameExcept Block.watch p (endEvent p (testResume p)) := by
  have hcause : testCause p = false := by
    simp only [resumeDue, Bool.and_eq_true, Bool.not_eq_true'] at h
    exact h.2
  have hresume : testResume p = beginTest p := if_pos h
  obtain ⟨c, hc⟩ := beginTest_eq p
  obtain ⟨-, -, hsteps⟩ := beginTest_keeps p
  refine ⟨?_, ?_, ?_⟩
  · rw [hresume, endEvent_beginTest_bc p hcause hw]
    exact beginTest_runs p
  · rw [hresume, endEvent_test_steps, hsteps]
  · rw [hresume, hc]
    exact endEvent_frame_of_bc p c

/-- PERIODIC_TEST_BEGIN (R151). -/
theorem periodicTestBegin_event (h : periodicDue p = true) (hw : p.nu.waiting = []) :
    TestRuns p.bc.mode (endEvent p (periodicTestBegin p)).bc ∧
      (endEvent p (periodicTestBegin p)).bc.test.origin = some .PERIODIC ∧
      (endEvent p (periodicTestBegin p)).bc.test.steps = 0 ∧ sameExcept Block.watch p (endEvent p (periodicTestBegin p)) := by
  have hcause : testCause p = false := by
    simp only [periodicDue, Bool.and_eq_true, Bool.not_eq_true'] at h
    exact h.2
  have hbegin : periodicTestBegin p = beginTest (withTest .PERIODIC none p) := (if_pos h).trans (setUpTest_begins hcause)
  obtain ⟨c, hc⟩ := setUpTest_eq .PERIODIC none p
  obtain ⟨horigin, -, hsteps⟩ := beginTest_keeps (withTest .PERIODIC none p)
  refine ⟨?_, ?_, ?_, ?_⟩
  · rw [hbegin, endEvent_beginTest_bc p (p := withTest .PERIODIC none p) hcause hw]
    exact beginTest_runs (withTest .PERIODIC none p)
  · rw [hbegin, endEvent_test_origin, horigin]
    rfl
  · rw [hbegin, endEvent_test_steps, hsteps]
    rfl
  · rw [hbegin, ← setUpTest_begins hcause, hc]
    exact endEvent_frame_of_bc p c

/-- TEST_SUSPEND_LIMIT: the progress is discarded (R148). -/
theorem testSuspendLimit_event (h : p.bc.test.state = .SUSPENDED) :
    (endEvent p (testSuspendLimit p)).bc.test =
        { p.bc.test with steps := 0, before := none, minimum := none, suspendedMs := 600000 } ∧
      sameExcept Block.watch p (endEvent p (testSuspendLimit p)) := by
  have hlimit : testSuspendLimit p = { p with bc := p.bc.withoutProgress } := if_pos h
  have hrun : p.bc.withoutProgress.testRunning = false := by simp [Battery.withoutProgress, Battery.testRunning, h]
  rw [hlimit, endEvent_bc_of_notRunning p (p := { p with bc := p.bc.withoutProgress }) hrun]
  exact ⟨rfl, endEvent_frame_of_bc p p.bc.withoutProgress⟩

/-! ### The hour of the test interval (R151) -/

/-- The part with an hour more in its test interval counter. -/
def hourCounted (p : Part) : Part := { p with bc := { p.bc with hours := min 720 (p.bc.hours + 1), intervalMs := 0 } }

theorem testIntervalHour_of_runs (hs : p.bc.supply = true) (hr : p.bc.partState = .RUN) :
    testIntervalHour p = judgePosting (retain .HOURS (hourCounted p)) :=
  if_pos (by simp [Battery.intervalRuns, hs, hr])

/-- The posting is all that its judgement changes: it is set once the counter reaches the test interval. -/
theorem judgePosting_eq (p : Part) : judgePosting p =
    { p with bc := { p.bc with posted := p.bc.posted || decide (p.pu.unit.testHours ≤ p.bc.hours) } } := by
  unfold judgePosting
  split
  · next h => simp [h]
  · next h => simp [h]

theorem testIntervalHour_event (hs : p.bc.supply = true) (hr : p.bc.partState = .RUN) :
    (endEvent p (testIntervalHour p)).bc.hours = min 720 (p.bc.hours + 1) ∧ (endEvent p (testIntervalHour p)).bc.intervalMs = 0 ∧
      (endEvent p (testIntervalHour p)).rs.hours.busy = true ∧
      ((endEvent p (testIntervalHour p)).bc.posted = true ↔
        p.bc.posted = true ∨ p.pu.unit.testHours ≤ min 720 (p.bc.hours + 1)) ∧
      sameExcept (.rs :: Block.watch) p (endEvent p (testIntervalHour p)) := by
  have hbusy : ((endEvent p (judgePosting (retain .HOURS (hourCounted p)))).rs.get .HOURS).busy = true := by
    rw [endEvent_rs_get _ _ (by decide), judgePosting_eq]
    exact retain_busy .HOURS (hourCounted p)
  have hframe : sameExcept (.rs :: Block.watch) p (judgePosting (retain .HOURS (hourCounted p))) := by
    rw [judgePosting_eq]
    exact ((sameExcept_bc_rs p _).trans (retain_frame .HOURS (hourCounted p))).trans (sameExcept_bc_rs _ _)
  rw [testIntervalHour_of_runs hs hr, endEvent_bc_hours, endEvent_bc_intervalMs, endEvent_bc_posted]
  refine ⟨?_, ?_, hbusy, ?_, hframe.trans (endEvent_frame _ _)⟩
  · rw [judgePosting_eq]
    rfl
  · rw [judgePosting_eq]
    rfl
  · rw [judgePosting_eq]
    simp [hourCounted]

end

end Sys2Proof.Machine
end

section
/-! PROOFS. The steps of a battery test and its result (R147, R150; O53). -/

namespace Sys2Proof.Machine

/-! ### The result (R147, R150) -/

/-- The result of a test, by the drop of its readings. -/
def TestRec.resultAt (t : TestRec) (u : UnitRec) : TestResult := testResult u (t.before.getD 0 - t.minimum.getD 0)

/-- The battery as a test that has taken its tenth step leaves it, before the energy level is judged. -/
def judgedBattery (t : TestRec) (p : Part) : Battery :=
  let res := t.resultAt p.pu.unit
  { p.bc with
    load := false, mode := p.bc.inForce
    test := { t with state := .DONE res, restore := none, step := none, drop := some (t.before.getD 0 - t.minimum.getD 0) }
    health := res.health, posted := false, hours := 0, intervalMs := 0 }

/-- The part with the result at the battery, in the store, and in the energy level. -/
def resultJudged (t : TestRec) (p : Part) : Part := judgeLevel (retain .HOURS (retain .HEALTH { p with bc := judgedBattery t p }))

section
variable (t : TestRec) (p : Part)

theorem testEnd_steady (r : TestResult) : Steady p (testEnd t r p) := by
  unfold testEnd
  split
  · exact send_steady _ _ _
  · exact .refl p

/-- What follows the judgements is reports and an END message (R149, R150). -/
theorem endTest_steady : Steady (resultJudged t p) (endTest t p) := by
  have hreport (q : Part) (b : List Byte) : Steady q (enterReport .BATTERY_TEST_RESULT none b q) := enterReport_steady _ _ _ _
  simp only [endTest]
  refine .after (testEnd_steady _ _ _) (.ite (fun _ => ?_) fun _ => hreport _ _)
  exact (enterReport_steady _ _ _ _).after (hreport _ _)

theorem endTest_bc_resultJudged : (endTest t p).bc = (resultJudged t p).bc := by
  simp only [endTest, testEnd_bc]
  split
  · rw [enterReport_bc, enterReport_bc]
    rfl
  · rw [enterReport_bc]
    rfl

theorem endTest_bc : ∃ l k w, (endTest t p).bc = { judgedBattery t p with level := l, heater := k, wait := w } := by
  rw [endTest_bc_resultJudged]
  exact judgeLevel_bc_of_closed (p := retain .HOURS (retain .HEALTH { p with bc := judgedBattery t p })) rfl

theorem endTest_frame : sameExcept (.rs :: Block.watch) p (endTest t p) := by
  have hretained : sameExcept (.rs :: Block.watch) p (retain .HOURS (retain .HEALTH { p with bc := judgedBattery t p })) :=
    ((sameExcept_bc_rs p _).trans (retain_frame _ _)).trans (retain_frame _ _)
  exact (hretained.trans (judgeLevel_frame _)).trans (endTest_steady t p).frame

/-- The test is DONE, so that the end of the event leaves its result. -/
theorem endTest_event (b : Part) : (endEvent b (endTest t p)).bc.test = (judgedBattery t p).test ∧
    (endEvent b (endTest t p)).bc.health = (t.resultAt p.pu.unit).health ∧ (endEvent b (endTest t p)).bc.load = false ∧
    (endEvent b (endTest t p)).bc.hours = 0 ∧ (endEvent b (endTest t p)).bc.posted = false := by
  obtain ⟨l, k, w, hbc⟩ := endTest_bc t p
  have hrun : (endTest t p).bc.testRunning = false := by rw [hbc]; rfl
  rw [endEvent_bc_of_notRunning b hrun, hbc]
  exact ⟨rfl, rfl, rfl, rfl, rfl⟩

end

/-! ### A step (R147) -/

/-- The test record with one step more and the least voltage so far. -/
def steppedTest (p : Part) : TestRec :=
  let volts := (p.bc.vals.map fun v => v.voltage).getD 0
  { p.bc.test with minimum := some (min (p.bc.test.minimum.getD volts) volts), steps := p.bc.test.steps + 1 }

/-- The part as a step other than the tenth leaves it. -/
def testStepped (p : Part) : Part := { p with bc := { p.bc with test := { steppedTest p with step := some Config.testStep } } }

section
variable {p : Part} (h : p.bc.testRunning = true)
include h

theorem testStepComplete_goesOn (hs : p.bc.test.steps + 1 < 10) : testStepComplete p = testStepped p :=
  (if_pos h).trans (if_pos hs)

theorem testStepComplete_ends (hs : ¬ p.bc.test.steps + 1 < 10) : testStepComplete p = endTest (steppedTest p) p :=
  (if_pos h).trans (if_neg hs)

/-- Each step counts one, the tenth as well. -/
theorem testStepComplete_counts : (endEvent p (testStepComplete p)).bc.test.steps = p.bc.test.steps + 1 ∧
    sameExcept (.rs :: Block.watch) p (endEvent p (testStepComplete p)) := by
  by_cases hs : p.bc.test.steps + 1 < 10
  · rw [testStepComplete_goesOn h hs, endEvent_test_steps]
    exact ⟨rfl, (sameExcept_bc_rs p _).trans (endEvent_frame _ _)⟩
  · rw [testStepComplete_ends h hs]
    obtain ⟨htest, -⟩ := endTest_event (steppedTest p) p p
    exact ⟨by rw [htest]; rfl, (endTest_frame _ _).trans (endEvent_frame _ _)⟩

/-- The tenth step judges the drop from the voltage before the test to the least voltage (R147). -/
theorem testStepComplete_judges (hs : p.bc.test.steps = 9) {b m v : Nat} (hb : p.bc.test.before = some b)
    (hm : p.bc.test.minimum = some m) (hv : (p.bc.vals.map fun w => w.voltage) = some v) :
    (endEvent p (testStepComplete p)).bc.test.state = .DONE (testResult p.pu.unit (b - min m v)) ∧
      (endEvent p (testStepComplete p)).bc.test.drop = some (b - min m v) ∧
      (endEvent p (testStepComplete p)).bc.health = (testResult p.pu.unit (b - min m v)).health ∧
      (endEvent p (testStepComplete p)).bc.load = false ∧ (endEvent p (testStepComplete p)).bc.hours = 0 ∧
      (endEvent p (testStepComplete p)).bc.posted = false := by
  have hdrop : (steppedTest p).before.getD 0 - (steppedTest p).minimum.getD 0 = b - min m v := by
    simp [steppedTest, hb, hm, hv]
  rw [testStepComplete_ends h (by omega)]
  obtain ⟨htest, hhealth, hload, hhours, hposted⟩ := endTest_event (steppedTest p) p p
  rw [htest, hhealth, judgedBattery, TestRec.resultAt, hdrop]
  exact ⟨rfl, rfl, rfl, hload, hhours, hposted⟩

end

end Sys2Proof.Machine
end

section
/-! PROOFS. BATTERY TEST as its link brings it (R146; O53). -/

namespace Sys2Proof.Machine

/-- The origin of a test by its link (R146). -/
def linkOrigin (l : Link) : TestOrigin := if l = .CREW then .CREW_LINK else .RADIO_LINK

section
variable {l : Link} {tag : Byte} {p : Part}

theorem batteryTestRequest_refused {c : AnswerCode} (h : testRefusal p = some c) : batteryTestRequest l tag p = (p, reply c) := by
  simp [batteryTestRequest, h]

theorem batteryTestRequest_started (h : testRefusal p = none) : batteryTestRequest l tag p =
    (setUpTest (linkOrigin l) (some tag) p, reply .STARTED) := by
  simp [batteryTestRequest, h, linkOrigin]

/-- The checks and the causes are the same for the request under answer. -/
theorem passedPart_testRefusal (l : Link) (w : WaitReq) (p : Part) : testRefusal (passedPart l w p) = testRefusal p := by
  simp [testRefusal, Part.measOk]

theorem passedPart_testCause (l : Link) (w : WaitReq) (p : Part) : testCause (passedPart l w p) = testCause p :=
  testCause_congr (by simp) (by simp)

end

/-- The part that a BATTERY TEST leaves which makes the battery `c`. -/
def batteryAnswered (l : Link) (tag : Byte) (code : AnswerCode) (c : Battery) (p : Part) : Part :=
  answeredPart l ⟨tag, .batteryTest⟩ code [] p { passedPart l ⟨tag, .batteryTest⟩ p with bc := c }

section
variable (l : Link) (tag : Byte) (code : AnswerCode) (c : Battery) {p : Part}

theorem batteryAnswered_frame (p : Part) : sameExcept (.pu :: Block.watch) p (batteryAnswered l tag code c p) :=
  sameExcept_of (by decide) (by simp [batteryAnswered]) (by simp [batteryAnswered]) (by simp [batteryAnswered])
    (by simp [batteryAnswered]) (by simp [batteryAnswered]) (.inl (by decide))
    (.inr ((answeredPart_rs (by simp)).trans (by simp)))

theorem batteryAnswered_answered (h : (p.li.get l).powered = true) :
    answered l .batteryTest tag code [] p (batteryAnswered l tag code c p) :=
  answeredPart_answered ⟨tag, .batteryTest⟩ code [] h (.of_li rfl)

theorem batteryAnswered_test_origin (p : Part) : (batteryAnswered l tag code c p).bc.test.origin = c.test.origin := by
  simp [batteryAnswered, answeredPart, answer]

theorem batteryAnswered_bc_of_notRunning (h : c.testRunning = false) (p : Part) : (batteryAnswered l tag code c p).bc = c := by
  rw [batteryAnswered, answeredPart, endEvent_bc_of_notRunning p (by simpa [answer] using h)]
  simp [answer]

theorem batteryAnswered_bc_of_noCause (hc : testCause p = false) (hw : p.nu.waiting = []) :
    (batteryAnswered l tag code c p).bc = c := by
  rw [batteryAnswered, answeredPart,
    endEvent_bc_of_noCause p ((testCause_congr (by simp [answer]) (by simp [answer])).trans hc) (by simpa [answer] using hw)]
  simp [answer]

end

/-- The battery as a request that is not refused sets its test up. -/
def startedBattery (l : Link) (tag : Byte) (p : Part) : Battery :=
  (setUpTest (linkOrigin l) (some tag) (passedPart l ⟨tag, .batteryTest⟩ p)).bc

section
variable {s : State} {l : Link} {tag : Byte}

theorem batteryTest_answered (ht : s.taken l .batteryTest) {c : Battery} {code : AnswerCode}
    (hh : batteryTestRequest l tag (passedPart l ⟨tag, .batteryTest⟩ s.found) =
      ({ passedPart l ⟨tag, .batteryTest⟩ s.found with bc := c }, reply code)) :
    exec (.batteryTest l tag) s = .next { s with part := batteryAnswered l tag code c s.found } :=
  request_answered ht rfl (fun _ => rfl) hh

/-- A refused request leaves the battery as it is but for the judgements. -/
theorem batteryTest_refused (ht : s.taken l .batteryTest) {code : AnswerCode} (h : testRefusal s.found = some code) :
    exec (.batteryTest l tag) s = .next { s with part := batteryAnswered l tag code s.found.bc s.found } := by
  refine batteryTest_answered ht ?_
  rw [batteryTestRequest_refused ((passedPart_testRefusal _ _ _).trans h), ← passedPart_bc l ⟨tag, .batteryTest⟩ s.found]

theorem batteryTest_started (ht : s.taken l .batteryTest) (h : testRefusal s.found = none) :
    exec (.batteryTest l tag) s =
      .next { s with part := batteryAnswered l tag .STARTED (startedBattery l tag s.found) s.found } := by
  obtain ⟨c, hc⟩ := setUpTest_eq (linkOrigin l) (some tag) (passedPart l ⟨tag, .batteryTest⟩ s.found)
  refine batteryTest_answered ht ?_
  rw [batteryTestRequest_started ((passedPart_testRefusal _ _ _).trans h), startedBattery, hc]

end

/-- What a request that is not refused makes of the battery (R146, R148): with no cause the test runs, and with one it is SUSPENDED
with nothing read and the lines as they were. -/
structure TestStarts (tag : Byte) (p q : Part) : Prop where
  tag : q.bc.test.tag = some tag
  steps : q.bc.test.steps = 0
  runs : testCause p = false → TestRuns p.bc.mode q.bc
  suspended : testCause p = true → q.bc.test.state = .SUSPENDED ∧ q.bc.test.before = none ∧ q.bc.mode = p.bc.mode

theorem batteryAnswered_starts (l : Link) (tag : Byte) {p : Part} (hw : p.nu.waiting = []) :
    TestStarts tag p (batteryAnswered l tag .STARTED (startedBattery l tag p) p) := by
  let passed := passedPart l ⟨tag, .batteryTest⟩ p
  have hmode : passed.bc.mode = p.bc.mode := congrArg Battery.mode (passedPart_bc _ _ _)
  have hsame : testCause passed = testCause p := passedPart_testCause _ _ _
  cases hc : testCause p with
  | false =>
    have hbattery : startedBattery l tag p = (beginTest (withTest (linkOrigin l) (some tag) passed)).bc :=
      congrArg Part.bc (setUpTest_begins (hsame.trans hc))
    have hbc := batteryAnswered_bc_of_noCause l tag .STARTED (startedBattery l tag p) hc hw
    obtain ⟨-, htag, hsteps⟩ := beginTest_keeps (withTest (linkOrigin l) (some tag) passed)
    refine ⟨?_, ?_, fun _ => ?_, fun h => absurd (h.symm.trans hc) (by decide)⟩
    · rw [hbc, hbattery, htag]
      rfl
    · rw [hbc, hbattery, hsteps]
      rfl
    · rw [hbc, hbattery, ← hmode]
      exact beginTest_runs (withTest (linkOrigin l) (some tag) passed)
  | true =>
    have hbattery : startedBattery l tag p = (withTest (linkOrigin l) (some tag) passed).bc :=
      congrArg Part.bc (setUpTest_suspended (hsame.trans hc))
    have hbc := batteryAnswered_bc_of_notRunning l tag .STARTED (startedBattery l tag p) (by rw [hbattery]; rfl) p
    rw [hbattery] at hbc
    refine ⟨?_, ?_, fun h => absurd (hc.symm.trans h) (by decide), fun _ => ⟨?_, ?_, ?_⟩⟩
    all_goals rw [hbattery, hbc]
    · rfl
    · rfl
    · rfl
    · rfl
    · exact hmode

end Sys2Proof.Machine
end

section
namespace Sys2Proof.Machine

/-- Settles O53: the request by whether a check refuses it, and each step of the test as an event. -/
theorem batteryTestRuns : Obligations.BatteryTestRuns := by
  intro l tag s hon hfound hpart runs
  have hruns (m : ChargerMode) (t : State) (h : TestRuns m t.part.bc) : runs t ∧ t.part.bc.test.restore = some m :=
    ⟨⟨h.state, h.load, h.mode⟩, h.restore⟩
  refine ⟨fun ht => ?_, fun h => ⟨_, ownStep_on hon, ?_⟩, fun h => ⟨_, ownStep_on hon, ?_⟩, fun h => ⟨_, event_on hon, ?_⟩,
    fun h => ⟨_, event_on hon, ?_⟩, fun hs hr => ⟨_, event_on hon, ?_⟩⟩
  · obtain ⟨-, -, -, ⟨hpow, -⟩, -⟩ := id ht
    cases hc : testRefusal s.found with
    | some code =>
      refine ⟨_, batteryTest_refused ht hc, batteryAnswered_frame _ _ _ _ _, fun c h => ?_, fun h => absurd h (by simp)⟩
      obtain rfl : code = c := by simpa using h
      exact ⟨batteryAnswered_answered l tag code _ hpow, batteryAnswered_test_origin l tag code _ _⟩
    | none =>
      refine ⟨_, batteryTest_started ht hc, batteryAnswered_frame _ _ _ _ _, fun c h => absurd h (by simp), fun _ => ?_⟩
      obtain ⟨htag, hsteps, hrun, hsuspended⟩ := batteryAnswered_starts l tag hfound
      exact ⟨batteryAnswered_answered l tag .STARTED _ hpow, htag, hsteps, fun h => hruns _ _ (hrun h), hsuspended⟩
  · obtain ⟨hrun, hsteps, hframe⟩ := testResume_event h hpart
    obtain ⟨hr, hrestore⟩ := hruns s.part.bc.mode { s with part := endEvent s.part (testResume s.part) } hrun
    exact ⟨hr, hsteps, hrestore, hframe⟩
  · obtain ⟨hrun, horigin, hsteps, hframe⟩ := periodicTestBegin_event h hpart
    obtain ⟨hr, -⟩ := hruns s.part.bc.mode { s with part := endEvent s.part (periodicTestBegin s.part) } hrun
    exact ⟨hr, horigin, hsteps, hframe⟩
  · obtain ⟨hsteps, hframe⟩ := testStepComplete_counts h
    refine ⟨hsteps, hframe, fun hs b m v hb hm hv => ?_⟩
    dsimp only
    exact testStepComplete_judges h hs hb hm hv
  · dsimp only
    exact testSuspendLimit_event h
  · dsimp only
    exact testIntervalHour_event hs hr

end Sys2Proof.Machine
end

section
/-! PROOFS. The Report Unit at a report, a permit call and a record that is sent: the account of its permits, the call block, and the
choice of the record (R158 to R173; O13, O19, O55, O56). -/

namespace Sys2Proof.Machine

/-! ### The account of the Report Unit (R160, R166, R169) -/

/-- What neither a report nor a permit call changes: the permits, the use count, the sender and the status interval. -/
def ReportUnit.account (u : ReportUnit) : Nat × Nat × Bool × Option Nat := (u.permits, u.used, u.sending, u.statusTimer)

/-- From the first unit to the second no call block has ended, and the repeat timer stands at 30 s in a block and is stopped outside
of one where it did so before (R170). -/
structure ReportUnit.KeepsCall (u v : ReportUnit) : Prop where
  called : u.called = true → v.called = true
  timer : u.callTimer = (if u.called then some 30000 else none) → v.callTimer = if v.called then some 30000 else none

theorem ReportUnit.KeepsCall.refl (u : ReportUnit) : u.KeepsCall u := ⟨id, id⟩

theorem ReportUnit.KeepsCall.trans {u v w : ReportUnit} (h : u.KeepsCall v) (k : v.KeepsCall w) : u.KeepsCall w :=
  ⟨fun hu => k.called (h.called hu), fun hu => k.timer (h.timer hu)⟩

/-- The Report Unit as a permit call leaves it (R170). -/
def ReportUnit.calling (u : ReportUnit) : ReportUnit := { u with called := true, callTimer := some 30000, depthMark := false }

/-- The part with another Report Unit. -/
def withReports (u : ReportUnit) (p : Part) : Part := { p with ru := u }

@[simp] theorem withReports_ru (u : ReportUnit) (p : Part) : (withReports u p).ru = u := rfl

theorem withReports_frame (u : ReportUnit) (p : Part) : sameExcept [.ru, .li] p (withReports u p) := fun b hb => by
  cases b <;> simp at hb <;> rfl

section
variable (p : Part)

theorem judgeCall_ru : (judgeCall p).ru = if p.ru.callDue p.pu.unit.callThreshold then p.ru.calling else p.ru := by
  unfold judgeCall
  split
  · rw [send_ru]
    rfl
  · rfl

theorem judgeSending_ru : (judgeSending p).ru = p.ru ∨ (judgeSending p).ru = p.ru.calling := by
  unfold judgeSending
  split
  · exact .inl rfl
  · rw [judgeCall_ru]
    split
    · exact .inr rfl
    · exact .inl rfl

theorem judgeCall_account : (judgeCall p).ru.account = p.ru.account := by
  rw [judgeCall_ru]
  split <;> rfl

/-- What a permit call keeps, the judgement of sending keeps. -/
theorem judgeSending_keeps {β : Type} (g : ReportUnit → β) (h : ∀ u, g u.calling = g u) : g (judgeSending p).ru = g p.ru := by
  rcases judgeSending_ru p with hru | hru
  · rw [hru]
  · rw [hru, h]

theorem judgeSending_account : (judgeSending p).ru.account = p.ru.account := judgeSending_keeps p _ fun _ => rfl

theorem ReportUnit.keepsCall_calling (u : ReportUnit) : u.KeepsCall u.calling := ⟨fun _ => rfl, fun _ => rfl⟩

theorem judgeCall_keepsCall : p.ru.KeepsCall (judgeCall p).ru := by
  rw [judgeCall_ru]
  split
  · exact p.ru.keepsCall_calling
  · exact .refl _

theorem judgeSending_keepsCall : p.ru.KeepsCall (judgeSending p).ru := by
  rcases judgeSending_ru p with h | h
  · exact h ▸ .refl _
  · exact h ▸ p.ru.keepsCall_calling

end

/-! ### A report as it is entered (R160 to R163) -/

section
variable {k : ReportKind} {s : Option PoleSet} {b : List Byte} {p : Part}

/-- A report that a queued record takes. -/
theorem enterReport_merges (h : p.ru.queue.any (mergesInto k s) = true) :
    (enterReport k s b p).ru = { p.ru with queue := mergeInto k s p.tb b p.ru.queue } := by
  rw [enterReport, if_pos h]

/-- A report that joins a queue with room. -/
theorem enterReport_joins (h : p.ru.queue.any (mergesInto k s) = false) (hroom : p.ru.queue.length < 32) :
    enterReport k s b p = judgeSending (withReports (p.ru.join p.ru.queue k s p.tb b) p) := by
  rw [enterReport, if_neg (by simp [h]), if_pos (show _ < Config.queueMax from hroom)]
  rfl

/-- A report for which a full queue makes room. -/
theorem enterReport_replaces (h : p.ru.queue.any (mergesInto k s) = false) (hfull : 32 ≤ p.ru.queue.length) {room : List Report}
    (hroom : makeRoom p.ru.queue k = some room) :
    enterReport k s b p = judgeSending (withReports { p.ru.join room k s p.tb b with gapPending := true } p) := by
  rw [enterReport, if_neg (by simp [h]), if_neg (show ¬ _ < Config.queueMax from Nat.not_lt.2 hfull), hroom]
  rfl

/-- A report that a full queue discards. -/
theorem enterReport_discards (h : p.ru.queue.any (mergesInto k s) = false) (hfull : 32 ≤ p.ru.queue.length)
    (hroom : makeRoom p.ru.queue k = none) : (enterReport k s b p).ru = { p.ru with gapPending := true } := by
  rw [enterReport, if_neg (by simp [h]), if_neg (show ¬ _ < Config.queueMax from Nat.not_lt.2 hfull), hroom]

theorem ReportUnit.join_account (u : ReportUnit) (q : List Report) (k : ReportKind) (s : Option PoleSet) (t : Stamp)
    (b : List Byte) :
    (u.join q k s t b).account = u.account := by
  unfold join account endBlock
  split <;> rfl

theorem ReportUnit.join_gapPending (u : ReportUnit) (q : List Report) (k : ReportKind) (s : Option PoleSet) (t : Stamp)
    (b : List Byte) : (u.join q k s t b).gapPending = u.gapPending := by
  unfold join endBlock
  split <;> rfl

/-- Only an EXHAUSTION record ends a call block as it joins (R163). -/
theorem ReportUnit.join_keepsCall (u : ReportUnit) {k : ReportKind} (hk : k ≠ .EXHAUSTION) (q : List Report) (s : Option PoleSet)
    (t : Stamp) (b : List Byte) : u.KeepsCall (u.join q k s t b) := by
  unfold join
  rw [if_neg hk]
  exact ⟨id, id⟩

/-- The four ways of a report: it merges, joins, takes the place of another or is discarded. -/
theorem enterReport_cases (k : ReportKind) (s : Option PoleSet) (b : List Byte) (p : Part) :
    (enterReport k s b p).ru = { p.ru with queue := mergeInto k s p.tb b p.ru.queue } ∨
    (enterReport k s b p).ru = { p.ru with gapPending := true } ∨
    ∃ q gap, enterReport k s b p = judgeSending (withReports { p.ru.join q k s p.tb b with gapPending := gap } p) := by
  cases h : p.ru.queue.any (mergesInto k s) with
  | true => exact .inl (enterReport_merges h)
  | false =>
    by_cases hlen : p.ru.queue.length < 32
    · exact .inr (.inr ⟨_, _, enterReport_joins h hlen⟩)
    · cases hroom : makeRoom p.ru.queue k with
      | some q => exact .inr (.inr ⟨q, true, enterReport_replaces h (Nat.not_lt.1 hlen) hroom⟩)
      | none => exact .inr (.inl (enterReport_discards h (Nat.not_lt.1 hlen) hroom))

theorem enterReport_account (k : ReportKind) (s : Option PoleSet) (b : List Byte) (p : Part) :
    (enterReport k s b p).ru.account = p.ru.account := by
  rcases enterReport_cases k s b p with h | h | ⟨q, gap, h⟩ <;> rw [h]
  · rfl
  · rfl
  · rw [judgeSending_account]
    exact p.ru.join_account q k s p.tb b

theorem enterReport_keepsCall (hk : k ≠ .EXHAUSTION) (s : Option PoleSet) (b : List Byte) (p : Part) :
    p.ru.KeepsCall (enterReport k s b p).ru := by
  rcases enterReport_cases k s b p with h | h | ⟨q, gap, h⟩ <;> rw [h]
  · exact ⟨id, id⟩
  · exact ⟨id, id⟩
  · obtain ⟨hcalled, htimer⟩ := p.ru.join_keepsCall hk q s p.tb b
    have hjoin : p.ru.KeepsCall { p.ru.join q k s p.tb b with gapPending := gap } := ⟨hcalled, htimer⟩
    exact hjoin.trans (judgeSending_keepsCall (withReports _ p))

end

/-! ### The end of an event -/

/-- The judgements at the end of an event report an alarm at most. -/
theorem refresh_account (p : Part) : (refresh p).ru.account = p.ru.account := by
  rcases refresh_reports p with h | ⟨b, q, hq, h⟩ <;> rw [h]
  rw [enterReport_account, hq]

theorem refresh_keepsCall (p : Part) : p.ru.KeepsCall (refresh p).ru := by
  rcases refresh_reports p with h | ⟨b, q, hq, h⟩ <;> rw [h]
  · exact .refl _
  · rw [← hq]
    exact enterReport_keepsCall (by decide) none b q

section
variable {p q : Part}

/-- An event of the Report Unit, its messages and the Battery Controller leaves the sequence records, and so ends with the judgements
alone. -/
theorem endEvent_of_reporting (h : sameExcept [.bc, .ru, .li] p q) : endEvent p q = refresh q :=
  endEvent_of_recs (congrArg Sequencer.recs (h .sq (by decide)))

theorem endEvent_reporting_frame (h : sameExcept [.bc, .ru, .li] p q) : sameExcept Block.watch p (endEvent p q) :=
  (h.mono (by decide)).trans (endEvent_frame_of_recs (congrArg Sequencer.recs (h .sq (by decide))))

theorem endEvent_reporting_account (h : sameExcept [.bc, .ru, .li] p q) : (endEvent p q).ru.account = q.ru.account := by
  rw [endEvent_of_reporting h, refresh_account]

theorem judgeCall_frame (p : Part) : sameExcept [.ru, .li] p (judgeCall p) := by
  intro b hb
  cases b <;> simp at hb <;> simp [Block.same]

theorem judgeSending_frame (p : Part) : sameExcept [.ru, .li] p (judgeSending p) := by
  intro b hb
  cases b <;> simp at hb <;> simp [Block.same]

theorem enterReport_frame (k : ReportKind) (s : Option PoleSet) (b : List Byte) (p : Part) :
    sameExcept [.ru, .li] p (enterReport k s b p) := by
  intro b hb
  cases b <;> simp at hb <;> simp [Block.same]

theorem reportSend_frame (p : Part) : sameExcept [.ru, .li] p (reportSend p) := by
  intro b hb
  cases b <;> simp at hb <;> simp [Block.same]

end

end Sys2Proof.Machine
end

section
/-! PROOFS. A message that has left its link (R167, R186; O13). -/

namespace Sys2Proof.Machine

/-- The first message of a link has left. -/
def messageGone (l : Link) (ms : List Message) (p : Part) : Part :=
  { p with li := p.li.set l { p.li.get l with outbound := ms } }

/-- After the last EXHAUSTION record the Battery Controller may be told (R153). -/
theorem exhaustionSent_eq (p : Part) : ∃ c, exhaustionSent p = { p with bc := c } := by
  unfold exhaustionSent
  split
  · exact ⟨_, rfl⟩
  · exact ⟨p.bc, rfl⟩

section
variable {l : Link} {m : Message} {ms : List Message} {p : Part}

/-- After a REPORT the sender is IDLE; the Battery Controller hears of the last EXHAUSTION record (R167). -/
theorem messageLeft_report {r : Report} (h : (p.li.get l).outbound = .report r :: ms) :
    ∃ c, messageLeft l p = { messageGone l ms p with ru := { p.ru with sending := false }, bc := c } := by
  obtain ⟨c, hc⟩ := exhaustionSent_eq { messageGone l ms p with ru := { p.ru with sending := false } }
  simp only [messageLeft, h]
  split
  · exact ⟨c, hc⟩
  · exact ⟨p.bc, rfl⟩

theorem messageLeft_of_not_report (h : (p.li.get l).outbound = m :: ms) (hm : ∀ r, m ≠ .report r) :
    messageLeft l p = messageGone l ms p := by
  simp only [messageLeft, h]
  cases m
  case report r => exact absurd rfl (hm r)
  all_goals rfl

/-- What every message that leaves does: the rest of its list stays, and the blocks beside the links, the sender and the Battery
Controller are as they were. -/
theorem messageLeft_leaves (h : (p.li.get l).outbound = m :: ms) :
    ((messageLeft l p).li.get l).outbound = ms ∧ sameExcept [.bc, .ru, .li] p (messageLeft l p) ∧
      ∀ r, m = .report r → (messageLeft l p).ru.sending = false := by
  cases m with
  | report r =>
    obtain ⟨c, hc⟩ := messageLeft_report h
    rw [hc]
    refine ⟨by simp [messageGone], fun b hb => ?_, fun _ _ => rfl⟩
    cases b <;> simp at hb <;> rfl
  | _ =>
    rw [messageLeft_of_not_report h (by simp)]
    refine ⟨by simp [messageGone], fun b hb => ?_, by simp⟩
    cases b <;> simp at hb <;> rfl

end

/-- Settles O13: the message leaves its list, and the end of the event only adds messages behind the others. -/
theorem messageLeavesInOrder : Obligations.MessageLeavesInOrder := by
  intro l m ms s hon hout
  obtain ⟨hrest, hframe, hsender⟩ := messageLeft_leaves hout
  have hevent := endEvent_reporting_frame hframe
  refine ⟨_, event_on hon, ?_, fun r hr => ?_, hevent, endEvent_pu _ _ |>.trans (hframe .pu (by decide)), hevent .rs (by decide)⟩
  · obtain ⟨later, hlater⟩ := endEvent_grows s.found (messageLeft l s.found) l
    refine ⟨later, ?_⟩
    dsimp only
    rw [hlater, hrest]
  · exact (congrArg (·.2.2.1) (endEvent_reporting_account hframe)).trans (hsender r hr)

end Sys2Proof.Machine
end

section
/-! PROOFS. The highest class that is sent, and QUEUE POLL (R164, R165, R171; O19). -/

namespace Sys2Proof.Machine

/-! ### The first of an ordered list -/

/-- In an ordered list the first that passes a test is the least of those that do. -/
theorem find?_least {α : Type} {f : α → Bool} {R : α → α → Prop} (hrefl : ∀ a, R a a) {as : List α} (hp : as.Pairwise R) {a b : α}
    (ha : as.find? f = some a) (hb : b ∈ as) (hf : f b = true) : R a b := by
  obtain ⟨-, before, behind, rfl, hbefore⟩ := List.find?_eq_some_iff_append.1 ha
  obtain ⟨-, hlater, -⟩ := List.pairwise_append.1 hp
  rcases List.mem_append.1 hb with hb | hb
  · exact absurd hf (by simpa using hbefore b hb)
  · rcases List.mem_cons.1 hb with rfl | hb
    · exact hrefl b
    · exact (List.pairwise_cons.1 hlater).1 b hb

theorem mem_allClasses (c : ReportClass) : c ∈ allClasses := by cases c <;> decide

/-- The classes stand in the order of their codes (R158, R205). -/
theorem allClasses_ordered : allClasses.Pairwise fun c d => c.code ≤ d.code := by decide

theorem ReportClass.code_inj {c d : ReportClass} (h : c.code = d.code) : c = d := by
  have hall : ∀ c ∈ allClasses, ∀ d ∈ allClasses, c.code = d.code → c = d := by decide
  exact hall c (mem_allClasses c) d (mem_allClasses d) h

theorem ReportClass.optCode_toNat (c : ReportClass) : (optCode ReportClass.code (some c)).toNat = c.code := by cases c <;> rfl

/-! ### The highest class (R164, R171) -/

/-- Whether a record is of a class and sent at the energy level. -/
def ReportUnit.sends (u : ReportUnit) (c : ReportClass) (r : Report) : Bool := r.kind.cls == c && u.sendable r

/-- The highest class among the sendable records. -/
def ReportUnit.highest (u : ReportUnit) : Option ReportClass := allClasses.find? fun c => u.queue.any (u.sends c)

section
variable {u : ReportUnit} {c : ReportClass} {r : Report}

theorem ReportUnit.sends_iff : u.sends c r = true ↔ r.kind.cls = c ∧ u.sendable r = true := by simp [sends]

theorem ReportUnit.any_sends (hr : r ∈ u.queue) (hs : u.sendable r = true) : u.queue.any (u.sends r.kind.cls) = true :=
  List.any_eq_true.2 ⟨r, hr, sends_iff.2 ⟨rfl, hs⟩⟩

theorem ReportUnit.highest_isSome (hr : r ∈ u.queue) (hs : u.sendable r = true) : u.highest.isSome = true :=
  List.find?_isSome.2 ⟨_, mem_allClasses _, any_sends hr hs⟩

theorem ReportUnit.highest_present (h : u.highest = some c) : ∃ r ∈ u.queue, u.sendable r = true ∧ r.kind.cls = c := by
  obtain ⟨r, hr, hs⟩ := List.any_eq_true.1 (List.find?_some (p := fun c => u.queue.any (u.sends c)) h)
  obtain ⟨hc, hs⟩ := sends_iff.1 hs
  exact ⟨r, hr, hs, hc⟩

theorem ReportUnit.highest_le (h : u.highest = some c) (hr : r ∈ u.queue) (hs : u.sendable r = true) : c.code ≤ r.kind.cls.code :=
  find?_least (R := fun c d => c.code ≤ d.code) (fun _ => Nat.le_refl _) allClasses_ordered h (mem_allClasses _) (any_sends hr hs)

end

/-! ### QUEUE POLL (R171) -/

theorem queuePollRequest_reply (p : Part) : (queuePollRequest p).2 =
    some (.DONE, optCode ReportClass.code p.ru.highest :: (classCounts p.ru.queue).map byte ++ [byte p.ru.permits]) := rfl

theorem passRefusal_queuePoll (p : Part) : passRefusal .RADIO .queuePoll p = none := by
  have hc : underLocalControl .queuePoll = true := rfl
  simp [passRefusal, hc]

/-- Settles O19: the poll only reads, and its first byte is that of the highest class among the sendable records. -/
theorem queuePollAnswers : Obligations.QueuePollAnswers := by
  intro tag s hon hf
  refine ⟨optCode ReportClass.code s.found.ru.highest, ?_, fun hnone => ?_, fun r hr hs => ?_, fun hne => ?_⟩
  · refine request_read (r := .queuePoll) hon rfl rfl hf (passRefusal_queuePoll _) rfl ?_
    refine (queuePollRequest_reply _).trans ?_
    rw [passedPart_ru]
  · cases h : s.found.ru.highest with
    | none => rfl
    | some c =>
      obtain ⟨r, hr, hs, -⟩ := ReportUnit.highest_present h
      exact absurd hs (by simp [hnone r hr])
  · obtain ⟨c, hc⟩ := Option.isSome_iff_exists.1 (ReportUnit.highest_isSome hr hs)
    rw [hc]
    refine ⟨by cases c <;> decide, ?_⟩
    rw [ReportClass.optCode_toNat]
    exact ReportUnit.highest_le hc hr hs
  · cases h : s.found.ru.highest with
    | none => exact absurd (by rw [h]; rfl) hne
    | some c =>
      obtain ⟨r, hr, hs, hcls⟩ := ReportUnit.highest_present h
      exact ⟨r, hr, hs, by rw [hcls, ReportClass.optCode_toNat]⟩

end Sys2Proof.Machine
end

section
/-! PROOFS. PERMIT GRANT, the repeated permit call and the status snapshot (R168, R170, R173; O55). -/

namespace Sys2Proof.Machine

/-! ### PERMIT GRANT (R168) -/

/-- The Report Unit that is granted permits. -/
def ReportUnit.granted (u : ReportUnit) (n : Nat) : ReportUnit := { u.endBlock with permits := min 16 (u.permits + n), used := 0 }

/-- The part that a PERMIT GRANT leaves, answered, which makes the Report Unit `u`, before sending and the triggers are judged. -/
def grantAnswered (tag n : Byte) (u : ReportUnit) (code : AnswerCode) (content : List Byte) (p : Part) : Part :=
  setUnder .RADIO none (answer .RADIO tag (.permitGrant n) code content
    (withReports u (passedPart .RADIO ⟨tag, .permitGrant n⟩ p)))

section
variable (tag n : Byte) (u : ReportUnit) (code : AnswerCode) (content : List Byte) (p : Part)

@[simp] theorem grantAnswered_ru : (grantAnswered tag n u code content p).ru = u := by simp [grantAnswered, answer]

@[simp] theorem grantAnswered_sq : (grantAnswered tag n u code content p).sq = p.sq := by simp [grantAnswered, withReports, answer]

/-- The claim timer of the link is all that changes beside the Report Unit and the links (R89). -/
theorem grantAnswered_frame : sameExcept [.pu, .ru, .li] p (grantAnswered tag n u code content p) := by
  intro b hb
  cases b <;> simp at hb <;> simp [Block.same, grantAnswered, withReports, answer]

end

section
variable {n : Byte}

theorem permitGrantRequest_done (h : within 1 16 n.toNat = true) (p : Part) : permitGrantRequest n p =
    (withReports (p.ru.granted n.toNat) p, some (.DONE, [byte (min 16 (p.ru.permits + n.toNat))])) := by
  simp only [permitGrantRequest, h]
  rfl

theorem permitGrantRequest_range (h : within 1 16 n.toNat = false) (p : Part) : permitGrantRequest n p =
    (withReports p.ru p, some (.RANGE, [])) := by
  simp only [permitGrantRequest, h]
  rfl

/-- Sending and the triggers are judged after a grant, and nothing after a refusal. -/
theorem afterAnswer_permitGrant (n : Byte) (p : Part) : sameExcept [.ru, .li] p (afterAnswer (.permitGrant n) p) ∧
    (afterAnswer (.permitGrant n) p).ru.account = p.ru.account ∧ Grows p (afterAnswer (.permitGrant n) p) := by
  simp only [afterAnswer]
  split
  · exact ⟨judgeSending_frame p, judgeSending_account p, judgeSending_grows p⟩
  · exact ⟨.refl _ _, rfl, .refl _⟩

/-- The answer of a request stands in the list of its link, whatever is sent before and after it (R185). -/
theorem answered_of_grows {l : Link} {w : WaitReq} {code : AnswerCode} {content : List Byte} {p q t : Part}
    (hp : (p.li.get l).powered = true) (hq : Grows (passedPart l w p) q)
    (ht : Grows (setUnder l none (answer l w.tag w.req code content q)) t) : answered l w.req w.tag code content p t := by
  obtain ⟨before, hbefore⟩ := hq l
  obtain ⟨behind, hbehind⟩ := ht l
  have hpow : (q.li.get l).powered = true := by rw [hbefore]; simpa using hp
  refine ⟨before, behind, ?_⟩
  rw [hbehind, setUnder_get_self, answer, send_get, if_pos ⟨rfl, hpow⟩, hbefore]
  simp

/-- A PERMIT GRANT that its link takes, by what the Report Unit makes of it: the answer, the account, and what is left. -/
theorem permitGrant_answered {s : State} {tag : Byte} (ht : s.taken .RADIO (.permitGrant n)) {u : ReportUnit} {code : AnswerCode}
    {content : List Byte} (hh : permitGrantRequest n (passedPart .RADIO ⟨tag, .permitGrant n⟩ s.found) =
      (withReports u (passedPart .RADIO ⟨tag, .permitGrant n⟩ s.found), some (code, content))) :
    ∃ t, exec (.permitGrant .RADIO tag n) s = .next t ∧ sameExcept (.pu :: Block.watch) s.found t.part ∧
      t.part.ru.account = u.account ∧ answered .RADIO (.permitGrant n) tag code content s.found t.part := by
  obtain ⟨-, -, -, ⟨hpow, -⟩, -⟩ := id ht
  let q := grantAnswered tag n u code content s.found
  obtain ⟨hjframe, hjaccount, hjgrows⟩ := afterAnswer_permitGrant n q
  have hsq : (afterAnswer (.permitGrant n) q).sq.recs = s.found.sq.recs :=
    congrArg Sequencer.recs ((hjframe .sq (by decide)).trans (grantAnswered_sq _ _ _ _ _ _))
  refine ⟨{ s with part := endEvent s.found (afterAnswer (.permitGrant n) q) }, ?_, ?_, ?_, ?_⟩
  · refine (request_taken ht).trans ?_
    rw [passToOwner_answered (l := .RADIO) (w := ⟨tag, .permitGrant n⟩) hh]
    rfl
  · have hq : sameExcept (.pu :: Block.watch) s.found q := (grantAnswered_frame _ _ _ _ _ _).mono (by decide)
    exact (hq.trans (hjframe.mono (by decide))).trans ((endEvent_frame_of_recs hsq).mono (by decide))
  · dsimp only
    rw [endEvent_of_recs hsq, refresh_account, hjaccount, grantAnswered_ru]
  · exact answered_of_grows (w := ⟨tag, .permitGrant n⟩) hpow (q := withReports u _) (.of_li rfl)
      (hjgrows.trans (endEvent_grows _ _))

end

/-! ### The permit call that is repeated (R170) -/

theorem permitCallRepeatExpiry_of_called {p : Part} (h : p.ru.called = true) :
    permitCallRepeatExpiry p = judgeCall (withReports p.ru.endBlock p) := if_pos h

/-- A call that is due goes out. -/
theorem judgeCall_called {p : Part} (h : p.ru.callDue p.pu.unit.callThreshold = true) : (judgeCall p).ru.called = true := by
  rw [judgeCall_ru, if_pos h]
  rfl

/-- At the expiry of the repeat timer the block ends; a call that is due goes out again, and has the timer at 30 s. -/
theorem permitCallRepeatExpiry_event {p : Part} (h : p.ru.called = true) {t : Part}
    (ht : t = endEvent p (permitCallRepeatExpiry p)) :
    t.ru.permits = p.ru.permits ∧ (t.ru.callTimer = if t.ru.called then some 30000 else none) ∧
      (p.ru.endBlock.callDue p.pu.unit.callThreshold = true → t.ru.called = true) ∧ sameExcept Block.watch p t := by
  let ended := withReports p.ru.endBlock p
  have hframe : sameExcept [.bc, .ru, .li] p (judgeCall ended) :=
    ((withReports_frame p.ru.endBlock p).trans (judgeCall_frame ended)).mono (by decide)
  have hrefresh := refresh_keepsCall (judgeCall ended)
  rw [permitCallRepeatExpiry_of_called h] at ht
  refine ⟨?_, ?_, fun hdue => ?_, ht ▸ endEvent_reporting_frame hframe⟩
  · rw [ht]
    exact congrArg (·.1) ((endEvent_reporting_account hframe).trans (judgeCall_account ended))
  · rw [ht, endEvent_of_reporting hframe]
    exact ((judgeCall_keepsCall ended).trans hrefresh).timer rfl
  · rw [ht, endEvent_of_reporting hframe]
    exact hrefresh.called (judgeCall_called (p := ended) hdue)

/-! ### The status interval (R173) -/

/-- The status interval counter starts again. -/
def statusRestarted (p : Part) : Part := withReports { p.ru with statusTimer := some (p.pu.unit.statusMin * 60000) } p

theorem statusIntervalExpiry_of_running {p : Part} (h : p.ru.statusTimer.isSome = true) :
    statusIntervalExpiry p = enterReport .SNAPSHOT none (snapshotBody p) (statusRestarted p) := by
  obtain ⟨t, ht⟩ := Option.isSome_iff_exists.1 h
  simp only [statusIntervalExpiry, ht]
  rfl

/-- In a queue with room for one more a report of any kind stands, with its body and the moment it was made, and there is room. -/
theorem enterReport_stands {p : Part} (h : p.ru.queue.length < 31) (k : ReportKind) (s : Option PoleSet) (b : List Byte) :
    (enterReport k s b p).ru.queue.length < 32 ∧ ∃ r ∈ (enterReport k s b p).ru.queue, r.kind = k ∧ r.body = b ∧ r.last = p.tb := by
  cases hany : p.ru.queue.any (mergesInto k s) with
  | true =>
    obtain ⟨r, hr, -, hkind, hlast, hbody⟩ := mergeInto_tells (t := p.tb) (b := b) hany
    rw [enterReport_merges hany, length_mergeInto]
    exact ⟨by omega, r, hr, hkind, hbody, hlast⟩
  | false =>
    have hr := (p.ru.mem_join (k := k) (s := s) (t := p.tb) (b := b) p.ru.queue).2 (.inr rfl)
    rw [enterReport_joins hany (by omega), judgeSending_queue, withReports_ru, ReportUnit.join_length]
    exact ⟨by omega, _, hr, rfl, rfl, rfl⟩

/-- At the status interval's expiry the counter starts again, and the snapshot stands in a queue with room. -/
theorem statusIntervalExpiry_event {p : Part} (h : p.ru.statusTimer.isSome = true) {t : Part}
    (ht : t = endEvent p (statusIntervalExpiry p)) :
    t.ru.statusTimer = some (p.pu.unit.statusMin * 60000) ∧ sameExcept Block.watch p t ∧
      (p.ru.queue.length < 31 → ∃ r ∈ t.ru.queue, r.kind = .SNAPSHOT ∧ r.body = snapshotBody p ∧ r.last = p.tb) := by
  have hframe : sameExcept [.bc, .ru, .li] p (enterReport .SNAPSHOT none (snapshotBody p) (statusRestarted p)) :=
    ((withReports_frame _ p).trans (enterReport_frame _ _ _ _)).mono (by decide)
  rw [statusIntervalExpiry_of_running h] at ht
  refine ⟨?_, ht ▸ endEvent_reporting_frame hframe, fun hroom => ?_⟩
  · rw [ht]
    exact congrArg (·.2.2.2) ((endEvent_reporting_account hframe).trans (enterReport_account _ _ _ _))
  · obtain ⟨hlen, r, hr, hkind, hbody, hlast⟩ :=
      enterReport_stands (p := statusRestarted p) hroom .SNAPSHOT none (snapshotBody p)
    rw [ht, endEvent_of_reporting hframe]
    exact ⟨r, mem_refresh_of_mem hlen (by simp [hkind]) hr, hkind, hbody, hlast⟩

/-- Settles O55, command by command: each account and call block by what the judgements after it keep. -/
theorem permitsAndCalls : Obligations.PermitsAndCalls := by
  intro tag n s hon
  refine ⟨fun ht => ?_, fun hcalled => ⟨_, event_on hon, ?_⟩, fun hstatus => ⟨_, event_on hon, ?_⟩⟩
  · cases hn : within 1 16 n.toNat with
    | true =>
      obtain ⟨t, hexec, hframe, haccount, hanswer⟩ := permitGrant_answered (tag := tag) ht (permitGrantRequest_done hn _)
      simp only [within, Bool.and_eq_true, decide_eq_true_eq] at hn
      rw [passedPart_ru] at haccount hanswer
      exact ⟨t, hexec, hframe, fun _ _ => ⟨congrArg (·.1) haccount, congrArg (·.2.1) haccount, hanswer⟩, fun _ => by omega⟩
    | false =>
      obtain ⟨t, hexec, hframe, haccount, hanswer⟩ := permitGrant_answered (tag := tag) ht (permitGrantRequest_range hn _)
      simp only [within, Bool.and_eq_false_iff, decide_eq_false_iff_not] at hn
      rw [passedPart_ru] at haccount
      exact ⟨t, hexec, hframe, fun _ _ => by omega, fun _ => ⟨congrArg (·.1) haccount, hanswer⟩⟩
  · obtain ⟨hpermits, htimer, hdue, hframe⟩ := permitCallRepeatExpiry_event hcalled rfl
    exact ⟨hpermits, fun h => htimer.trans (if_pos h), fun h => htimer.trans (if_neg (Bool.eq_false_iff.1 h)), hdue, hframe⟩
  · exact statusIntervalExpiry_event hstatus rfl

end Sys2Proof.Machine
end

section
/-! PROOFS. The record that is sent (R163, R165, R166; O56). -/

namespace Sys2Proof.Machine

/-! ### The choice (R165) -/

/-- The first record of the first class that has one, as the class is looked for and then the record. -/
theorem firstOfClass_eq (f : ReportClass → Report → Bool) (q : List Report) (cs : List ReportClass) :
    cs.foldr (fun c rest => (q.find? (f c)).orElse fun _ => rest) none =
      (cs.find? fun c => q.any (f c)).bind fun c => q.find? (f c) := by
  induction cs with
  | nil => rfl
  | cons c cs ih =>
    rw [List.foldr_cons, ih]
    cases h : q.find? (f c) with
    | some r =>
      have hany : q.any (f c) = true := List.any_eq_true.2 ⟨r, List.mem_of_find?_eq_some h, List.find?_some h⟩
      simp [hany, h]
    | none =>
      have hany : q.any (f c) = false := by simpa using h
      simp [hany]

section
variable {u : ReportUnit} {c : ReportClass} {r : Report}

theorem Report.isExhaustion_iff : r.isExhaustion = true ↔ r.kind = .EXHAUSTION := by simp [isExhaustion]

/-- The oldest EXHAUSTION record goes first (R163). -/
theorem ReportUnit.choose_of_exhaustion (h : u.queue.find? Report.isExhaustion = some r) : u.choose = some r := by
  simp [choose, h]

/-- Without an EXHAUSTION record it is the oldest of the highest class that is sent. -/
theorem ReportUnit.choose_of_none (h : u.queue.find? Report.isExhaustion = none) :
    u.choose = u.highest.bind fun c => u.queue.find? (u.sends c) := by
  simp only [choose, h]
  exact firstOfClass_eq u.sends u.queue allClasses

/-- A record of a class that is sent is found by its class. -/
theorem ReportUnit.find?_sends (h : classSent u.level c = true) : u.queue.find? (u.sends c) =
    u.queue.find? fun q => q.kind.cls == c := by
  have hsame : u.sends c = fun q => q.kind.cls == c := by
    funext q
    by_cases hq : q.kind.cls = c <;> simp [sends, sendable, hq, h]
  rw [hsame]

/-- What the choice is: the record leaves a queue that holds it (R165). -/
structure ReportUnit.Chosen (u : ReportUnit) (r : Report) : Prop where
  mem : r ∈ u.queue
  exhaustion : ∀ e ∈ u.queue, e.kind = .EXHAUSTION → u.queue.find? (fun q => q.kind == .EXHAUSTION) = some r
  oldest : (∀ e ∈ u.queue, e.kind ≠ .EXHAUSTION) → u.queue.find? (fun q => q.kind.cls == r.kind.cls) = some r
  sent : (∀ e ∈ u.queue, e.kind ≠ .EXHAUSTION) → classSent u.level r.kind.cls = true
  highest : (∀ e ∈ u.queue, e.kind ≠ .EXHAUSTION) →
    ∀ e ∈ u.queue, classSent u.level e.kind.cls = true → r.kind.cls.code ≤ e.kind.cls.code

theorem ReportUnit.choose_chosen (h : u.choose = some r) : u.Chosen r := by
  cases hex : u.queue.find? Report.isExhaustion with
  | some e =>
    obtain rfl : e = r := Option.some.inj ((choose_of_exhaustion hex).symm.trans h)
    have hmem := List.mem_of_find?_eq_some hex
    have hkind : e.kind = .EXHAUSTION := Report.isExhaustion_iff.1 (List.find?_some hex)
    exact ⟨hmem, fun _ _ _ => hex, fun hno => absurd hkind (hno e hmem), fun hno => absurd hkind (hno e hmem),
      fun hno => absurd hkind (hno e hmem)⟩
  | none =>
    obtain ⟨c, hc, hr⟩ := Option.bind_eq_some_iff.1 ((choose_of_none hex).symm.trans h)
    have hmem := List.mem_of_find?_eq_some hr
    obtain ⟨rfl, hsent⟩ := sends_iff.1 (List.find?_some hr)
    have hno (e : Report) (he : e ∈ u.queue) (hk : e.kind = .EXHAUSTION) : False :=
      List.find?_eq_none.1 hex e he (Report.isExhaustion_iff.2 hk)
    exact ⟨hmem, fun e he hk => (hno e he hk).elim, fun _ => (find?_sends hsent).symm.trans hr, fun _ => hsent,
      fun _ e he hs => highest_le hc he hs⟩

/-- Where a record is to be sent, there is one to choose, and a permit (R166). -/
theorem ReportUnit.choose_of_due (h : u.sendDue = true) : 1 ≤ u.permits ∧ ∃ r, u.choose = some r := by
  simp only [sendDue, anySendable, Bool.and_eq_true, Bool.or_eq_true, List.any_eq_true, decide_eq_true_eq] at h
  obtain ⟨⟨-, hpermit⟩, hrecord⟩ := h
  refine ⟨hpermit, ?_⟩
  cases hex : u.queue.find? Report.isExhaustion with
  | some r => exact ⟨r, choose_of_exhaustion hex⟩
  | none =>
    obtain ⟨r, hr, hs⟩ := hrecord.resolve_right fun ⟨r, hr, hk⟩ => List.find?_eq_none.1 hex r hr hk
    obtain ⟨c, hc⟩ := Option.isSome_iff_exists.1 (highest_isSome hr hs)
    obtain ⟨e, he, hes, hec⟩ := highest_present hc
    obtain ⟨a, ha⟩ := Option.isSome_iff_exists.1 (List.find?_isSome.2 ⟨e, he, sends_iff.2 ⟨hec, hes⟩⟩)
    exact ⟨a, by rw [choose_of_none hex, hc, Option.bind_some, ha]⟩

end

/-! ### The record leaves as a REPORT message (R166) -/

/-- The Report Unit that sends a record. -/
def ReportUnit.sent (u : ReportUnit) (r : Report) : ReportUnit :=
  { u with
    queue := u.queue.erase r, gapPending := false, permits := u.permits - 1, used := u.used + 1, sending := true
    depthMark := u.depthMark && decide (16 ≤ (u.queue.erase r).length) }

/-- The part in which a REPORT message stands in the outbound list of the radio link. -/
def reportHanded (r : Report) (p : Part) : Part :=
  send .RADIO (.report { r with gap := p.ru.gapPending }) (withReports (p.ru.sent r) p)

section
variable {r : Report} {p : Part}

theorem reportSend_of_due (h : p.ru.sendDue = true) (hr : p.ru.choose = some r) : reportSend p = judgeCall (reportHanded r p) := by
  rw [reportSend, if_pos h, hr]
  rfl

@[simp] theorem reportHanded_ru (r : Report) (p : Part) : (reportHanded r p).ru = p.ru.sent r := by simp [reportHanded]

theorem mem_reportHanded (h : p.li.radio.powered = true) :
    .report { r with gap := p.ru.gapPending } ∈ ((reportHanded r p).li.get .RADIO).outbound := by
  rw [reportHanded, send_get, if_pos ⟨rfl, h⟩]
  exact List.mem_append_right _ List.mem_cons_self

theorem judgeCall_queue (p : Part) : (judgeCall p).ru.queue = p.ru.queue := by
  rw [judgeCall_ru]
  split <;> rfl

end

/-- REPORT_SEND where it is due, as the first part of O56 has it. -/
theorem reportSend_sends {s : State} (hon : s.part.on = true) (hdue : s.part.ru.sendDue = true) :
    ∃ t r, exec .reportSend s = .next t ∧ s.part.ru.Chosen r ∧ t.part.ru.account =
      (s.part.ru.permits - 1, s.part.ru.used + 1, true, s.part.ru.statusTimer) ∧ 1 ≤ s.part.ru.permits ∧
      (s.part.li.radio.powered = true → .report { r with gap := s.part.ru.gapPending } ∈ t.part.li.radio.outbound) ∧
      (reportSend s.part).ru.queue = s.part.ru.queue.erase r ∧ sameExcept Block.watch s.part t.part ∧
      t.part.dc.poles = s.part.dc.poles := by
  obtain ⟨hpermit, r, hr⟩ := ReportUnit.choose_of_due hdue
  have hsend := reportSend_of_due hdue hr
  have hframe : sameExcept [.bc, .ru, .li] s.part (reportSend s.part) := (reportSend_frame s.part).mono (by decide)
  refine ⟨_, r, ownStep_on hon, ReportUnit.choose_chosen hr, ?_, hpermit, fun hpow => ?_, ?_, endEvent_reporting_frame hframe, ?_⟩
  · refine (endEvent_reporting_account hframe).trans ?_
    rw [hsend, judgeCall_account, reportHanded_ru]
    rfl
  · refine (endEvent_grows s.part (reportSend s.part)).mem (l := .RADIO) ?_
    rw [hsend]
    exact (judgeCall_grows _).mem (mem_reportHanded hpow)
  · rw [hsend, judgeCall_queue, reportHanded_ru]
    rfl
  · exact (endEvent_dc_poles _ _).trans (congrArg Drive.poles (hframe .dc (by decide)))

end Sys2Proof.Machine
end

section
/-! PROOFS. The queue at a report: the place of a merge and of a discard (R161 to R163; O56). -/

namespace Sys2Proof.Machine

/-! ### Places in the queue -/

section
variable {k : ReportKind} {s : Option PoleSet} {r : Report}

theorem mergesInto_iff : mergesInto k s r = true ↔ (k.cls = .ENERGY ∨ k.cls = .STATUS) ∧ r.kind = k ∧ r.poles = s := by
  simp [mergesInto, and_assoc]

/-- A merge takes the first record that it may, in its place (R161). -/
theorem mergeInto_eq_set {t : Stamp} {b : List Byte} {q : List Report} {i : Nat} (hi : q[i]? = some r)
    (hr : mergesInto k s r = true) (hfirst : ∀ e ∈ q.take i, mergesInto k s e = false) : mergeInto k s t b q = q.set i (r.merge t b) := by
  induction q generalizing i with
  | nil => simp at hi
  | cons a q ih =>
    cases i with
    | zero =>
      obtain rfl : a = r := by simpa using hi
      simp [mergeInto, hr]
    | succ i =>
      simp only [List.take_succ_cons, List.mem_cons, forall_eq_or_imp] at hfirst
      obtain ⟨ha, hfirst⟩ := hfirst
      simp [mergeInto, ha, ih (by simpa using hi) hfirst]

theorem dropFirst_eq_eraseIdx {f : Report → Bool} {q : List Report} {i : Nat} (hi : q[i]? = some r) (hr : f r = true)
    (hfirst : ∀ e ∈ q.take i, f e = false) : dropFirst f q = q.eraseIdx i := by
  induction q generalizing i with
  | nil => simp at hi
  | cons a q ih =>
    cases i with
    | zero =>
      obtain rfl : a = r := by simpa using hi
      simp [dropFirst, hr]
    | succ i =>
      simp only [List.take_succ_cons, List.mem_cons, forall_eq_or_imp] at hfirst
      obtain ⟨ha, hfirst⟩ := hfirst
      simp [dropFirst, ha, ih (by simpa using hi) hfirst]

end

/-! ### The room that a full queue makes (R162, R163) -/

section
variable {k : ReportKind} {q : List Report} {r : Report} {i : Nat}

/-- No record is of a lower class than the lowest present, a higher code being a lower class. -/
theorem code_le_lowestClass (h : r ∈ q) : r.kind.cls.code ≤ (lowestClass q).code := by
  have hpresent : (q.any fun e => e.kind.cls == r.kind.cls) = true := List.any_eq_true.2 ⟨r, h, by simp⟩
  have hmem : r.kind.cls ∈ allClasses.reverse := List.mem_reverse.2 (mem_allClasses _)
  obtain ⟨c, hc⟩ := Option.isSome_iff_exists.1
    (List.find?_isSome (p := fun c => q.any fun e => e.kind.cls == c).2 ⟨_, hmem, hpresent⟩)
  rw [lowestClass, hc]
  exact find?_least (R := fun c d => d.code ≤ c.code) (fun _ => Nat.le_refl _) (List.pairwise_reverse.2 allClasses_ordered) hc hmem
    hpresent

theorem exists_lowestClass (h : q ≠ []) : ∃ r ∈ q, r.kind.cls = lowestClass q := by
  simpa using any_lowestClass q h

/-- The lowest class present is that of a record than which none is lower. -/
theorem lowestClass_eq (h : r ∈ q) (hlow : ∀ e ∈ q, e.kind.cls.code ≤ r.kind.cls.code) : lowestClass q = r.kind.cls := by
  obtain ⟨e, he, hcls⟩ := exists_lowestClass (List.ne_nil_of_mem h)
  exact ReportClass.code_inj (Nat.le_antisymm (hcls ▸ hlow e he) (code_le_lowestClass h))

theorem makeRoom_eq (q : List Report) (k : ReportKind) : makeRoom q k =
    if k.cls.code < (lowestClass q).code then some (dropFirst (fun r => r.kind.cls == lowestClass q) q)
    else if k = .EXHAUSTION ∧ (q.any fun r => !r.isExhaustion) = true then some (dropFirst (fun r => !r.isExhaustion) q)
    else none := rfl

/-- The oldest record of a lower class makes room (R162). -/
theorem makeRoom_lower (hi : q[i]? = some r) (hk : k.cls.code < r.kind.cls.code) (hlow : ∀ e ∈ q, e.kind.cls.code ≤ r.kind.cls.code)
    (hfirst : ∀ e ∈ q.take i, e.kind.cls ≠ r.kind.cls) : makeRoom q k = some (q.eraseIdx i) := by
  have hlowest : lowestClass q = r.kind.cls := lowestClass_eq (List.mem_of_getElem? hi) hlow
  rw [makeRoom_eq, hlowest, if_pos hk, dropFirst_eq_eraseIdx hi (by simp) fun e he => by simpa using hfirst e he]

/-- Among alarms the oldest that is no EXHAUSTION record makes room for one (R163). -/
theorem makeRoom_exhaustion (halarm : ∀ e ∈ q, e.kind.cls = .ALARM) (hi : q[i]? = some r) (hr : r.kind ≠ .EXHAUSTION)
    (hfirst : ∀ e ∈ q.take i, e.kind = .EXHAUSTION) : makeRoom q .EXHAUSTION = some (q.eraseIdx i) := by
  have hmem : r ∈ q := List.mem_of_getElem? hi
  have hlowest : lowestClass q = .ALARM := by
    rw [lowestClass_eq hmem fun e he => by rw [halarm e he, halarm r hmem], halarm r hmem]
  have hother : (!r.isExhaustion) = true := by simp [Report.isExhaustion, hr]
  rw [makeRoom_eq, hlowest, if_neg (by decide), if_pos ⟨rfl, List.any_eq_true.2 ⟨r, hmem, hother⟩⟩,
    dropFirst_eq_eraseIdx hi hother fun e he => by simp [Report.isExhaustion, hfirst e he]]

/-- No room is made where no class is lower, nor any other alarm gives way to an EXHAUSTION record. -/
theorem makeRoom_none (hq : q ≠ []) (hlow : ∀ e ∈ q, e.kind.cls.code ≤ k.cls.code)
    (hex : k = .EXHAUSTION → ∀ e ∈ q, e.kind = .EXHAUSTION) : makeRoom q k = none := by
  obtain ⟨e, he, hcls⟩ := exists_lowestClass hq
  have hother : ¬ (k = .EXHAUSTION ∧ (q.any fun e => !e.isExhaustion) = true) := by
    rintro ⟨hk, hany⟩
    obtain ⟨a, ha, hno⟩ := List.any_eq_true.1 hany
    simp [Report.isExhaustion, hex hk a ha] at hno
  rw [makeRoom_eq, ← hcls, if_neg (Nat.not_lt.2 (hlow e he)), if_neg hother]

end

/-! ### The report as it is entered (R160 to R163) -/

/-- The record that a report makes where it does not merge (R158, R160). -/
def newReport (k : ReportKind) (s : Option PoleSet) (b : List Byte) (p : Part) : Report :=
  ⟨p.ru.nextNumber, k, s, p.tb, p.tb, 1, false, b⟩

section
variable {k : ReportKind} {s : Option PoleSet} {b : List Byte} {p : Part}

theorem any_mergesInto_eq_false (h : ∀ e ∈ p.ru.queue, ¬ ((k.cls = .ENERGY ∨ k.cls = .STATUS) ∧ e.kind = k ∧ e.poles = s)) :
    p.ru.queue.any (mergesInto k s) = false :=
  List.any_eq_false.2 fun e he hm => h e he (mergesInto_iff.1 hm)

/-- A report that joins what is left of the queue, by the queue, the number and the gap that it leaves. -/
theorem joined_leaves {q : List Report} {gap : Bool}
    (h : enterReport k s b p = judgeSending (withReports { p.ru.join q k s p.tb b with gapPending := gap } p)) :
    (enterReport k s b p).ru.queue = q ++ [newReport k s b p] ∧ (enterReport k s b p).ru.nextNumber = wrapNext p.ru.nextNumber ∧
      (enterReport k s b p).ru.gapPending = gap := by
  rw [h]
  refine ⟨?_, ?_, ?_⟩
  · rw [judgeSending_queue]
    rfl
  · rw [judgeSending_keeps _ (·.nextNumber) fun _ => rfl, withReports_ru]
    simp only [ReportUnit.join, ReportUnit.endBlock]
  · rw [judgeSending_keeps _ (·.gapPending) fun _ => rfl, withReports_ru]

end

/-- Settles O56: a record is sent as it is chosen; a report is entered by its merge, its room or its discard. -/
theorem reportIsSent : Obligations.ReportIsSent := by
  refine ⟨fun s hon hdue => ?_, fun kind poles body p => ?_⟩
  · obtain ⟨t, r, hexec, hr, haccount, hpermit, hmessage, hqueue, hframe, hpoles⟩ := reportSend_sends hon hdue
    simp only [ReportUnit.account, Prod.mk.injEq] at haccount
    obtain ⟨hpermits, hused, hsending, -⟩ := haccount
    exact ⟨t, r, hexec, hr.mem, by omega, hused, hsending, hmessage, hqueue, hr.exhaustion,
      fun hno => ⟨hr.oldest hno, hr.sent hno, hr.highest hno⟩, hframe, hpoles⟩
  · have haccount := enterReport_account kind poles body p
    simp only [ReportUnit.account, Prod.mk.injEq] at haccount
    obtain ⟨hpermits, hused, hsending, -⟩ := haccount
    refine ⟨enterReport_frame kind poles body p, hpermits, hused, hsending, fun i r hi hr hfirst => ?_, fun hroom hno => ?_,
      fun ⟨hfull, hno⟩ i r hi hk hlow hfirst => ?_, fun ⟨hfull, hno⟩ hk halarm i r hi hr hfirst => ?_,
      fun ⟨hfull, hno⟩ hlow hex => ?_⟩
    · have hmerge : mergesInto kind poles r = true := mergesInto_iff.2 hr
      have hothers : ∀ e ∈ p.ru.queue.take i, mergesInto kind poles e = false := fun e he =>
        Bool.eq_false_iff.2 fun hm => hfirst e he (mergesInto_iff.1 hm)
      rw [enterReport_merges (List.any_eq_true.2 ⟨r, List.mem_of_getElem? hi, hmerge⟩), mergeInto_eq_set hi hmerge hothers]
      exact ⟨rfl, rfl, rfl⟩
    · refine joined_leaves ((enterReport_joins (any_mergesInto_eq_false hno) hroom).trans ?_)
      rw [← p.ru.join_gapPending p.ru.queue kind poles p.tb body]
    · exact joined_leaves (enterReport_replaces (any_mergesInto_eq_false hno) hfull (makeRoom_lower hi hk hlow hfirst))
    · subst hk
      exact joined_leaves (enterReport_replaces (any_mergesInto_eq_false hno) hfull (makeRoom_exhaustion halarm hi hr hfirst))
    · have hne : p.ru.queue ≠ [] := List.ne_nil_of_length_pos (by omega)
      rw [enterReport_discards (any_mergesInto_eq_false hno) hfull (makeRoom_none hne hlow hex)]
      exact ⟨rfl, rfl, rfl⟩

end Sys2Proof.Machine
end
